-- ==== Sys2Proof/Word.lean ====
section
/-! DEFINITION. The words of the GL460 and its numbered places: bytes and 16-bit words (the handbook's serial
bytes, flag word, wrap count, check register), the numbers 1 to 8 of lines and marks, the numbers 1 to 4 of plans,
and plain tables of eight, of four and of one value for each direction. -/

namespace Sys2Proof

/-- A byte on the link, on the cabinet port or in the configuration memory. -/
abbrev Byte := BitVec 8

/-- A 16-bit word: the wrap count (R2), the flag word (R173), the check register (R4), the deferral generator (R15). -/
abbrev Word16 := BitVec 16

/-- The line numbers and mark numbers 1 … 8 (section 6.6 of the Introduction). -/
inductive Num8 where
  | n1 | n2 | n3 | n4 | n5 | n6 | n7 | n8
  deriving DecidableEq, Repr

/-- The plan numbers 1 … 4. -/
inductive Num4 where
  | n1 | n2 | n3 | n4
  deriving DecidableEq, Repr

/-- The eight numbers in rising order. -/
def Num8.all : List Num8 := [.n1, .n2, .n3, .n4, .n5, .n6, .n7, .n8]

/-- The number as the handbook writes it. -/
def Num8.toNat : Num8 → Nat
  | .n1 => 1 | .n2 => 2 | .n3 => 3 | .n4 => 4 | .n5 => 5 | .n6 => 6 | .n7 => 7 | .n8 => 8

/-- The line or mark that a number names: none outside 1 … 8. -/
def Num8.ofNumber : Nat → Option Num8
  | 1 => some .n1 | 2 => some .n2 | 3 => some .n3 | 4 => some .n4
  | 5 => some .n5 | 6 => some .n6 | 7 => some .n7 | 8 => some .n8
  | _ => none

/-- The four plan numbers in rising order. -/
def Num4.all : List Num4 := [.n1, .n2, .n3, .n4]

/-- The plan number as the handbook writes it. -/
def Num4.toNat : Num4 → Nat
  | .n1 => 1 | .n2 => 2 | .n3 => 3 | .n4 => 4

/-- The plan that a number names: none outside 1 … 4. -/
def Num4.ofNumber : Nat → Option Num4
  | 1 => some .n1 | 2 => some .n2 | 3 => some .n3 | 4 => some .n4
  | _ => none

/-- One value for each of the numbers 1 … 8. -/
structure Eight (α : Type) where
  n1 : α
  n2 : α
  n3 : α
  n4 : α
  n5 : α
  n6 : α
  n7 : α
  n8 : α
  deriving DecidableEq, Repr

/-- The value at a number. -/
def Eight.get {α : Type} (v : Eight α) : Num8 → α
  | .n1 => v.n1 | .n2 => v.n2 | .n3 => v.n3 | .n4 => v.n4
  | .n5 => v.n5 | .n6 => v.n6 | .n7 => v.n7 | .n8 => v.n8

/-- The table with the value at one number replaced. -/
def Eight.set {α : Type} (v : Eight α) (k : Num8) (x : α) : Eight α :=
  match k with
  | .n1 => { v with n1 := x } | .n2 => { v with n2 := x } | .n3 => { v with n3 := x } | .n4 => { v with n4 := x }
  | .n5 => { v with n5 := x } | .n6 => { v with n6 := x } | .n7 => { v with n7 := x } | .n8 => { v with n8 := x }

/-- The table whose value at each number is made from the number. -/
def Eight.make {α : Type} (f : Num8 → α) : Eight α :=
  ⟨f .n1, f .n2, f .n3, f .n4, f .n5, f .n6, f .n7, f .n8⟩

/-- The table with every value made anew from its number and its old value. -/
def Eight.mapNum {α β : Type} (f : Num8 → α → β) (v : Eight α) : Eight β :=
  Eight.make (fun k => f k (v.get k))

/-- The values in order of number. -/
def Eight.toList {α : Type} (v : Eight α) : List α :=
  [v.n1, v.n2, v.n3, v.n4, v.n5, v.n6, v.n7, v.n8]

/-- One value for each of the plan numbers 1 … 4. -/
structure Four (α : Type) where
  n1 : α
  n2 : α
  n3 : α
  n4 : α
  deriving DecidableEq, Repr

/-- The value at a plan number. -/
def Four.get {α : Type} (v : Four α) : Num4 → α
  | .n1 => v.n1 | .n2 => v.n2 | .n3 => v.n3 | .n4 => v.n4

/-- The two directions of traffic: toward the centre and away from it (section 6.2 of the Introduction). -/
inductive Direction where
  | inbound | outbound
  deriving DecidableEq, Repr

/-- One value for each direction. -/
structure PerDir (α : Type) where
  inbound : α
  outbound : α
  deriving DecidableEq, Repr

/-- The value for a direction. -/
def PerDir.get {α : Type} (v : PerDir α) : Direction → α
  | .inbound => v.inbound
  | .outbound => v.outbound

/-- The pair with the value for one direction replaced. -/
def PerDir.set {α : Type} (v : PerDir α) (d : Direction) (x : α) : PerDir α :=
  match d with
  | .inbound => { v with inbound := x }
  | .outbound => { v with outbound := x }

end Sys2Proof
end

