-- ==== Sys2Proof/Config.lean ====
section
/-! DEFINITION. What an installation fixes: the contents of a good configuration block (R177, R179, section 11.8),
with its plans, detector lines and output lines; and the one value the handbook leaves open, the time a wrap
computation takes (R100). -/

namespace Sys2Proof

/-- The role of a detector line (R62). -/
inductive Role where
  | unused | advIn | advOut | stopIn | stopOut | cross | transitHigh | transitLow
  deriving DecidableEq, Repr

/-- The polarity of an output line (section 10.1). -/
inductive Polarity where
  | direct | inverted
  deriving DecidableEq, Repr

/-- A storage state: how full an approach is (R74 to R76), coded on the link as in section 1.3. -/
inductive Storage where
  | clear | filling | full | unknown
  deriving DecidableEq, Repr

/-- The three modes in charge (chapter Station Modes). -/
inductive ChargeMode where
  | leading | seeking | inStep
  deriving DecidableEq, Repr

/-- The station mode (R80): one of the three out of charge, or in charge in one of its three modes. -/
inductive Mode where
  | pass | pickup | preempted
  | inCharge (m : ChargeMode)
  deriving DecidableEq, Repr

/-- The settings of one detector line (R62, R63, R70, R71). -/
structure DetectorSetting where
  role : Role
  /-- Filter time, in units of 10 ms, 0 … 25. -/
  filter : Nat
  /-- Stuck-on limit, in units of 10 ds, 10 … 255. -/
  stuckOn : Nat
  /-- Stuck-off limit, in wraps, 2 … 15. -/
  stuckOff : Nat
  deriving DecidableEq, Repr

/-- The settings of one output line (section 10.1): its mark or none, its polarity, its gate direction or NONE. -/
structure OutputSetting where
  mark : Option Num8
  polarity : Polarity
  gate : Option Direction
  deriving DecidableEq, Repr

/-- One plan: the fields of a plan part of the configuration block (section 11.8). -/
structure Plan where
  cBase : Nat
  cMin : Nat
  cMax : Nat
  cStep : Nat
  direction : Direction
  vIn : Nat
  vOut : Nat
  startLoss : Nat
  headway : Nat
  qMax : Nat
  gMin : Nat
  gateMin : Nat
  lostTime : Nat
  satArterial : Nat
  satCross : Nat
  capacity : PerDir Nat
  fFull : Nat
  fRel : Nat
  /-- Base positions of marks 1 … 8: 0 for an unused mark (R48). -/
  marks : Eight Nat
  /-- The stretch mark (R48). -/
  stretch : Num8
  eMax : Nat
  xMax : Nat
  xMin : Nat
  pLife : Nat
  deriving DecidableEq, Repr

/-- A configuration in force (R179). -/
structure Configuration where
  station : Nat
  group : Nat
  position : Nat
  reach : Nat
  period : Nat
  hopLimit : Nat
  retention : Nat
  syncUsed : Bool
  detectors : Eight DetectorSetting
  outputs : Eight OutputSetting
  plans : Four (Option Plan)
  deriving DecidableEq, Repr

/-- FREE VALUE (R100: the time within the bound of 1 to 20 ds "is not fixed, and it may differ from one computation
to the next"). The computation that the model numbers n takes 1 + (completionDelay n) deciseconds when nothing from
outside completes it sooner. No body: nothing can be proved of the value beyond the bound. -/
opaque Config.completionDelay : Nat → Fin 20

end Sys2Proof
end

