-- ==== Sys2Proof/Syntax.lean ====
section
/-! DEFINITION. The commands the GL460 takes: one constructor of Instr for each row of spec/opcode_table.json, in the
table's order, with the operands the rule of the row gives it. -/

namespace Sys2Proof

/-- The two filtered inputs of Mode Control (R81). -/
inductive CabinetInput where
  | sync | preempt
  deriving DecidableEq, Repr

/-- What the loader observes in one try at addressing the configuration memory (R178): how many of its readings of
the data line, from the first of the cleanup on, found it low before one found it high; and whether the memory
acknowledged each of the four address bytes A4, 00, 00 and A5. -/
structure LoadTry where
  lowReads : Nat
  ackWrite : Bool
  ackHigh : Bool
  ackLow : Bool
  ackRead : Bool
  deriving DecidableEq, Repr

/-- All that decides the course of a configuration load (R178): its tries in order, and the data bytes the memory
gives from address 0 on. -/
structure LoadObservation where
  tries : List LoadTry
  data : List Byte
  deriving DecidableEq, Repr

/-- The commands, one for each row of the table of operations and events. -/
inductive Instr where
  /-- POWER_UP (R181): power-up, or release of the reset input. -/
  | powerUp
  /-- CONFIG_LOAD_COMPLETE (R178, R179): a load ends, having observed this of the memory. -/
  | configLoadComplete (obs : LoadObservation)
  /-- LINE_BUSY (R16): a start bit on the link. -/
  | lineBusy
  /-- LINE_IDLE (R3): the idle gap has run out. -/
  | lineIdle
  /-- DEFERRAL_END (R15): the running deferral runs out. -/
  | deferralEnd
  /-- FRAME_MARK (R5): the end of a correctly framed second start byte, received or of the unit's own attempt. -/
  | frameMark
  /-- FRAME_RECEIVED (R10): the second check byte of a frame arrives, correctly framed, with this value. -/
  | frameReceived (check : Byte)
  /-- COLLISION (R18): a read-back mismatch in the running attempt. -/
  | collision
  /-- ATTEMPT_SUCCESS (R17): the last check byte of the running attempt is sent and read back clean. -/
  | attemptSuccess
  /-- BEACON_TIMER_EXPIRY (R20). -/
  | beaconTimerExpiry
  /-- LINK_SILENT (R12): the link-silence timer is at zero. -/
  | linkSilent
  /-- ENTRY_QUIET (R33): the silence timer of this station's entry is down to 3 × P. -/
  | entryQuiet (station : Nat)
  /-- EXPIRY (R34): the silence timer of this station's entry is at zero. -/
  | expiry (station : Nat)
  /-- CLOCK_STEP (R44): a decisecond step of the running clock. -/
  | clockStep
  /-- WRAP (R45): a step that would reach C_run. -/
  | wrap
  /-- COMPLETION (R102): the wrap computation in flight completes. -/
  | completion
  /-- MARK_DUE (R50): the position has reached this mark. -/
  | markDue (mark : Num8)
  /-- GATE_POINT_REACHED (R139): the position has reached this direction's gate point. -/
  | gatePointReached (dir : Direction)
  /-- WINDOW_OPENING (R153): both limits of the early window are first met. -/
  | windowOpening
  /-- EXTENSION_LIMIT (R152): the extension's run has reached its limit. -/
  | extensionLimit
  /-- REQUEST_EXPIRY (R148): the age of this line's queued request has reached P_life. -/
  | requestExpiry (line : Num8)
  /-- DETECTOR_INPUT_CHANGE (R63): a detector line's raw input takes this level (true: active). -/
  | detectorInputChange (line : Num8) (level : Bool)
  /-- FILTERED_RISING_EDGE (R65): the filter time of a line whose raw input is active has passed. -/
  | filteredRisingEdge (line : Num8)
  /-- FILTERED_FALLING_EDGE (R64): the filter time of a line whose raw input is inactive has passed. -/
  | filteredFallingEdge (line : Num8)
  /-- STUCK_ON (R70): a line's occupied run has reached its stuck-on limit. -/
  | stuckOn (line : Num8)
  /-- FULL_ENTRY (R74): the occupied run of a direction's advance line has reached F_full. -/
  | fullEntry (dir : Direction)
  /-- FULL_RELEASE (R75): the vacant run of a direction's advance line has reached F_rel. -/
  | fullRelease (dir : Direction)
  /-- CABINET_INPUT_CHANGE (R81): the sync or preempt input takes this raw level (true: active). -/
  | cabinetInputChange (input : CabinetInput) (level : Bool)
  /-- SYNC_RISING_EDGE (R84). -/
  | syncRisingEdge
  /-- SYNC_FALLING_EDGE (R81). -/
  | syncFallingEdge
  /-- PREEMPT_RISING_EDGE (R88). -/
  | preemptRisingEdge
  /-- PREEMPT_FALLING_EDGE (R89). -/
  | preemptFallingEdge
  /-- PICKUP_TIMEOUT (R85): the pickup elapsed time has reached C_base + 100. -/
  | pickupTimeout
  /-- PASS_THROUGH_CHANGE (R160): a pass-through input takes this level (true: active). -/
  | passThroughChange (line : Num8) (level : Bool)
  /-- MALFORMED_MESSAGE (R171): a message that ended malformed is taken; its kind byte, or 00 when it ended before
  that byte. -/
  | malformedMessage (kind : Byte)
  /-- MESSAGE_TIMEOUT (R169): more than 20 byte times have passed since the last byte of an open message. -/
  | messageTimeout
  /-- PORT_OVERRUN (R170): a start byte arrives while a command is in hand. -/
  | portOverrun
  /-- RESPONSE_SENT (R170): the last stop bit of the response is sent. -/
  | responseSent
  /-- STATUS (R172): the command is taken. -/
  | status
  /-- TABLE (R42): the command is taken. -/
  | table
  /-- COUNTERS (R172): the command is taken. -/
  | counters
  /-- LOG (R176): the command is taken. -/
  | log
  /-- FLAGS (R173): the command is taken. -/
  | flags
  /-- CLEAR (R173): the command is taken with this flag word. -/
  | clear (word : Word16)
  /-- MASK (R173): the command is taken with this flag word. -/
  | mask (word : Word16)
  /-- PLAN (R91): the command is taken with this plan number. -/
  | plan (number : Byte)
  /-- MANUAL (R165): the command is taken with this line and level. -/
  | manual (line : Byte) (level : Byte)
  /-- RELEASE (R166): the command is taken with this line. -/
  | release (line : Byte)
  /-- HOLD (R90): the command is taken. -/
  | hold
  /-- RESUME (R83): the command is taken. -/
  | resume
  /-- RESTART (R180): the command is taken. -/
  | restart
  /-- LINK_BYTE_RECEIVED (R8): a byte on the link, with a framing error or without. -/
  | linkByteReceived (byte : Byte) (framingError : Bool)
  /-- PORT_BYTE_RECEIVED (R169): a byte on the cabinet port, with a framing error or without. -/
  | portByteReceived (byte : Byte) (framingError : Bool)
  /-- RESET_ASSERTED (R158): the reset input is asserted. -/
  | resetAsserted
  /-- SUPPLY_OUT_OF_RANGE (R158): the supply leaves its range. -/
  | supplyOutOfRange
  deriving DecidableEq, Repr

end Sys2Proof
end

