-- ==== Sys2Proof/Machine/State.lean ====
section
/-! DEFINITION. The state of the GL460, block by block as section 3 of the Introduction lists it, the reasons a step can
stop, and the state right after reset. -/

namespace Sys2Proof.Machine

/-- Reasons a step can stop with a fault. The handbook gives no event that stops the unit, and no meaning of the model
answers with a fault, so there is none. -/
inductive Fault where
  deriving DecidableEq, Repr

/-- Reasons a step can be refused. -/
inductive Refusal where
  /-- Raised by an arm of exec whose command has no meaning yet: safe, since nothing can be proved of what follows.
  No arm raises it. -/
  | notModelled (mnemonic : String)
  deriving DecidableEq, Repr

/-! ### Values that pass between blocks -/

/-- A capture (R59): the unit's own cycle position and wrap count, read at one instant. -/
structure Capture where
  position : Nat
  wrapCount : Word16
  deriving DecidableEq, Repr

/-- A demand triple (R97): value, origin and hops. An origin of 0 is none. -/
structure Triple where
  value : Nat
  origin : Nat
  hops : Nat
  deriving DecidableEq, Repr

/-- What a station says of one approach (R6): its storage state and the station it names as feeding it, 0 for none. -/
structure Approach where
  storage : Storage
  fedBy : Nat
  deriving DecidableEq, Repr

/-- What a station's BEACON says beside its approaches (R6, R23). -/
structure Beacon where
  position : Nat
  period : Nat
  mode : ChargeMode
  direction : Direction
  cycle : Nat
  stamped : Nat
  triple : Triple
  deriving DecidableEq, Repr

/-- The state of an entry of the Neighbour Table (R23). -/
inductive EntryState where
  | live | quiet
  deriving DecidableEq, Repr

/-- One entry of the Neighbour Table (R23). -/
structure Entry where
  station : Nat
  beacon : Beacon
  approaches : PerDir Approach
  capture : Capture
  silence : Nat
  state : EntryState
  deriving DecidableEq, Repr

/-- The closed record of a finished cycle (R68). -/
structure ClosedRecord where
  stop : PerDir Nat
  cross : Nat
  onRed : PerDir Nat
  onGreen : PerDir Nat
  deriving DecidableEq, Repr

/-- A grant made in a cycle, with its deciseconds (R145, R152, R154). -/
inductive Grant where
  | extension (ds : Nat)
  | early (ds : Nat)
  deriving DecidableEq, Repr

/-- The gating marks of a cycle, for one direction (R133, R143). -/
structure GatingMarks where
  active : Bool
  entered : Bool
  endedByLoss : Bool
  deriving DecidableEq, Repr

/-- One record of the cycle log (R175). -/
structure LogRecord where
  wrapCount : Word16
  plan : Option Num4
  direction : Option Direction
  mode : Mode
  cycle : Nat
  running : Nat
  adjustment : Int
  error : Option Int
  reference : Option Nat
  closed : ClosedRecord
  storage : PerDir Storage
  gating : PerDir GatingMarks
  grant : Option Grant
  triple : Triple
  deriving DecidableEq, Repr

/-! ### Link Controller -/

/-- The kinds of frame and of transmit slot (section 1.3, section 1.5). -/
inductive FrameKind where
  | beacon | storage | depart
  deriving DecidableEq, Repr

/-- The reason a DEPART gives (section 1.3). -/
inductive DepartReason where
  | preempt | hold
  deriving DecidableEq, Repr

/-- The line state (R3). -/
inductive LineState where
  | idle | busy
  deriving DecidableEq, Repr

/-- The receive state (section 1.4), with what is held of the frame in it: from the mark on the capture (R5), in BODY
the length byte and the bytes so far, in CHECK all counted bytes and the first check byte once it has come. -/
inductive Receiver where
  | hunt
  | start2
  | length (capture : Capture)
  | body (capture : Capture) (length : Nat) (got : List Byte)
  | check (capture : Capture) (length : Nat) (got : List Byte) (first : Option Byte)
  deriving DecidableEq, Repr

/-- A running deferral (R15): the kind of the frame chosen and the slots drawn. -/
structure Deferral where
  kind : FrameKind
  slots : Nat
  deriving DecidableEq, Repr

/-- A running attempt (R17): its kind, and from its mark on the whole frame, start bytes through check, whose contents
were read there. -/
structure Attempt where
  kind : FrameKind
  frame : Option (List Byte)
  deriving DecidableEq, Repr

/-- The attempt count k and the kind of the pending frame it belongs to (R14). -/
structure Contention where
  kind : FrameKind
  count : Nat
  deriving DecidableEq, Repr

/-- The Link Controller. -/
structure LC where
  line : LineState
  receiver : Receiver
  /-- The DEPART slot: the held reason while it holds a pending frame. -/
  depart : Option DepartReason
  departRenewal : Bool
  /-- Whether the STORAGE slot holds a pending frame. -/
  storage : Bool
  storageRenewal : Bool
  /-- Whether the BEACON slot holds a pending frame. -/
  beacon : Bool
  beaconRenewal : Bool
  contention : Option Contention
  deferral : Option Deferral
  attempt : Option Attempt
  /-- The deferral generator g (R15). -/
  generator : Word16
  /-- The beacon timer, in ds; none while stopped (R20). -/
  beaconTimer : Option Nat
  /-- The link-silence timer, in ds; none while stopped (R12). -/
  silenceTimer : Option Nat
  deriving DecidableEq, Repr

/-! ### Neighbour Table -/

/-- The Neighbour Table: its entries in order of position, and the last reference (R23, R39). -/
structure NT where
  entries : List Entry
  lastReference : Option Nat
  deriving DecidableEq, Repr

/-! ### Cycle Timer -/

/-- The cycle state of a mark (R43). -/
inductive MarkState where
  | unused | waiting | held | due
  deriving DecidableEq, Repr

/-- A mark: its current position and its cycle state (R43). The spec gives an UNUSED mark no position; that the model
holds 0 there, also after reset, is the model's choice (DESIGN CHOICE, log entry 36). -/
structure Mark where
  position : Nat
  state : MarkState
  deriving DecidableEq, Repr

/-- The extension state of the running cycle (R43). -/
inductive ExtensionState where
  | none | running | ended
  deriving DecidableEq, Repr

/-- The Cycle Timer (R43). -/
structure CT where
  /-- Clock state: true while RUNNING, false while STANDING. -/
  running : Bool
  position : Nat
  cRun : Nat
  wrapCount : Word16
  adjustment : Int
  /-- The extension time x, which is also the run so far of the Priority Arbiter's extension (R54, R152). -/
  x : Nat
  extension : ExtensionState
  earlyGreen : Bool
  completionSeen : Bool
  marks : Eight Mark
  deriving DecidableEq, Repr

/-! ### Detector Interface -/

/-- The fault state of a detector line (R70 to R72). -/
inductive FaultState where
  | good | stuckOn | stuckOff
  deriving DecidableEq, Repr

/-- Counts of one line: count for a STOP or CROSS line, onRed and onGreen for an advance line (R65). -/
structure Counts where
  count : Nat
  onRed : Nat
  onGreen : Nat
  deriving DecidableEq, Repr

/-- One detector line (R63 to R73). -/
structure DetectorLine where
  /-- The raw input's level: true while active. -/
  raw : Bool
  /-- The filtered level: true while OCCUPIED. -/
  occupied : Bool
  /-- Whether the filter is timing. -/
  timing : Bool
  occupiedRun : Nat
  vacantRun : Nat
  fault : FaultState
  counts : Counts
  held : Counts
  zeroRun : Nat
  deriving DecidableEq, Repr

/-- The Detector Interface. -/
structure DI where
  lines : Eight DetectorLine
  closed : ClosedRecord
  storage : PerDir Storage
  /-- Green state of each direction: true while SHOWING, false once ENDED (R66). -/
  green : PerDir Bool
  deriving DecidableEq, Repr

/-! ### Coordination Arithmetic Unit -/

/-- The snapshot of a wrap computation (R98). -/
structure Snapshot where
  closed : ClosedRecord
  cPrev : Nat
  finished : Word16
  pendingPlan : Option Num4
  previousMode : ChargeMode
  entries : List Entry
  reference : Option Entry
  cycle : Nat
  smoothed : Nat
  deriving DecidableEq, Repr

/-- The Coordination Arithmetic Unit (R97). Its activity is IN FLIGHT while it has a snapshot and IDLE otherwise. -/
structure CAU where
  snapshot : Option Snapshot
  smoothed : Nat
  cycle : Nat
  triple : Triple
  lastError : Option Int
  lastAdjustment : Int
  deriving DecidableEq, Repr

/-! ### Mode Control -/

/-- A filtered input of Mode Control (R81). -/
structure FilteredInput where
  raw : Bool
  active : Bool
  timing : Bool
  deriving DecidableEq, Repr

/-- Mode Control (R80), with its two filtered inputs (R81). -/
structure MC where
  mode : Mode
  plan : Option Num4
  pendingPlan : Option Num4
  pendingTaken : Bool
  pickupElapsed : Nat
  sync : FilteredInput
  preempt : FilteredInput
  deriving DecidableEq, Repr

/-! ### Gating Logic -/

/-- The Gating Logic's state for one direction (R133). Gating is ON while there is a gating station. -/
structure Gate where
  station : Option Nat
  point : Option Nat
  reached : Bool
  marks : GatingMarks
  deriving DecidableEq, Repr

/-! ### Priority Arbiter -/

/-- The group of a transit request (R145). -/
inductive TransitGroup where
  | high | low
  deriving DecidableEq, Repr

/-- A queued transit request (R145). -/
structure Request where
  line : Num8
  group : TransitGroup
  age : Nat
  deriving DecidableEq, Repr

/-- A running extension: the line it serves and its limit (R145). Its run so far is the Cycle Timer's x. -/
structure Extension where
  line : Num8
  limit : Nat
  deriving DecidableEq, Repr

/-- The Priority Arbiter (R145), with whether the early window has opened in the running cycle (R153). -/
structure PA where
  queue : List Request
  extension : Option Extension
  grantUsed : Bool
  cycleGrant : Option Grant
  windowOpened : Bool
  deriving DecidableEq, Repr

/-! ### Output Line Unit -/

/-- One output line: its manual level or none, its mark-drive state (true: SET), and its pass-through input's level
(R158, R160). Its source and output level follow from these, the mode and the configuration (Operands.lean). -/
structure OutputLine where
  manual : Option Bool
  drive : Bool
  passThrough : Bool
  deriving DecidableEq, Repr

/-! ### Cabinet Port and Configuration Loader -/

/-- The thirteen commands of the cabinet port (R171). -/
inductive HostKind where
  | status | table | counters | log | flags | clear | mask | plan | manual | release | hold | resume | restart
  deriving DecidableEq, Repr

/-- What the Cabinet Port has in hand (R170): a command of a known kind that was answered OK or EMPTY, or a message
that was refused. -/
inductive InHand where
  | accepted (kind : HostKind)
  | refused
  deriving DecidableEq, Repr

/-- The state of the port's receiver (R169), with the bytes of the open message, and whether that message is an
overrun (R170). -/
inductive PortReceiver where
  | wait
  | length (overrun : Bool)
  | body (overrun : Bool) (length : Nat) (got : List Byte)
  | check (overrun : Bool) (length : Nat) (got : List Byte)
  deriving DecidableEq, Repr

/-- The Cabinet Port: receiver, command in hand and the response being sent for it, sticky flags, alert mask, cycle
log, and its own copy of the error and reference of the last completion (R170, R173 to R175). -/
structure CP where
  receiver : PortReceiver
  inHand : Option InHand
  /-- The bytes of the response of the command in hand; empty when none is. -/
  response : List Byte
  flags : Word16
  mask : Word16
  log : List LogRecord
  /-- The port's own copy of the last completion's error (R175). Before the first completion it is none, the model's
  choice (DESIGN CHOICE, log entry 39). -/
  logError : Option Int
  /-- The port's own copy of the reference a completion recorded (R175). Before the first completion it is none, the
  model's choice (DESIGN CHOICE, log entry 39). -/
  logReference : Option Nat
  deriving DecidableEq, Repr

/-- The Configuration Loader: load status, with the configuration in force while GOOD and the failure index while BAD
(R179, R181). -/
inductive Load where
  | loading
  | good (c : Configuration)
  | bad (index : Nat)
  deriving DecidableEq, Repr

/-- The fourteen event counters in the order of COUNTERS (R172). -/
structure Counters where
  goodRx : Nat
  rxError : Nat
  foreign : Nat
  sent : Nat
  collision : Nat
  txAbandoned : Nat
  tableRefused : Nat
  detectorFault : Nat
  preempted : Nat
  priorityExtended : Nat
  priorityEarly : Nat
  priorityExpired : Nat
  portOverrun : Nat
  logTimeout : Nat
  deriving DecidableEq, Repr

/-! ### The whole unit -/

/-- The state of a GL460: its eleven blocks, its counters, the reset input and the supply, the model's own counter of
computations, and the commands that wait, first in, first out. -/
structure State where
  lc : LC
  nt : NT
  ct : CT
  di : DI
  cau : CAU
  mc : MC
  gt : PerDir Gate
  pa : PA
  olu : Eight OutputLine
  cp : CP
  cl : Load
  counters : Counters
  /-- Whether the reset input is held. -/
  resetHeld : Bool
  /-- Whether the supply is out of range. -/
  supplyOut : Bool
  /-- The model's own: the number of computations begun, the argument of Config.completionDelay. -/
  computations : Nat
  pending : List Instr
  deriving DecidableEq, Repr

/-! ### Values after power-up -/

/-- Counts of zero. -/
def Counts.zero : Counts := ⟨0, 0, 0⟩

/-- The closed record with 0 in every field (R69, R79). -/
def ClosedRecord.zero : ClosedRecord := ⟨⟨0, 0⟩, 0, ⟨0, 0⟩, ⟨0, 0⟩⟩

/-- The Link Controller after power-up and RESTART, on a line in the given state (R22). The generator's value before
its seed is the model's (log entry 9). -/
def LC.initial (line : LineState) : LC :=
  { line := line, receiver := .hunt, depart := none, departRenewal := false, storage := false,
    storageRenewal := false, beacon := false, beaconRenewal := false, contention := none, deferral := none,
    attempt := none, generator := 0, beaconTimer := none, silenceTimer := none }

/-- The Neighbour Table after power-up and RESTART (R41). -/
def NT.initial : NT := ⟨[], none⟩

/-- The Cycle Timer after power-up and RESTART (R43). The position 0 of its UNUSED marks is the model's (log entry 36). -/
def CT.initial : CT :=
  { running := false, position := 0, cRun := 300, wrapCount := 0, adjustment := 0, x := 0, extension := .none,
    earlyGreen := false, completionSeen := false, marks := Eight.make (fun _ => ⟨0, .unused⟩) }

/-- A detector line after power-up and RESTART, with its raw input at the given level (R79). -/
def DetectorLine.initial (raw : Bool) : DetectorLine :=
  { raw := raw, occupied := false, timing := false, occupiedRun := 0, vacantRun := 0, fault := .good,
    counts := .zero, held := .zero, zeroRun := 0 }

/-- The Detector Interface after power-up and RESTART, with its raw inputs at the given levels (R79). -/
def DI.initial (raw : Eight Bool) : DI :=
  { lines := raw.mapNum (fun _ r => DetectorLine.initial r), closed := .zero, storage := ⟨.clear, .clear⟩,
    green := ⟨false, false⟩ }

/-- The Coordination Arithmetic Unit after power-up and RESTART (R97). -/
def CAU.initial : CAU :=
  { snapshot := none, smoothed := 300, cycle := 300, triple := ⟨300, 0, 0⟩, lastError := none, lastAdjustment := 0 }

/-- A filtered input after power-up and RESTART: INACTIVE, and timing when its raw input is active already (R81). -/
def FilteredInput.initial (raw : Bool) : FilteredInput := { raw := raw, active := false, timing := raw }

/-- Mode Control after power-up and RESTART, with its raw inputs at the given levels (R80, R81). -/
def MC.initial (sync preempt : Bool) : MC :=
  { mode := .pass, plan := none, pendingPlan := none, pendingTaken := false, pickupElapsed := 0,
    sync := .initial sync, preempt := .initial preempt }

/-- Gating marks that are all no. -/
def GatingMarks.none : GatingMarks := ⟨false, false, false⟩

/-- The Gating Logic for one direction after power-up and RESTART (R133). -/
def Gate.initial : Gate := { station := none, point := none, reached := false, marks := .none }

/-- The Priority Arbiter after power-up and RESTART (R145). -/
def PA.initial : PA :=
  { queue := [], extension := none, grantUsed := false, cycleGrant := none, windowOpened := false }

/-- An output line after power-up and RESTART, with its pass-through input at the given level (R158). -/
def OutputLine.initial (passThrough : Bool) : OutputLine :=
  { manual := none, drive := false, passThrough := passThrough }

/-- The Cabinet Port after power-up and RESTART, with the flags and mask given (R180, R181). The rules give no value for
the port's own copy of the last completion's error and reference: none for both is the model's choice (DESIGN CHOICE,
log entry 39). -/
def CP.initial (flags mask : Word16) : CP :=
  { receiver := .wait, inHand := none, response := [], flags := flags, mask := mask, log := [], logError := none,
    logReference := none }

/-- Every counter at 0 (R172). -/
def Counters.zero : Counters := ⟨0, 0, 0, 0, 0, 0, 0, 0, 0, 0, 0, 0, 0, 0⟩

/-- The machine right after reset (R181): every block at its power-up value and a configuration load begun. The line
IDLE, and every input pin inactive, are the model's (log entries 7 and 8). -/
def State.reset : State :=
  { lc := .initial .idle, nt := .initial, ct := .initial, di := .initial (Eight.make (fun _ => false)),
    cau := .initial, mc := .initial false false, gt := ⟨.initial, .initial⟩, pa := .initial,
    olu := Eight.make (fun _ => OutputLine.initial false), cp := .initial 0 0, cl := .loading, counters := .zero,
    resetHeld := false, supplyOut := false, computations := 0, pending := [] }

end Sys2Proof.Machine
end

