-- ==== Sys2Proof/Machine/Flags.lean ====
section
/-! DEFINITION. The sticky flags and the event counters (R2, R172, R173), the conditions under which the unit works at
all, and the frame every meaning stands in. -/

namespace Sys2Proof.Machine

/-- The fourteen sticky flags (R173). -/
inductive Flag where
  | configBad | linkSilent | rxError | txAbandoned | duplicateNumber | tableFull | referenceLost | detectorFault
  | gatingEntered | priorityExpired | preempted | pickupTimeout | logTimeout | portOverrun
  deriving DecidableEq, Repr

/-- The bit of the flag word that names a flag (R173). -/
def Flag.bit : Flag → Nat
  | .configBad => 0 | .linkSilent => 1 | .rxError => 2 | .txAbandoned => 3 | .duplicateNumber => 4 | .tableFull => 5
  | .referenceLost => 6 | .detectorFault => 7 | .gatingEntered => 8 | .priorityExpired => 9 | .preempted => 10
  | .pickupTimeout => 11 | .logTimeout => 12 | .portOverrun => 13

/-- The flag word with one flag's bit set and no other. -/
def Flag.word (f : Flag) : Word16 := BitVec.ofNat 16 (2 ^ f.bit)

/-- Sets a sticky flag; one already set stays set (R173). -/
def setFlag (f : Flag) (s : State) : State := { s with cp := { s.cp with flags := s.cp.flags ||| f.word } }

/-- The next count of an event counter, which stops at 65 535 (R2). -/
def countEvent (n : Nat) : Nat := min (n + 1) 65535

/-- The next count of a per-cycle detector count, which stops at 255 (R2). -/
def countVehicle (n : Nat) : Nat := min (n + 1) 255

/-- The fourteen event counters' names (R172). -/
inductive Counter where
  | goodRx | rxError | foreign | sent | collision | txAbandoned | tableRefused | detectorFault | preempted
  | priorityExtended | priorityEarly | priorityExpired | portOverrun | logTimeout
  deriving DecidableEq, Repr

/-- The counters with one event more counted (R2, R172). -/
def Counters.bump (n : Counters) : Counter → Counters
  | .goodRx => { n with goodRx := countEvent n.goodRx }
  | .rxError => { n with rxError := countEvent n.rxError }
  | .foreign => { n with foreign := countEvent n.foreign }
  | .sent => { n with sent := countEvent n.sent }
  | .collision => { n with collision := countEvent n.collision }
  | .txAbandoned => { n with txAbandoned := countEvent n.txAbandoned }
  | .tableRefused => { n with tableRefused := countEvent n.tableRefused }
  | .detectorFault => { n with detectorFault := countEvent n.detectorFault }
  | .preempted => { n with preempted := countEvent n.preempted }
  | .priorityExtended => { n with priorityExtended := countEvent n.priorityExtended }
  | .priorityEarly => { n with priorityEarly := countEvent n.priorityEarly }
  | .priorityExpired => { n with priorityExpired := countEvent n.priorityExpired }
  | .portOverrun => { n with portOverrun := countEvent n.portOverrun }
  | .logTimeout => { n with logTimeout := countEvent n.logTimeout }

/-- Counts one event (R172). -/
def count (c : Counter) (s : State) : State := { s with counters := s.counters.bump c }

/-- The counters in the order of COUNTERS (R172). -/
def Counters.toList (n : Counters) : List Nat :=
  [n.goodRx, n.rxError, n.foreign, n.sent, n.collision, n.txAbandoned, n.tableRefused, n.detectorFault, n.preempted,
   n.priorityExtended, n.priorityEarly, n.priorityExpired, n.portOverrun, n.logTimeout]

/-- Whether the unit works: the reset input is not held and the supply is in range (R158). -/
def State.powered (s : State) : Bool := !s.resetHeld && !s.supplyOut

/-- The frame of a meaning: the command's effect on a working unit, and no effect while the reset input is held or the
supply is out of range (log entry 5). -/
def onUnit (f : State → State) (s : State) : Host.Outcome State Fault Refusal :=
  .next (if s.powered then f s else s)

end Sys2Proof.Machine
end

