-- ==== Sys2Proof/Machine/Operands.lean ====
section
/-! DEFINITION. What blocks read of one another: the configuration and plan in force, the mode, the selections drawn
from the Neighbour Table (R36 to R39), the output lines' sources and levels (R159 to R162), the alert and charge
outputs (R95, R167), and the arithmetic conventions of R1. -/

namespace Sys2Proof

/-! ### Roles of detector lines (R62) -/

/-- A line that is not UNUSED. -/
def roleUsed : Role → Bool
  | .unused => false
  | _ => true

/-- The direction of an advance line. -/
def roleAdvance : Role → Option Direction
  | .advIn => some .inbound
  | .advOut => some .outbound
  | _ => none

/-- The group of a transit line. -/
def roleTransit : Role → Option Machine.TransitGroup
  | .transitHigh => some .high
  | .transitLow => some .low
  | _ => none

/-- A line that counts. -/
def roleCounts : Role → Bool
  | .advIn | .advOut | .stopIn | .stopOut | .cross => true
  | .unused | .transitHigh | .transitLow => false

/-- The role of an advance line of a direction. -/
def advanceRole : Direction → Role
  | .inbound => .advIn
  | .outbound => .advOut

/-- The role of a detector line. -/
def Configuration.role (c : Configuration) (k : Num8) : Role := (c.detectors.get k).role

/-- The advance line of a direction; a role with no line is absent (R62). -/
def Configuration.advanceLine (c : Configuration) (d : Direction) : Option Num8 :=
  Num8.all.find? (fun k => decide (c.role k = advanceRole d))

/-- The stuck-on limit of a line, in deciseconds (R70, section 11.8). -/
def Configuration.stuckOnLimit (c : Configuration) (k : Num8) : Nat := 10 * (c.detectors.get k).stuckOn

/-! ### Marks of a plan (R48) -/

/-- The base position of a mark (R48). -/
def Plan.base (p : Plan) (m : Num8) : Nat := p.marks.get m

/-- A mark is used when its base position is not 0 (R48). -/
def Plan.usesMark (p : Plan) (m : Num8) : Bool := decide (p.base m ≠ 0)

/-- A stretched mark is used and at or after the stretch mark in base position (R48). -/
def Plan.stretches (p : Plan) (m : Num8) : Bool := p.usesMark m && decide (p.base p.stretch ≤ p.base m)

/-- The scaled position of a mark at base cycle c: base × C div C_base (R48). -/
def Plan.scaled (p : Plan) (c : Nat) (m : Num8) : Nat := p.base m * c / p.cBase

/-- Whether an output line names a mark used in the plan. -/
def lineMarkUsed (o : OutputSetting) (p : Plan) : Bool :=
  match o.mark with
  | some m => p.usesMark m
  | none => false

end Sys2Proof

namespace Sys2Proof.Machine

/-! ### Arithmetic conventions (R1) -/

/-- "Clamp x to [lo, hi]" (R1). -/
def clampNat (x lo hi : Nat) : Nat := if x < lo then lo else if hi < x then hi else x

/-- "Clamp x to [lo, hi]" on integers (R1). -/
def clampInt (x lo hi : Int) : Int := if x < lo then lo else if hi < x then hi else x

/-- "Signed wrap" of z in 0 … C − 1 (R1). -/
def signedWrap (z c : Nat) : Int := if z ≤ c / 2 then (z : Int) else (z : Int) - (c : Int)

/-- The absolute difference of two positions, in metres (R24). -/
def distance (a b : Nat) : Nat := if a ≤ b then b - a else a - b

/-! ### Configuration, plan and mode -/

/-- The configuration in force, if the load ended good (R179). -/
def State.config (s : State) : Option Configuration :=
  match s.cl with
  | .good c => some c
  | .loading | .bad _ => none

/-- The plan in force, if there is one (R80). -/
def State.planInForce (s : State) : Option Plan :=
  match s.config, s.mc.plan with
  | some c, some n => c.plans.get n
  | _, _ => none

/-- The configuration and the plan in force together. -/
def State.setup (s : State) : Option (Configuration × Plan) :=
  match s.config, s.planInForce with
  | some c, some p => some (c, p)
  | _, _ => none

/-- Whether a mode is in charge (chapter Station Modes). -/
def modeInCharge : Mode → Bool
  | .inCharge _ => true
  | .pass | .pickup | .preempted => false

/-- Whether the unit is in charge. -/
def State.inCharge (s : State) : Bool := modeInCharge s.mc.mode

/-! ### Selections from the Neighbour Table -/

/-- The other direction. -/
def oppositeDirection : Direction → Direction
  | .inbound => .outbound
  | .outbound => .inbound

/-- The nearest entry on the reference side of a direction: the greater side for INBOUND, the smaller for OUTBOUND. The
entries stand in order of position, so it is the first entry above the own position, or the last below it (R36). -/
def nearestUpstream (own : Nat) (entries : List Entry) : Direction → Option Entry
  | .inbound => entries.find? (fun e => decide (own < e.beacon.position))
  | .outbound => (entries.filter (fun e => decide (e.beacon.position < own))).getLast?

/-- The fed-by selection of a direction: the nearest station upstream, or 0 (R37). -/
def fedBySelection (own : Nat) (entries : List Entry) (d : Direction) : Nat :=
  match nearestUpstream own entries d with
  | some e => e.station
  | none => 0

/-- The downstream neighbour of a direction: for INBOUND the nearest entry on the smaller side (R38). -/
def downstreamNeighbour (own : Nat) (entries : List Entry) (d : Direction) : Option Entry :=
  nearestUpstream own entries (oppositeDirection d)

/-- The entry of a station. -/
def findEntry (entries : List Entry) (station : Nat) : Option Entry :=
  entries.find? (fun e => decide (e.station = station))

/-! ### Output lines -/

/-- The output lines that count for a direction: those with that gate direction that name a mark used in the plan in
force (R66, R139). -/
def countingLines (c : Configuration) (p : Plan) (d : Direction) : List Num8 :=
  Num8.all.filter (fun k => decide ((c.outputs.get k).gate = some d) && lineMarkUsed (c.outputs.get k) p)

/-- The source of an output line (R158). -/
inductive Source where
  | passThrough | inactive | manual | markDrive
  deriving DecidableEq, Repr

/-- The source a line takes: the highest-ranked one that applies (R159). -/
def sourceOf (mode : Mode) (manual : Option Bool) : Source :=
  match mode with
  | .pass | .pickup => .passThrough
  | .preempted => .inactive
  | .inCharge _ => if manual.isSome then .manual else .markDrive

/-- The source of output line k (R159). -/
def State.source (s : State) (k : Num8) : Source := sourceOf s.mc.mode (s.olu.get k).manual

/-- The level mark drive gives line k: by mark-drive state and polarity, and inactive when the line's mark is none or
unused (R162). -/
def State.markDriveLevel (s : State) (k : Num8) : Bool :=
  match s.setup with
  | some (c, p) =>
    lineMarkUsed (c.outputs.get k) p &&
      (match (c.outputs.get k).polarity with
       | .direct => (s.olu.get k).drive
       | .inverted => !(s.olu.get k).drive)
  | none => false

/-- The level of output line k, true for active: its source's level, and inactive while the reset input is held or the
supply is out of range (R158, R159). -/
def State.outputLevel (s : State) (k : Num8) : Bool :=
  s.powered &&
    (match s.source k with
     | .passThrough => (s.olu.get k).passThrough
     | .inactive => false
     | .manual => (s.olu.get k).manual == some true
     | .markDrive => s.markDriveLevel k)

/-- The alert output: active while a set flag is selected by the mask (R167), and inactive while the reset input is held
or the supply is out of range (R158). -/
def State.alertOutput (s : State) : Bool := s.powered && decide (s.cp.flags &&& s.cp.mask ≠ 0)

/-- The charge output: active in charge (R95), and inactive while the reset input is held or the supply is out of range
(R158). -/
def State.chargeOutput (s : State) : Bool := s.powered && s.inCharge

end Sys2Proof.Machine
end

