-- ==== Sys2Proof/Machine/Bytes.lean ====
section
/-! DEFINITION. Bytes on the wire: multi-byte fields high byte first (section 6.6 of the Introduction), signed values in
16-bit two's complement (R182), the check of frames and of the configuration block (R4, R177), and the codes of modes,
directions and storage states (sections 1.3 and 11.7). -/

namespace Sys2Proof.Machine

/-- A number as one byte. -/
def put8 (n : Nat) : List Byte := [BitVec.ofNat 8 n]

/-- A 16-bit word, high byte first. -/
def putWord (w : Word16) : List Byte := [w.extractLsb' 8 8, w.extractLsb' 0 8]

/-- A number as two bytes, high byte first. -/
def put16 (n : Nat) : List Byte := putWord (BitVec.ofNat 16 n)

/-- A signed number as two bytes, high byte first (R182). -/
def putInt (n : Int) : List Byte := putWord (BitVec.ofInt 16 n)

/-- The byte at an offset, as a number. -/
def u8 (b : List Byte) (off : Nat) : Nat := (b.getD off 0).toNat

/-- The two bytes at an offset, high byte first, as a number. -/
def u16 (b : List Byte) (off : Nat) : Nat := u8 b off * 256 + u8 b (off + 1)

/-- The check register after one bit of a byte (R4): it shifts toward its high end, and is combined with 1021 when the
bit leaving differs from the byte's bit. -/
def crcBit (reg : Word16) (bit : Bool) : Word16 :=
  if reg.getLsbD 15 != bit then (reg <<< 1) ^^^ 0x1021#16 else reg <<< 1

/-- The check register after one byte, high-order bit first (R4). -/
def crcByte (reg : Word16) (b : Byte) : Word16 :=
  [7, 6, 5, 4, 3, 2, 1, 0].foldl (fun r i => crcBit r (b.getLsbD i)) reg

/-- The check over some bytes: the register starts at FFFF and no final inversion is applied (R4). -/
def crc16 (bytes : List Byte) : Word16 := bytes.foldl crcByte 0xFFFF#16

/-- The sum of some bytes modulo 256 (R169). -/
def byteSum (bytes : List Byte) : Byte := bytes.foldl (· + ·) 0

/-- The code of a mode in charge on the link (section 1.3). -/
def chargeModeCode : ChargeMode → Nat
  | .leading => 1 | .seeking => 2 | .inStep => 3

/-- The mode in charge a code names (section 1.3). -/
def chargeModeOf : Nat → Option ChargeMode
  | 1 => some .leading | 2 => some .seeking | 3 => some .inStep
  | _ => none

/-- The code of a mode on the port (R182). -/
def modeCode : Mode → Nat
  | .inCharge m => chargeModeCode m
  | .pass => 4
  | .pickup => 5
  | .preempted => 6

/-- The code of a direction (section 1.3). -/
def directionCode : Direction → Nat
  | .inbound => 1 | .outbound => 2

/-- The direction a code names (section 1.3). -/
def directionOf : Nat → Option Direction
  | 1 => some .inbound | 2 => some .outbound
  | _ => none

/-- The code of a direction or none (R182). -/
def directionCode? : Option Direction → Nat
  | some d => directionCode d
  | none => 0

/-- The code of a plan number or none (R182). -/
def planCode? : Option Num4 → Nat
  | some n => n.toNat
  | none => 0

/-- A station number or none (R182). -/
def stationCode? : Option Nat → Nat
  | some n => n
  | none => 0

/-- The code of a storage state (section 1.3). -/
def storageCode : Storage → Nat
  | .clear => 0 | .filling => 1 | .full => 2 | .unknown => 3

/-- The storage state a code names (section 1.3). -/
def storageOf : Nat → Option Storage
  | 0 => some .clear | 1 => some .filling | 2 => some .full | 3 => some .unknown
  | _ => none

/-- The code of a DEPART's reason (section 1.3). -/
def reasonCode : DepartReason → Nat
  | .preempt => 1 | .hold => 2

/-- The reason a code names (section 1.3). -/
def reasonOf : Nat → Option DepartReason
  | 1 => some .preempt | 2 => some .hold
  | _ => none

/-- The code of a yes or no, and of an inactive or active level. -/
def boolCode : Bool → Nat
  | true => 1
  | false => 0

end Sys2Proof.Machine
end

