-- ==== Sys2Proof/Machine/Link.lean ====
section
/-! DEFINITION. The transmitting half of the Link Controller: slots and requests (R13, R21), the choice of frame and the
deferral (R14, R15), and the frames the unit sends (R6, R7, section 1.3). -/

namespace Sys2Proof.Machine

/-- The frame chosen when a deferral is to begin: DEPART, else STORAGE, else BEACON (R14). -/
def chooseFrame (l : LC) : Option FrameKind :=
  if l.depart.isSome then some .depart
  else if l.storage then some .storage
  else if l.beacon then some .beacon
  else none

/-- The base width of a kind's draw: 4 for DEPART and STORAGE, 16 for BEACON (R15). -/
def baseWidth : FrameKind → Nat
  | .beacon => 16
  | .storage | .depart => 4

/-- The width for attempt k: base width × 2^(k−1), limited to 64 (R15). -/
def drawWidth (kind : FrameKind) (k : Nat) : Nat := min (baseWidth kind * 2 ^ (k - 1)) 64

/-- The generator's next value (R15). -/
def advanceGenerator (g : Word16) : Word16 := g * 25173#16 + 13849#16

/-- The draw n from a generator value and a width (R15). -/
def drawFrom (g : Word16) (w : Nat) : Nat := g.toNat * w / 65536

/-- The slots a kind defers when n is drawn: n for an urgent frame, 4 + n for a BEACON (R15). -/
def deferralSlots : FrameKind → Nat → Nat
  | .beacon, n => 4 + n
  | .storage, n | .depart, n => n

/-- The attempt count of the frame chosen: kept when the same pending frame was in contention before, and otherwise 1
(R14). -/
def contentionCount (l : LC) (kind : FrameKind) : Nat :=
  match l.contention with
  | some c => if c.kind = kind then c.count else 1
  | none => 1

/-- A deferral begins: the frame is chosen, its attempt count kept or started, and n drawn (R14, R15). -/
def beginDeferral (l : LC) : LC :=
  match chooseFrame l with
  | none => l
  | some kind =>
    let k := contentionCount l kind
    let g := advanceGenerator l.generator
    { l with contention := some ⟨kind, k⟩, generator := g,
             deferral := some ⟨kind, deferralSlots kind (drawFrom g (drawWidth kind k))⟩ }

/-- A deferral begins where the line is IDLE and none is running, nor an attempt (R15). -/
def deferWhenIdle (l : LC) : LC :=
  if l.line = .idle ∧ l.deferral = none ∧ l.attempt = none then beginDeferral l else l

/-- Whether the running attempt is one of this kind, past its mark (R13). -/
def pastMark (l : LC) (kind : FrameKind) : Bool :=
  match l.attempt with
  | some a => decide (a.kind = kind) && a.frame.isSome
  | none => false

/-- A request for the BEACON slot (R13): it fills an empty slot, sets the renewal mark when the slot's frame is on the
line past its mark, and otherwise changes nothing held. -/
def fillBeacon (l : LC) : LC :=
  if l.beacon then
    (if pastMark l .beacon then { l with beaconRenewal := true } else l)
  else deferWhenIdle { l with beacon := true }

/-- A request for the STORAGE slot (R13). -/
def fillStorage (l : LC) : LC :=
  if l.storage then
    (if pastMark l .storage then { l with storageRenewal := true } else l)
  else deferWhenIdle { l with storage := true }

/-- A request for the DEPART slot (R13): a request for an occupied slot replaces the held reason, and sets the renewal
mark too when the slot's frame is on the line past its mark. -/
def fillDepart (r : DepartReason) (l : LC) : LC :=
  if l.depart.isSome then
    { l with depart := some r, departRenewal := l.departRenewal || pastMark l .depart }
  else deferWhenIdle { l with depart := some r }

/-- A request to send a BEACON: taken in charge, dropped otherwise (R13, R21). -/
def requestBeacon (s : State) : State :=
  if s.inCharge then { s with lc := fillBeacon s.lc } else s

/-- A request to send a STORAGE frame: taken in charge, dropped otherwise (R13, R21). -/
def requestStorage (s : State) : State :=
  if s.inCharge then { s with lc := fillStorage s.lc } else s

/-- A request to send a DEPART, made on the way out of charge (R13, R21). -/
def requestDepart (r : DepartReason) (s : State) : State := { s with lc := fillDepart r s.lc }

/-- The slot of a kind holds no pending frame and no renewal mark. -/
def clearSlot (kind : FrameKind) (l : LC) : LC :=
  match kind with
  | .depart => { l with depart := none, departRenewal := false }
  | .storage => { l with storage := false, storageRenewal := false }
  | .beacon => { l with beacon := false, beaconRenewal := false }

/-- The renewal mark of a kind's slot is cleared. -/
def clearRenewal (kind : FrameKind) (l : LC) : LC :=
  match kind with
  | .depart => { l with departRenewal := false }
  | .storage => { l with storageRenewal := false }
  | .beacon => { l with beaconRenewal := false }

/-- Whether the renewal mark of a kind's slot is set. -/
def renewal (l : LC) : FrameKind → Bool
  | .depart => l.departRenewal
  | .storage => l.storageRenewal
  | .beacon => l.beaconRenewal

/-- The attempt count is dropped when it belongs to the pending frame of this kind, which has gone (R14). -/
def dropContention (kind : FrameKind) (l : LC) : LC :=
  match l.contention with
  | some c => if c.kind = kind then { l with contention := none } else l
  | none => l

/-- A deferral running for this kind ends (R21). -/
def endDeferral (kind : FrameKind) (l : LC) : LC :=
  match l.deferral with
  | some d => if d.kind = kind then { l with deferral := none } else l
  | none => l

/-- A frame of this kind on the line is stopped at once, which is no collision (R21); the receiver returns to HUNT
(R11). -/
def stopAttempt (kind : FrameKind) (l : LC) : LC :=
  match l.attempt with
  | some a => if a.kind = kind then { l with attempt := none, receiver := .hunt } else l
  | none => l

/-- A slot is emptied by a change of mode: with its renewal mark, its frame on the line and its deferral (R21). -/
def emptySlot (kind : FrameKind) (l : LC) : LC :=
  dropContention kind (endDeferral kind (stopAttempt kind (clearSlot kind l)))

/-- The Link Controller on leaving charge: beacon timer stopped, STORAGE and BEACON slots emptied, and a new deferral
for a slot still occupied (R20, R21). -/
def linkLeavesCharge (l : LC) : LC :=
  let l := emptySlot .beacon (emptySlot .storage { l with beaconTimer := none })
  deferWhenIdle l

/-- The Link Controller on taking charge, before its BEACON request: the DEPART slot emptied and the beacon timer
loaded with P (R20, R21). -/
def linkTakesCharge (period : Nat) (l : LC) : LC :=
  { emptySlot .depart l with beaconTimer := some period }

/-! ### Frames the unit sends -/

/-- The counted bytes of a BEACON, from the kind byte on (R6, section 1.3). -/
def beaconBytes (s : State) (c : Configuration) (p : Plan) (m : ChargeMode) : List Byte :=
  put8 1 ++ put8 c.station ++ put8 c.group ++ put16 c.position ++ put8 c.period ++ put8 (chargeModeCode m)
    ++ put8 (directionCode p.direction) ++ put16 s.cau.cycle ++ put16 s.ct.position ++ put16 s.cau.triple.value
    ++ put8 s.cau.triple.origin ++ put8 s.cau.triple.hops
    ++ put8 (storageCode s.di.storage.inbound) ++ put8 (fedBySelection c.position s.nt.entries .inbound)
    ++ put8 (storageCode s.di.storage.outbound) ++ put8 (fedBySelection c.position s.nt.entries .outbound)

/-- The counted bytes of a STORAGE frame (R7, section 1.3). -/
def storageBytes (s : State) (c : Configuration) : List Byte :=
  put8 2 ++ put8 c.station ++ put8 c.group
    ++ put8 (storageCode s.di.storage.inbound) ++ put8 (fedBySelection c.position s.nt.entries .inbound)
    ++ put8 (storageCode s.di.storage.outbound) ++ put8 (fedBySelection c.position s.nt.entries .outbound)

/-- The counted bytes of a DEPART (R7, section 1.3). -/
def departBytes (c : Configuration) (r : DepartReason) : List Byte :=
  put8 3 ++ put8 c.station ++ put8 c.group ++ put8 (reasonCode r)

/-- A whole frame: start bytes, length byte, counted bytes and check (R4, section 1.2). -/
def frameOf (counted : List Byte) : List Byte :=
  [0xA5#8, 0x3C#8] ++ put8 counted.length ++ counted ++ putWord (crc16 counted)

/-- The counted bytes of the frame of a kind, read from the owning blocks as they stand (R6, R7); none where the unit
has no configuration, plan, mode in charge or held reason to read. -/
def frameContents (s : State) (kind : FrameKind) : Option (List Byte) :=
  match kind with
  | .beacon =>
    (match s.setup, s.mc.mode with
     | some (c, p), .inCharge m => some (beaconBytes s c p m)
     | _, _ => none)
  | .storage =>
    (match s.config with
     | some c => some (storageBytes s c)
     | none => none)
  | .depart =>
    (match s.config, s.lc.depart with
     | some c, some r => some (departBytes c r)
     | _, _ => none)

/-- The attempt starts with its first start bit, which makes the line BUSY (R3, R17). -/
def startAttempt (l : LC) : LC :=
  match l.deferral with
  | some d => { l with deferral := none, attempt := some ⟨d.kind, none⟩, line := .busy }
  | none => l

/-- The unit's own mark (R5, R17): the frame's contents are read. -/
def ownMark (a : Attempt) (s : State) : State :=
  match frameContents s a.kind with
  | some b => { s with lc := { s.lc with attempt := some { a with frame := some (frameOf b) } } }
  | none => s

/-- The attempt count of the frame in contention (R14). -/
def attemptCount (l : LC) : Nat :=
  match l.contention with
  | some c => c.count
  | none => 1

/-- A collision (R18, R19): the attempt stops, the count advances and COLLISION is counted; the ninth count abandons
the frame. -/
def collide (kind : FrameKind) (s : State) : State :=
  let k := attemptCount s.lc + 1
  let l := clearRenewal kind { s.lc with attempt := none, receiver := .hunt, contention := some ⟨kind, k⟩ }
  let s := count .collision { s with lc := l }
  if 8 < k then
    setFlag .txAbandoned (count .txAbandoned { s with lc := { clearSlot kind l with contention := none } })
  else s

/-- An attempt succeeds (R17): the slot is emptied, or left holding a fresh pending frame when its renewal mark was set;
a DEPART also empties the other two slots. -/
def succeed (kind : FrameKind) (s : State) : State :=
  let l := { s.lc with attempt := none, receiver := .hunt, contention := none }
  let l := if renewal l kind then clearRenewal kind l else clearSlot kind l
  let l := if kind = .depart then clearSlot .beacon (clearSlot .storage l) else l
  count .sent { s with lc := l }

end Sys2Proof.Machine
end

