-- ==== Sys2Proof/Machine/Detector.lean ====
section
/-! DEFINITION. The Detector Interface's shared operations: storage states and their requests (R74 to R77), faults (R70
to R73), green states (R66), counting (R65, R67) and the closing of a cycle (R68, R71, R76). -/

namespace Sys2Proof.Machine

/-- Replaces one detector line. -/
def setLine (k : Num8) (l : DetectorLine) (s : State) : State :=
  { s with di := { s.di with lines := s.di.lines.set k l } }

/-- A direction's storage state changes; entering or leaving FULL in charge requests a STORAGE frame (R77). -/
def setStorage (d : Direction) (new : Storage) (s : State) : State :=
  let old := s.di.storage.get d
  let s := { s with di := { s.di with storage := s.di.storage.set d new } }
  if old = .full ↔ new = .full then s else requestStorage s

/-- A line becomes FAULTY: counted and flagged, and its direction's storage UNKNOWN for an advance line (R70, R73,
R76). -/
def enterFault (c : Configuration) (k : Num8) (cause : FaultState) (s : State) : State :=
  let s := setFlag .detectorFault (count .detectorFault (setLine k { s.di.lines.get k with fault := cause } s))
  match roleAdvance (c.role k) with
  | some d => setStorage d .unknown s
  | none => s

/-- A direction moves from UNKNOWN to CLEAR when its advance line leaves FAULTY (R76). -/
def storageRecovers (c : Configuration) (k : Num8) (s : State) : State :=
  match roleAdvance (c.role k) with
  | some d => if s.di.storage.get d = .unknown then setStorage d .clear s else s
  | none => s

/-- A direction's arterial green ends (R66). -/
def endGreen (d : Direction) (s : State) : State :=
  { s with di := { s.di with green := s.di.green.set d false } }

/-- Both green states (R66). -/
def setGreens (showing : Bool) (s : State) : State :=
  { s with di := { s.di with green := ⟨showing, showing⟩ } }

/-- An edge is counted (R65, R67): an advance line's on green while its direction's green is SHOWING and on red
otherwise, another counting line's in its one count. -/
def countEdge (role : Role) (green : PerDir Bool) (n : Counts) : Counts :=
  match roleAdvance role with
  | some d =>
    if green.get d then { n with onGreen := countVehicle n.onGreen } else { n with onRed := countVehicle n.onRed }
  | none => if roleCounts role then { n with count := countVehicle n.count } else n

/-- The number of edges a line has counted, the sum of both counts for an advance line (R71). -/
def Counts.total (n : Counts) : Nat := n.count + n.onRed + n.onGreen

/-- The zero run of a counting line after a wrap (R71). -/
def nextZeroRun (l : DetectorLine) : Nat :=
  if 0 < Counts.total l.counts then 0
  else if l.occupied then l.zeroRun
  else min (l.zeroRun + 1) 15

/-- Whether a line becomes FAULTY with cause STUCK_OFF at a wrap (R71). -/
def becomesStuckOff (set : DetectorSetting) (l : DetectorLine) : Bool :=
  roleCounts set.role && decide (l.fault = .good) && decide (set.stuckOff ≤ nextZeroRun l)

/-- A line after the closing of a cycle (R68, R71): its zero run, its held values (its own counts when it is good after
the stuck-off test), and its counts at 0. The fault itself is entered by closeCycle. -/
def closeLine (set : DetectorSetting) (l : DetectorLine) : DetectorLine :=
  if roleCounts set.role then
    { l with zeroRun := nextZeroRun l,
             held := (if l.fault = .good ∧ becomesStuckOff set l = false then l.counts else l.held),
             counts := .zero }
  else { l with counts := .zero }

/-- The held values of the lines of one role, summed and stopped at 255 (R68). -/
def sumHeld (c : Configuration) (lines : Eight DetectorLine) (role : Role) (f : Counts → Nat) : Nat :=
  min (Num8.all.foldl (fun n k => if c.role k = role then n + f (lines.get k).held else n) 0) 255

/-- The closed record, made from the closed values, which are the held values once those have been decided (R68). -/
def makeClosed (c : Configuration) (lines : Eight DetectorLine) : ClosedRecord :=
  { stop := ⟨sumHeld c lines .stopIn Counts.count, sumHeld c lines .stopOut Counts.count⟩
    cross := sumHeld c lines .cross Counts.count
    onRed := ⟨sumHeld c lines .advIn Counts.onRed, sumHeld c lines .advOut Counts.onRed⟩
    onGreen := ⟨sumHeld c lines .advIn Counts.onGreen, sumHeld c lines .advOut Counts.onGreen⟩ }

/-- The judgement of one direction at a wrap (R76): FILLING or CLEAR where its advance line is present, good and the
state not FULL. -/
def judgeStorage (c : Configuration) (p : Plan) (d : Direction) (s : State) : State :=
  match c.advanceLine d with
  | some k =>
    if (s.di.lines.get k).fault = .good ∧ s.di.storage.get d ≠ .full then
      setStorage d (if 3 * p.capacity.get d ≤ 4 * s.di.closed.onRed.get d then .filling else .clear) s
    else s
  | none => s

/-- The Detector Interface closes the finished cycle (R68, R71, R76): the stuck-off test, the closed values, the closed
record, the new cycle's counts, and the judgement of the storage states. -/
def closeCycle (c : Configuration) (p : Plan) (s : State) : State :=
  let old := s.di.lines
  let lines := old.mapNum (fun k l => closeLine (c.detectors.get k) l)
  let s := { s with di := { s.di with lines := lines, closed := makeClosed c lines } }
  let s := Num8.all.foldl
    (fun s k => if becomesStuckOff (c.detectors.get k) (old.get k) then enterFault c k .stuckOff s else s) s
  judgeStorage c p .outbound (judgeStorage c p .inbound s)

/-- Every line's counts are set to 0 without being closed (R65). -/
def zeroCounts (s : State) : State :=
  { s with di := { s.di with lines := s.di.lines.mapNum (fun _ l => { l with counts := .zero }) } }

/-- Whether a direction is to enter FULL: it is CLEAR or FILLING and its advance line's occupied run has reached F_full
of the plan (R74). -/
def fullDue (c : Configuration) (p : Plan) (d : Direction) (s : State) : Bool :=
  match c.advanceLine d with
  | some k =>
    (decide (s.di.storage.get d = .clear) || decide (s.di.storage.get d = .filling))
      && (s.di.lines.get k).occupied && decide (p.fFull ≤ (s.di.lines.get k).occupiedRun)
  | none => false

/-- Whether a direction is to leave FULL for CLEAR: its advance line's vacant run has reached F_rel of the plan
(R75). -/
def releaseDue (c : Configuration) (p : Plan) (d : Direction) (s : State) : Bool :=
  match c.advanceLine d with
  | some k =>
    decide (s.di.storage.get d = .full)
      && !(s.di.lines.get k).occupied && decide (p.fRel ≤ (s.di.lines.get k).vacantRun)
  | none => false

/-- A direction enters FULL where it is to (R74). -/
def enterFullWhenDue (c : Configuration) (p : Plan) (d : Direction) (s : State) : State :=
  if fullDue c p d s then setStorage d .full s else s

end Sys2Proof.Machine
end

