-- ==== Sys2Proof/Machine/Clock.lean ====
section
/-! DEFINITION. The Cycle Timer's marks and clock (R43 to R59), and what a due and a gate setting do to the output lines
and the green states (R50, R66, R139, R161). -/

namespace Sys2Proof.Machine

/-- The Cycle Timer's reading at an instant (R59). -/
def capture (s : State) : Capture := ⟨s.ct.position, s.ct.wrapCount⟩

/-- A mark at its unshifted position at base cycle c (R48, R49): WAITING, or UNUSED where its base position is 0, with the
position 0 that the model gives an UNUSED mark (log entry 36). -/
def unshiftedMark (p : Plan) (c : Nat) (m : Num8) : Mark :=
  if p.usesMark m then ⟨p.scaled c m, .waiting⟩ else ⟨0, .unused⟩

/-- All marks at their unshifted positions (R49). -/
def unshiftedMarks (p : Plan) (c : Nat) : Eight Mark := Eight.make (unshiftedMark p c)

/-- The current position of a mark under base cycle c, adjustment a and extension time x (R48). The laws of R44 and R48
keep it from falling below 0. -/
def shiftedPosition (p : Plan) (c : Nat) (a : Int) (x : Nat) (m : Num8) : Nat :=
  if p.stretches m then ((p.scaled c m : Int) + a + x).toNat else p.scaled c m

/-- Sets the mark-drive state of the output lines that satisfy a test (R161); a line already SET stays SET. -/
def setLines (test : Num8 → Bool) (s : State) : State :=
  { s with olu := s.olu.mapNum (fun k o => if test k then { o with drive := true } else o) }

/-- Clears the mark-drive state of every output line (R161). -/
def clearLines (s : State) : State :=
  { s with olu := s.olu.mapNum (fun _ o => { o with drive := false }) }

/-- Whether a mark's due ends a direction's green (R66): it is named by a line that counts for the direction, or no line
counts and it is the stretch mark. -/
def dueEndsGreen (c : Configuration) (p : Plan) (m : Num8) (d : Direction) : Bool :=
  if (countingLines c p d).isEmpty then decide (m = p.stretch)
  else (countingLines c p d).any (fun k => decide ((c.outputs.get k).mark = some m))

/-- Ends a direction's green under a condition. -/
def endGreenIf (b : Bool) (d : Direction) (s : State) : State := if b then endGreen d s else s

/-- A mark comes due (R50): DUE, its lines set (R161), and the greens it ends (R66). -/
def takeDue (c : Configuration) (p : Plan) (m : Num8) (s : State) : State :=
  let s := { s with ct := { s.ct with marks := s.ct.marks.set m { s.ct.marks.get m with state := .due } } }
  let s := setLines (fun k => decide ((c.outputs.get k).mark = some m)) s
  endGreenIf (dueEndsGreen c p m .outbound) .outbound (endGreenIf (dueEndsGreen c p m .inbound) .inbound s)

/-- Whether a mark is WAITING at or before the position. -/
def markReached (t : CT) (m : Num8) : Bool :=
  decide ((t.marks.get m).state = .waiting) && decide ((t.marks.get m).position ≤ t.position)

/-- Every WAITING mark at or before the position comes due, in order of mark number (R50, R52, R55). -/
def takeReached (c : Configuration) (p : Plan) (s : State) : State :=
  Num8.all.foldl (fun s m => if markReached s.ct m then takeDue c p m s else s) s

/-- A gate setting for a direction (R139): every line that counts for it is set, and when at least one does, its green
ends. -/
def gateSetting (c : Configuration) (p : Plan) (d : Direction) (s : State) : State :=
  let lines := countingLines c p d
  endGreenIf (!lines.isEmpty) d (setLines (fun k => decide (k ∈ lines)) s)

/-- The extension holds the WAITING stretched marks (R51). -/
def holdStretched (p : Plan) (t : CT) : CT :=
  { t with extension := .running,
           marks := t.marks.mapNum (fun m k =>
             if p.stretches m ∧ k.state = .waiting then { k with state := .held } else k) }

/-- An extension ends (R55): ENDED, and every HELD mark WAITING. -/
def releaseHeld (t : CT) : CT :=
  { t with extension := .ended,
           marks := t.marks.mapNum (fun _ k => if k.state = .held then { k with state := .waiting } else k) }

/-- A decisecond step of the clock that is not a wrap, outside an extension (R44). -/
def plainStep (t : CT) : CT := { t with position := t.position + 1 }

/-- A decisecond step during an extension (R54): x, C_run and every stretched mark move with the position. -/
def extensionStep (p : Plan) (t : CT) : CT :=
  { t with position := t.position + 1, x := t.x + 1, cRun := t.cRun + 1,
           marks := t.marks.mapNum (fun m k =>
             if p.stretches m then { k with position := k.position + 1 } else k) }

/-- The Cycle Timer's values at a wrap's opening of the next cycle (R45, steps 2 to 4). -/
def openCycle (p : Plan) (c : Nat) (t : CT) : CT :=
  { t with position := 0, cRun := c, wrapCount := t.wrapCount + 1, adjustment := 0, x := 0, extension := .none,
           earlyGreen := false, completionSeen := false, marks := unshiftedMarks p c }

/-- The Cycle Timer stops on leaving charge (R46); the wrap count keeps its value. -/
def stopClock (p : Plan) (c : Nat) (t : CT) : CT :=
  { t with running := false, position := 0, cRun := c, adjustment := 0, x := 0, extension := .none,
           earlyGreen := false, completionSeen := false, marks := unshiftedMarks p c }

/-- The Cycle Timer starts on taking charge (R47). -/
def startClock (p : Plan) (c : Nat) (t : CT) : CT :=
  { t with running := true, position := 0, cRun := c, wrapCount := t.wrapCount + 1, adjustment := 0, x := 0,
           extension := .none, earlyGreen := false, completionSeen := false, marks := unshiftedMarks p c }

/-- A standing Cycle Timer takes a new base cycle and plan (R43, R46). -/
def standingPlan (p : Plan) (c : Nat) (t : CT) : CT := { t with cRun := c, marks := unshiftedMarks p c }

/-- The state of a mark after a completion under the plan now in force (R52, R53). -/
def markStateAfter (p : Plan) (extension : ExtensionState) (m : Num8) (old : MarkState) : MarkState :=
  if p.usesMark m = false then .unused
  else if extension = .running ∧ p.stretches m then (if old = .due then .due else .held)
  else match old with
    | .due => .due
    | .held => .waiting
    | .waiting | .unused => .waiting

/-- The Cycle Timer applies a completion (R52, R53), short of the dues it takes. The position 0 of an UNUSED mark is the
model's (log entry 36). -/
def applyToClock (p : Plan) (c : Nat) (a : Int) (t : CT) : CT :=
  { t with adjustment := a, completionSeen := true,
           cRun := (if t.earlyGreen then t.cRun else ((c : Int) + a + t.x).toNat),
           marks := t.marks.mapNum (fun m k =>
             if p.usesMark m then ⟨shiftedPosition p c a t.x m, markStateAfter p t.extension m k.state⟩
             else ⟨0, .unused⟩) }

/-- The greatest current position among the used marks (R57). -/
def lastUsedPosition (t : CT) : Nat :=
  t.marks.toList.foldl (fun n k => if k.state = .unused then n else max n k.position) 0

end Sys2Proof.Machine
end

