-- ==== Sys2Proof/Machine/Gating.lean ====
section
/-! DEFINITION. The Gating Logic (R133 to R143). -/

namespace Sys2Proof.Machine

/-- Replaces one direction's gating state. -/
def setGate (d : Direction) (g : Gate) (s : State) : State := { s with gt := s.gt.set d g }

/-- The station that calls for gating of a direction (R134): the downstream neighbour, when it advertises FULL for the
direction and names this unit as its feeder. -/
def calledFor (c : Configuration) (entries : List Entry) (d : Direction) : Option Nat :=
  match downstreamNeighbour c.position entries d with
  | some e =>
    if (e.approaches.get d).storage = .full ∧ (e.approaches.get d).fedBy = c.station then some e.station else none
  | none => none

/-- A direction's gate point is reached: the gate setting is handed on (R139). -/
def reachGate (c : Configuration) (p : Plan) (d : Direction) (s : State) : State :=
  gateSetting c p d (setGate d { s.gt.get d with reached := true } s)

/-- The gate point is placed at the greater of Gg and the position, and reached at once when that is the position
(R138, R139). -/
def placeGate (c : Configuration) (p : Plan) (d : Direction) (s : State) : State :=
  let s := setGate d { s.gt.get d with point := some (max p.gateMin s.ct.position) } s
  if p.gateMin ≤ s.ct.position then reachGate c p d s else s

/-- A direction becomes ON (R135). -/
def enterGating (c : Configuration) (p : Plan) (d : Direction) (station : Nat) (s : State) : State :=
  let g := s.gt.get d
  let s := setFlag .gatingEntered
    (setGate d { g with station := some station, marks := { g.marks with active := true, entered := true } } s)
  if g.reached then s else placeGate c p d s

/-- A direction becomes OFF (R136); by loss when the report was the removal of the gating station's entry. -/
def endGating (d : Direction) (lost : Bool) (s : State) : State :=
  let g := s.gt.get d
  setGate d { g with station := none, point := (if g.reached then g.point else none),
                     marks := { g.marks with endedByLoss := g.marks.endedByLoss || lost } } s

/-- One direction is judged afresh (R134), at a report that is the removal of a station's entry, or at another one. -/
def judgeDirection (c : Configuration) (p : Plan) (removed : Option Nat) (d : Direction) (s : State) : State :=
  match calledFor c s.nt.entries d, (s.gt.get d).station with
  | some n, none => enterGating c p d n s
  | some n, some _ => setGate d { s.gt.get d with station := some n } s
  | none, some g => endGating d (decide (removed = some g)) s
  | none, none => s

/-- Both directions are judged, in charge only (R134, R137). -/
def judgeGating (c : Configuration) (p : Plan) (removed : Option Nat) (s : State) : State :=
  if s.inCharge then judgeDirection c p removed .outbound (judgeDirection c p removed .inbound s) else s

/-- The Gating Logic at a report from the Neighbour Table (R35). -/
def reportToGating (removed : Option Nat) (s : State) : State :=
  match s.setup with
  | some (c, p) => judgeGating c p removed s
  | none => s

/-- A direction's gating state for the cycle a wrap opens, before its gate point is placed (R138, R143). -/
def gateNextCycle (g : Gate) : Gate :=
  { g with point := none, reached := false, marks := ⟨g.station.isSome, false, false⟩ }

/-- Places a direction's gate point where it is ON (R138). -/
def placeGateIfOn (c : Configuration) (p : Plan) (d : Direction) (s : State) : State :=
  if (s.gt.get d).station.isSome then placeGate c p d s else s

/-- The Gating Logic at a wrap (R138, R143). -/
def gatingWrap (c : Configuration) (p : Plan) (s : State) : State :=
  let s := { s with gt := ⟨gateNextCycle s.gt.inbound, gateNextCycle s.gt.outbound⟩ }
  placeGateIfOn c p .outbound (placeGateIfOn c p .inbound s)

/-- The gate point of a direction that is ON and has not reached it is placed again under a new plan (R138). -/
def replaceGate (c : Configuration) (p : Plan) (d : Direction) (s : State) : State :=
  if (s.gt.get d).station.isSome ∧ (s.gt.get d).reached = false then placeGate c p d s else s

/-- A direction's gating state on taking charge, before it is judged (R137). -/
def gateTakesCharge (g : Gate) : Gate := { g with reached := false, marks := .none }

/-- A direction's gating state on leaving charge (R137); the cycle record stands. -/
def gateLeavesCharge (g : Gate) : Gate := { g with station := none, point := none, reached := false }

/-- Whether either direction is gated (R142). -/
def gated (s : State) : Bool := s.gt.inbound.station.isSome || s.gt.outbound.station.isSome

/-- Whether a direction's gate point is reached by the position and has not been acted on (R139). -/
def gateDue (s : State) (d : Direction) : Bool :=
  s.ct.running && (s.gt.get d).station.isSome && !(s.gt.get d).reached &&
    (match (s.gt.get d).point with
     | some g => decide (g ≤ s.ct.position)
     | none => false)

end Sys2Proof.Machine
end

