-- ==== Sys2Proof/Machine/Priority.lean ====
section
/-! DEFINITION. The Priority Arbiter (R145 to R156). -/

namespace Sys2Proof.Machine

/-- Whether any grant is allowed (R149). -/
def grantAllowed (s : State) : Bool :=
  (decide (s.mc.mode = .inCharge .leading) || decide (s.mc.mode = .inCharge .inStep))
    && !gated s && s.pa.extension.isNone && !s.pa.grantUsed

/-- The winner: the oldest HIGH request, or the oldest LOW request where there is no HIGH one (R150). -/
def winner (queue : List Request) : Option Request :=
  match queue.find? (fun r => decide (r.group = .high)) with
  | some r => some r
  | none => queue.head?

/-- The queue without a line's request; the others keep their order and ages (R147, R150). -/
def withoutLine (line : Num8) (queue : List Request) : List Request :=
  queue.filter (fun r => decide (r.line ≠ line))

/-- Whether the downstream neighbour of a direction blocks an extension (R151): it names this unit as its feeder and
is FILLING or FULL. -/
def blocksExtension (c : Configuration) (entries : List Entry) (d : Direction) : Bool :=
  match downstreamNeighbour c.position entries d with
  | some e =>
    decide ((e.approaches.get d).fedBy = c.station) &&
      (decide ((e.approaches.get d).storage = .filling) || decide ((e.approaches.get d).storage = .full))
  | none => false

/-- The request an extension is granted to at the stretch mark, if one is (R151). -/
def extensionWinner (c : Configuration) (p : Plan) (s : State) : Option Request :=
  if grantAllowed s && decide (0 < p.xMax) && !blocksExtension c s.nt.entries .inbound
      && !blocksExtension c s.nt.entries .outbound then winner s.pa.queue
  else none

/-- An extension is granted (R151): the winner leaves the queue, the limit is fixed at X_max, and the Cycle Timer holds
the stretched marks (R51). -/
def grantExtension (p : Plan) (r : Request) (s : State) : State :=
  count .priorityExtended
    { s with pa := { s.pa with queue := withoutLine r.line s.pa.queue, extension := some ⟨r.line, p.xMax⟩,
                               grantUsed := true },
             ct := holdStretched p s.ct }

/-- The stretch mark is put to the Priority Arbiter, and then the reached marks that are not held come due (R51,
R52). -/
def reachStretch (c : Configuration) (p : Plan) (s : State) : State :=
  match extensionWinner c p s with
  | some r => takeReached c p (grantExtension p r s)
  | none => takeReached c p s

/-- The marks a change has put at or before the position come due, with the decision of R51 where the stretch mark is
among them (R52). -/
def takeReachedDeciding (c : Configuration) (p : Plan) (s : State) : State :=
  if markReached s.ct p.stretch then reachStretch c p s else takeReached c p s

/-- The extension ends by withdrawal or limit: the end event goes to the Cycle Timer and the cycle grant records x
(R55, R152). -/
def endExtension (c : Configuration) (p : Plan) (s : State) : State :=
  let x := s.ct.x
  takeReached c p
    { s with pa := { s.pa with extension := none, cycleGrant := some (.extension x) }, ct := releaseHeld s.ct }

/-- Whether the position is in the early window (R153). -/
def inWindow (p : Plan) (t : CT) : Bool :=
  decide (t.cRun ≤ t.position + p.eMax) && decide (lastUsedPosition t + p.xMin ≤ t.position)

/-- An early green is granted (R154, R56). -/
def grantEarly (r : Request) (s : State) : State :=
  let cut := s.ct.cRun - (s.ct.position + 1)
  count .priorityEarly
    { s with pa := { s.pa with queue := withoutLine r.line s.pa.queue, grantUsed := true,
                               cycleGrant := some (.early cut) },
             ct := { s.ct with cRun := s.ct.position + 1, earlyGreen := true } }

/-- A decision point for early green (R153): granted to the winner when a grant is allowed. -/
def decideEarly (s : State) : State :=
  if grantAllowed s then
    match winner s.pa.queue with
    | some r => grantEarly r s
    | none => s
  else s

/-- A request arrives (R146): in charge it joins the queue with age 0, and the arrival is a decision point when the
position is in the window (R153); out of charge it is ignored. -/
def requestArrives (p : Plan) (line : Num8) (group : TransitGroup) (s : State) : State :=
  if s.inCharge then
    let s := { s with pa := { s.pa with queue := s.pa.queue ++ [⟨line, group, 0⟩] } }
    if s.ct.running && inWindow p s.ct then decideEarly s else s
  else s

/-- A withdrawal for a line (R147): its queued request is removed, or its running extension ends, or it is ignored. -/
def withdraw (c : Configuration) (p : Plan) (line : Num8) (s : State) : State :=
  if s.pa.queue.any (fun r => decide (r.line = line)) then
    { s with pa := { s.pa with queue := withoutLine line s.pa.queue } }
  else match s.pa.extension with
    | some e => if e.line = line then endExtension c p s else s
    | none => s

/-- A line's queued request expires (R148): removed, counted and flagged. -/
def expireRequest (line : Num8) (s : State) : State :=
  setFlag .priorityExpired (count .priorityExpired
    { s with pa := { s.pa with queue := withoutLine line s.pa.queue } })

/-- Every request whose age is at or above P_life expires, oldest first (R148). -/
def expireAged (p : Plan) (s : State) : State :=
  s.pa.queue.foldl (fun s r => if p.pLife ≤ r.age then expireRequest r.line s else s) s

/-- The Priority Arbiter at a wrap (R155). -/
def priorityWrap (a : PA) : PA := { a with grantUsed := false, cycleGrant := none, windowOpened := false }

/-- Whether the extension's run has reached its limit (R152). -/
def limitReached (s : State) : Bool :=
  match s.pa.extension with
  | some e => decide (e.limit ≤ s.ct.x)
  | none => false

/-- Whether a line's queued request has reached P_life (R148). -/
def requestAged (p : Plan) (line : Num8) (s : State) : Bool :=
  s.pa.queue.any (fun r => decide (r.line = line) && decide (p.pLife ≤ r.age))

/-- Whether the early window is to open (R57, R153): both limits are met and the window has not opened in the cycle. That
a WINDOW_OPENING the queue brings after the step that first met them still opens the window, and decides there, is the
model's choice (DESIGN CHOICE, log entry 17). -/
def windowDue (p : Plan) (s : State) : Bool :=
  s.ct.running && !s.pa.windowOpened && inWindow p s.ct

end Sys2Proof.Machine
end

