-- ==== Sys2Proof/Machine/Table.lean ====
section
/-! DEFINITION. The Neighbour Table (R23 to R42): frames handed to it, aging, and its reports to the Gating Logic. -/

namespace Sys2Proof.Machine

/-- A valid frame of the unit's own group from another station, as the Link Controller hands it on (R10). -/
inductive Frame where
  | beacon (station : Nat) (b : Beacon) (a : PerDir Approach)
  | storage (station : Nat) (a : PerDir Approach)
  | depart (station : Nat)
  deriving DecidableEq, Repr

/-- Whether a position lies inside the reach window (R24). -/
def inReach (c : Configuration) (position : Nat) : Bool := decide (distance position c.position ≤ c.reach)

/-- Replaces the entries of the table. -/
def setEntries (e : List Entry) (s : State) : State := { s with nt := { s.nt with entries := e } }

/-- The entries without a station's. -/
def withoutStation (station : Nat) (entries : List Entry) : List Entry :=
  entries.filter (fun e => decide (e.station ≠ station))

/-- An entry in the place its position gives, the others in their order (R28). -/
def insertEntry (e : Entry) : List Entry → List Entry
  | [] => [e]
  | f :: rest => if e.beacon.position < f.beacon.position then e :: f :: rest else f :: insertEntry e rest

/-- The entry a BEACON makes, or makes anew: its fields, the capture handed with it, a silence timer of 5 × P, LIVE
(R26, R28). -/
def entryOf (station : Nat) (b : Beacon) (a : PerDir Approach) (c : Capture) : Entry :=
  { station := station, beacon := b, approaches := a, capture := c, silence := 5 * b.period, state := .live }

/-- Of two entries the one at the greater distance, and of two equally far the one with the higher number (R29). -/
def farther (own : Nat) (e f : Entry) : Entry :=
  let de := distance e.beacon.position own
  let df := distance f.beacon.position own
  if de < df ∨ (de = df ∧ e.station < f.station) then f else e

/-- The farthest entry of a table (R29). -/
def farthestEntry (own : Nat) : List Entry → Option Entry
  | [] => none
  | e :: rest => some (rest.foldl (farther own) e)

/-- An entry is removed, and the removal reported to the Gating Logic (R35). -/
def removeEntry (station : Nat) (s : State) : State :=
  reportToGating (some station) (setEntries (withoutStation station s.nt.entries) s)

/-- An entry is added, or updated and moved to the place its position gives, and that reported to the Gating Logic
(R26, R27, R28, R35). -/
def placeEntry (e : Entry) (s : State) : State :=
  reportToGating none (setEntries (insertEntry e (withoutStation e.station s.nt.entries)) s)

/-- TABLE_REFUSED is counted and TABLE_FULL set: for a refusal or a position clash (R27, R30). -/
def refuseEntry (s : State) : State := setFlag .tableFull (count .tableRefused s)

/-- Whether an entry of another station holds a position. -/
def positionHeld (station position : Nat) (entries : List Entry) : Bool :=
  entries.any (fun e => decide (e.station ≠ station) && decide (e.beacon.position = position))

/-- A BEACON from a station already in the table (R26, R27). -/
def beaconKnown (c : Configuration) (old new : Entry) (s : State) : State :=
  if old.beacon.position = new.beacon.position then placeEntry new s
  else if inReach c new.beacon.position = false then removeEntry new.station s
  else if positionHeld new.station new.beacon.position s.nt.entries then refuseEntry (removeEntry new.station s)
  else placeEntry new s

/-- A BEACON from a station not in the table (R28, R29, R30). -/
def beaconUnknown (c : Configuration) (new : Entry) (s : State) : State :=
  if inReach c new.beacon.position = false then s
  else if positionHeld new.station new.beacon.position s.nt.entries then refuseEntry s
  else if s.nt.entries.length < 8 then placeEntry new s
  else match farthestEntry c.position s.nt.entries with
    | some f =>
      if distance new.beacon.position c.position < distance f.beacon.position c.position then
        placeEntry new (removeEntry f.station s)
      else refuseEntry s
    | none => s

/-- Whether a removal by expiry or departure loses the last reference while SEEKING or IN STEP (R40). -/
def losesReference (station : Nat) (s : State) : Bool :=
  decide (s.nt.lastReference = some station)
    && (decide (s.mc.mode = .inCharge .seeking) || decide (s.mc.mode = .inCharge .inStep))

/-- The REFERENCE_LOST rule at a removal by expiry or departure (R40). -/
def judgeReference (station : Nat) (s : State) : State :=
  if losesReference station s then setFlag .referenceLost { s with nt := { s.nt with lastReference := none } } else s

/-- A removal by expiry or departure (R32, R34, R35, R40). -/
def loseStation (station : Nat) (s : State) : State := judgeReference station (removeEntry station s)

/-- A STORAGE frame from a station in the table replaces its storage and fed-by fields (R31). -/
def storageFrame (station : Nat) (a : PerDir Approach) (s : State) : State :=
  match findEntry s.nt.entries station with
  | some _ =>
    reportToGating none
      (setEntries (s.nt.entries.map (fun e => if e.station = station then { e with approaches := a } else e)) s)
  | none => s

/-- The table deals with a frame handed to it (section 2.3). -/
def tableTakes (c : Configuration) (k : Capture) (f : Frame) (s : State) : State :=
  match f with
  | .beacon n b a =>
    (match findEntry s.nt.entries n with
     | some old => beaconKnown c old (entryOf n b a k) s
     | none => beaconUnknown c (entryOf n b a k) s)
  | .storage n a => storageFrame n a s
  | .depart n =>
    (match findEntry s.nt.entries n with
     | some _ => loseStation n s
     | none => s)

/-- Whether a LIVE entry's silence timer is down to 3 × P (R33). -/
def quietDue (e : Entry) : Bool := decide (e.state = .live) && decide (e.silence ≤ 3 * e.beacon.period)

/-- Whether an entry's silence timer is at zero (R34). -/
def expiryDue (e : Entry) : Bool := decide (e.silence = 0)

/-- A LIVE entry becomes QUIET, keeping its contents and place (R33). -/
def makeQuiet (station : Nat) (s : State) : State :=
  setEntries (s.nt.entries.map (fun e => if e.station = station then { e with state := .quiet } else e)) s

end Sys2Proof.Machine
end

