-- ==== Sys2Proof/Machine/Receive.lean ====
section
/-! DEFINITION. The receiving half of the Link Controller (R8 to R12): the receive states, the tests of a frame and its
disposal. -/

namespace Sys2Proof.Machine

/-- Replaces the receive state. -/
def setReceiver (r : Receiver) (s : State) : State := { s with lc := { s.lc with receiver := r } }

/-- Whether the receiver is active (R11): a good configuration, and no attempt of the unit's own. -/
def receiverActive (s : State) : Bool := s.config.isSome && s.lc.attempt.isNone

/-- A frame held since its mark is discarded: counted once in RX_ERROR and flagged, its capture dropped (R9). -/
def discardFrame (s : State) : State := setFlag .rxError (count .rxError (setReceiver .hunt s))

/-- A number in a range, ends included. -/
def inRange (n lo hi : Nat) : Bool := decide (lo ≤ n) && decide (n ≤ hi)

/-- A base cycle or demand value: a multiple of 20 within 300 … 2 400 (R6). -/
def cycleOk (n : Nat) : Bool := inRange n 300 2400 && decide (n % 20 = 0)

/-- The approach fields of a frame from an offset on: storage inbound, fed-by inbound, storage outbound, fed-by
outbound (section 1.3). -/
def readApproaches (b : List Byte) (off : Nat) : Option (PerDir Approach) :=
  match storageOf (u8 b off), storageOf (u8 b (off + 2)) with
  | some i, some o =>
    if inRange (u8 b (off + 1)) 0 250 && inRange (u8 b (off + 3)) 0 250 then
      some ⟨⟨i, u8 b (off + 1)⟩, ⟨o, u8 b (off + 3)⟩⟩
    else none
  | _, _ => none

/-- The sender number and group of a frame are in range (R6, R7). Offset 2 of the handbook is index 1 here. -/
def headOk (b : List Byte) : Bool := inRange (u8 b 1) 1 250 && inRange (u8 b 2) 0 15

/-- The field checks of a BEACON beside its approaches, mode and direction (R6). -/
def beaconOk (b : List Byte) : Bool :=
  headOk b && inRange (u8 b 5) 10 50 && cycleOk (u16 b 8) && cycleOk (u16 b 12) && inRange (u16 b 10) 0 3179
    && inRange (u8 b 14) 1 250 && inRange (u8 b 15) 0 7 && (decide (u8 b 15 ≠ 0) || decide (u8 b 14 = u8 b 1))

/-- The counted bytes of a BEACON, checked as R6 asks. -/
def readBeacon (b : List Byte) : Option Frame :=
  match chargeModeOf (u8 b 6), directionOf (u8 b 7), readApproaches b 16 with
  | some m, some d, some a =>
    if beaconOk b then
      some (.beacon (u8 b 1)
        { position := u16 b 3, period := u8 b 5, mode := m, direction := d, cycle := u16 b 8, stamped := u16 b 10,
          triple := ⟨u16 b 12, u8 b 14, u8 b 15⟩ } a)
    else none
  | _, _, _ => none

/-- The counted bytes of a frame, checked for kind, length of the kind and fields (R9). -/
def readFrame (length : Nat) (b : List Byte) : Option Frame :=
  match u8 b 0 with
  | 1 => if length = 20 then readBeacon b else none
  | 2 =>
    (match readApproaches b 3 with
     | some a => if length = 7 ∧ headOk b then some (.storage (u8 b 1) a) else none
     | none => none)
  | 3 =>
    (match reasonOf (u8 b 3) with
     | some _ => if length = 4 ∧ headOk b then some (.depart (u8 b 1)) else none
     | none => none)
  | _ => none

/-- A valid frame is disposed of by its group and sender (R10). -/
def disposeFrame (c : Configuration) (k : Capture) (group sender : Nat) (f : Frame) (s : State) : State :=
  if group ≠ c.group then count .foreign s
  else if sender = c.station then setFlag .duplicateNumber s
  else tableTakes c k f
    (count .goodRx { s with lc := { s.lc with silenceTimer := some (5 * c.period) } })

/-- A frame completes at its second check byte: it is tested, and disposed of or discarded (R8 to R10). -/
def completeFrame (k : Capture) (length : Nat) (got : List Byte) (first second : Byte) (s : State) : State :=
  match s.config with
  | some c =>
    if putWord (crc16 got) = [first, second] then
      (match readFrame length got with
       | some f => disposeFrame c k (u8 got 2) (u8 got 1) f (setReceiver .hunt s)
       | none => discardFrame s)
    else discardFrame s
  | none => s

/-- The receiver's own mark (R5, R8): the capture is taken and the receiver moves to LENGTH. -/
def receivedMark (s : State) : State := setReceiver (.length (capture s)) s

/-- The receiver moves on a byte (R8). -/
def receiveByte (b : Byte) (framingError : Bool) (s : State) : State :=
  match s.lc.receiver with
  | .hunt => if framingError = false ∧ b = 0xA5#8 then setReceiver .start2 s else s
  | .start2 =>
    if framingError = false ∧ b = 0x3C#8 then receivedMark s
    else if framingError = false ∧ b = 0xA5#8 then s
    else setReceiver .hunt s
  | .length k =>
    if framingError = false ∧ inRange b.toNat 1 32 then setReceiver (.body k b.toNat []) s else discardFrame s
  | .body k n got =>
    if framingError then discardFrame s
    else if n ≤ got.length + 1 then setReceiver (.check k n (got ++ [b]) none) s
    else setReceiver (.body k n (got ++ [b])) s
  | .check k n got first =>
    if framingError then discardFrame s
    else match first with
      | none => setReceiver (.check k n got (some b)) s
      | some f => completeFrame k n got f b s

/-- The line going IDLE cuts short a frame held since its mark (R8). -/
def cutShort (s : State) : State :=
  match s.lc.receiver with
  | .hunt | .start2 => s
  | .length _ | .body _ _ _ | .check _ _ _ _ => discardFrame s

end Sys2Proof.Machine
end

