-- ==== Sys2Proof/Machine/Compute.lean ====
section
/-! DEFINITION. The wrap computation (R97 to R126): its snapshot, cycle agreement, and the offset stage. -/

namespace Sys2Proof.Machine

/-! ### First stage: cycle agreement -/

/-- The flow ratio of a count over the finished cycle, in thousandths, limited to 1 000 (R104). -/
def flowRatio (n cPrev s : Nat) : Nat := min (n * 36000000 / (cPrev * s)) 1000

/-- The junction ratio Y (R104). -/
def junctionRatio (p : Plan) (r : ClosedRecord) (cPrev : Nat) : Nat :=
  min (max (flowRatio r.stop.inbound cPrev p.satArterial) (flowRatio r.stop.outbound cPrev p.satArterial)
    + flowRatio r.cross cPrev p.satCross) 1000

/-- The local demand D (R105). -/
def localDemand (p : Plan) (y : Nat) : Nat :=
  if 900 ≤ y then p.cMax else (3 * p.lostTime + 100) * 1000 / (2 * (1000 - y))

/-- The smoothed demand after a move of a quarter toward D, the division rounding toward zero (R105). -/
def smoothDemand (old d : Nat) : Nat := ((old : Int) + Int.tdiv ((d : Int) - (old : Int)) 4).toNat

/-- The quantised demand D_q: rounded up to a multiple of 20 and clamped to the plan's limits (R106). -/
def quantise (p : Plan) (df : Nat) : Nat := clampNat ((df + 19) / 20 * 20) p.cMin p.cMax

/-- The candidates a table gives (R107): one hop further, within the hop limit, not of the own origin. -/
def heardCandidates (own hopLimit : Nat) (entries : List Entry) : List Triple :=
  (entries.map (fun e => ({ e.beacon.triple with hops := e.beacon.triple.hops + 1 } : Triple))).filter
    (fun t => decide (t.hops ≤ hopLimit) && decide (t.origin ≠ own))

/-- Whether a candidate displaces another of its origin: fewer hops, or as many and a larger value (R108). -/
def displaces (t u : Triple) : Bool :=
  decide (t.origin = u.origin) &&
    (decide (t.hops < u.hops) || (decide (t.hops = u.hops) && decide (u.value < t.value)))

/-- The candidates kept for their origins (R108): those that none of the candidates displaces. -/
def reduceCandidates (l : List Triple) : List Triple := l.filter (fun u => !l.any (fun t => displaces t u))

/-- The better of two candidates (R109): greater value, then fewer hops, then lower origin. -/
def better (t u : Triple) : Triple :=
  if t.value < u.value ∨ (t.value = u.value ∧ (u.hops < t.hops ∨ (u.hops = t.hops ∧ u.origin < t.origin))) then u
  else t

/-- The result among the candidates (R109); the own candidate is always one of them. -/
def agreedDemand (own hopLimit dq : Nat) (entries : List Entry) : Triple :=
  (reduceCandidates (heardCandidates own hopLimit entries)).foldl better ⟨dq, own, 0⟩

/-- The base cycle steps toward the group target (R110). -/
def stepCycle (p : Plan) (c g : Nat) : Nat :=
  if c < g then min g (min (c + p.cStep) p.cMax)
  else if g < c then max g (max (c - p.cStep) p.cMin)
  else c

/-! ### Second stage: the offset -/

/-- Whether the reference is usable (R114, R115). -/
def referenceUsable (p : Plan) (c : Nat) (finished : Word16) (r : Entry) : Bool :=
  decide (r.state = .live) && decide (r.beacon.direction = p.direction) && decide (r.beacon.cycle = c)
    && decide (r.capture.wrapCount = finished)

/-- The speed of a plan for its direction (R117). -/
def planSpeed (p : Plan) : Nat :=
  match p.direction with
  | .inbound => p.vIn
  | .outbound => p.vOut

/-- The travel time T over a distance at a speed (R117). -/
def travelTime (d v : Nat) : Nat := (72 * d + v) / (2 * v)

/-- The queue lead Q from the arrivals on red (R118). -/
def queueLead (p : Plan) (arrivals : Nat) : Nat :=
  min (p.startLoss + min arrivals (p.capacity.get p.direction) * p.headway) p.qMax

/-- Where the reference stands at the wrap: Δ (R119). -/
def referencePhase (c cPrev stamped captured : Nat) : Nat :=
  (((stamped : Int) + ((cPrev : Int) - (captured : Int))) % (c : Int)).toNat

/-- The target zero z (R120). -/
def targetZero (c phase travel lead : Nat) : Nat :=
  (((c : Int) - (phase : Int) + (travel : Int) - (lead : Int)) % (c : Int)).toNat

/-- The error e of a unit at a position against a usable reference (R117 to R120). -/
def offsetError (own : Nat) (p : Plan) (c cPrev arrivals : Nat) (r : Entry) : Int :=
  let travel := travelTime (distance r.beacon.position own) (planSpeed p)
  let lead := queueLead p arrivals
  signedWrap (targetZero c (referencePhase c cPrev r.beacon.stamped r.capture.position) travel lead) c

/-- The shortening limit m (R122). The load's check keeps p_stretch − Gmin from falling below 0. -/
def shorteningLimit (p : Plan) (c : Nat) : Nat := min (c / 8) (p.scaled c p.stretch - p.gMin)

/-- The adjustment a for an error (R121). -/
def adjustmentFor (p : Plan) (c : Nat) (e : Int) : Int :=
  if -3 ≤ e ∧ e ≤ 3 then 0 else clampInt e (-(shorteningLimit p c : Int)) ((c / 5 : Nat) : Int)

/-- The mode for an error against a usable reference (R124). -/
def modeForError (previous : ChargeMode) (e : Int) : ChargeMode :=
  if -3 ≤ e ∧ e ≤ 3 then .inStep
  else if -10 ≤ e ∧ e ≤ 10 then (if previous = .inStep then .inStep else .seeking)
  else .seeking

/-- The results of the second stage: error or none, adjustment and mode (R112 to R124). -/
structure OffsetResult where
  error : Option Int
  adjustment : Int
  mode : ChargeMode
  deriving DecidableEq, Repr

/-- The second stage of a unit at a position (R112 to R124). -/
def offsetStage (own : Nat) (p : Plan) (c : Nat) (n : Snapshot) : OffsetResult :=
  match n.reference with
  | none => ⟨none, 0, .leading⟩
  | some r =>
    if referenceUsable p c n.finished r then
      let e := offsetError own p c n.cPrev (n.closed.onRed.get p.direction) r
      ⟨some e, adjustmentFor p c e, modeForError n.previousMode e⟩
    else ⟨none, 0, n.previousMode⟩

/-! ### The whole computation -/

/-- The working plan (R99). -/
def workingPlan (cfg : Configuration) (inForce : Option Num4) (n : Snapshot) : Option (Num4 × Plan) :=
  match (match n.pendingPlan with | some k => some k | none => inForce) with
  | some k => (match cfg.plans.get k with | some p => some (k, p) | none => none)
  | none => none

/-- The working C: clamped into a pending plan's limits (R99). -/
def workingCycle (p : Plan) (n : Snapshot) : Nat :=
  if n.pendingPlan.isSome then clampNat n.cycle p.cMin p.cMax else n.cycle

/-- The working D_f: a pending plan's C_base, or the snapshot's own (R99). -/
def workingSmoothed (p : Plan) (n : Snapshot) : Nat := if n.pendingPlan.isSome then p.cBase else n.smoothed

/-- All that a computation decides (R102). -/
structure Computed where
  plan : Num4
  smoothed : Nat
  triple : Triple
  cycle : Nat
  offset : OffsetResult
  deriving DecidableEq, Repr

/-- The wrap computation, from its snapshot under a working plan (R104 to R124). -/
def compute (cfg : Configuration) (k : Num4) (p : Plan) (n : Snapshot) : Computed :=
  let d := localDemand p (junctionRatio p n.closed n.cPrev)
  let df := smoothDemand (workingSmoothed p n) d
  let t := agreedDemand cfg.station cfg.hopLimit (quantise p df) n.entries
  let c := stepCycle p (workingCycle p n) t.value
  { plan := k, smoothed := df, triple := t, cycle := c, offset := offsetStage cfg.position p c n }

/-- The plan whose direction a snapshot's reference candidate is taken for (R98, R99). -/
def snapshotDirection (cfg : Configuration) (p : Plan) (pending : Option Num4) : Direction :=
  match pending with
  | some k => (match cfg.plans.get k with | some q => q.direction | none => p.direction)
  | none => p.direction

/-- The snapshot a wrap takes of a state whose cycle has been closed, with what the wrap hands on: the finished cycle's
running length and number, and the mode at the wrap (R98). -/
def takeSnapshot (cfg : Configuration) (p : Plan) (m : ChargeMode) (cPrev : Nat) (finished : Word16) (s : State) :
    Snapshot :=
  { closed := s.di.closed, cPrev := cPrev, finished := finished, pendingPlan := s.mc.pendingPlan,
    previousMode := m, entries := s.nt.entries,
    reference := nearestUpstream cfg.position s.nt.entries (snapshotDirection cfg p s.mc.pendingPlan),
    cycle := s.cau.cycle, smoothed := s.cau.smoothed }

end Sys2Proof.Machine
end

