-- ==== Sys2Proof/Machine/Modes.lean ====
section
/-! DEFINITION. The operations that reach across the blocks: a plan taking effect (R93), taking and leaving charge (R86,
R87), leaving PASS (R82), the wrap (R45), the completion (R102), and the reset of every block (R180, R181). -/

namespace Sys2Proof.Machine

/-- Replaces the mode. -/
def setMode (m : Mode) (s : State) : State := { s with mc := { s.mc with mode := m } }

/-! ### Plans -/

/-- A plan takes effect out of charge (R93, R46): plan in force, C clamped into its limits, D_f at its C_base, pending
plan cleared; the standing clock takes the new C and marks; requests at or above the new P_life expire (R148); and a
direction whose occupied run has passed the new F_full enters FULL (R74). -/
def planStanding (c : Configuration) (n : Num4) (p : Plan) (s : State) : State :=
  let cycle := clampNat s.cau.cycle p.cMin p.cMax
  let s := { s with
    mc := { s.mc with plan := some n, pendingPlan := none, pendingTaken := false },
    cau := { s.cau with cycle := cycle, smoothed := p.cBase },
    ct := standingPlan p cycle s.ct }
  enterFullWhenDue c p .outbound (enterFullWhenDue c p .inbound (expireAged p s))

/-- A pending plan takes effect at the leaving of charge (R94). -/
def pendingTakesEffect (c : Configuration) (s : State) : State :=
  match s.mc.pendingPlan with
  | some n =>
    (match c.plans.get n with
     | some p => planStanding c n p s
     | none => s)
  | none => { s with mc := { s.mc with pendingTaken := false } }

/-! ### Charge -/

/-- The arithmetic unit with the computation in flight abandoned (R101): the snapshot is dropped, the activity is IDLE,
and C, D_f, the advertised triple, the last error and the last adjustment keep the values of the last completion. -/
def abandoned (u : CAU) : CAU := { u with snapshot := none }

/-- The unit takes charge (R86): every block takes up charge, and the marks at position 0 come due (R47). -/
def takeCharge (s : State) : State :=
  match s.setup with
  | some (c, p) =>
    let s := { s with
      mc := { s.mc with mode := .inCharge .leading, pickupElapsed := 0 },
      ct := startClock p s.cau.cycle s.ct,
      lc := linkTakesCharge c.period s.lc,
      pa := .initial,
      gt := ⟨gateTakesCharge s.gt.inbound, gateTakesCharge s.gt.outbound⟩ }
    let s := requestBeacon (setGreens true (zeroCounts (clearLines s)))
    takeReachedDeciding c p (judgeGating c p none s)
  | none => s

/-- The unit leaves charge for a mode (R87): the computation is abandoned, the clock stops, the blocks clear their state
in charge, and a pending plan takes effect (R94). -/
def leaveCharge (m : Mode) (s : State) : State :=
  match s.setup with
  | some (c, p) =>
    let s := { s with
      cau := abandoned s.cau,
      ct := stopClock p s.cau.cycle s.ct,
      lc := linkLeavesCharge s.lc,
      nt := { s.nt with lastReference := none },
      pa := .initial,
      gt := ⟨gateLeavesCharge s.gt.inbound, gateLeavesCharge s.gt.outbound⟩,
      mc := { s.mc with mode := m } }
    pendingTakesEffect c (setGreens false (clearLines s))
  | none => s

/-- The unit enters PREEMPTED from outside charge, or after leaving it: counted and flagged, the pickup time stopped
(R82, R85, R88). -/
def enterPreempted (s : State) : State :=
  setFlag .preempted (count .preempted
    { s with mc := { s.mc with mode := .preempted, pickupElapsed := 0 } })

/-- The unit leaves PASS (R82): for PREEMPTED, PICKUP or charge. -/
def leavePass (c : Configuration) (s : State) : State :=
  if s.mc.preempt.active then enterPreempted s
  else if c.syncUsed then { s with mc := { s.mc with mode := .pickup, pickupElapsed := 0 } }
  else takeCharge s

/-- The pickup limit C_base + 100 (R85). -/
def pickupDue (p : Plan) (s : State) : Bool :=
  decide (s.mc.mode = .pickup) && decide (p.cBase + 100 ≤ s.mc.pickupElapsed)

/-- The pickup timer expires (R85). -/
def pickupExpires (s : State) : State := takeCharge (setFlag .pickupTimeout s)

/-! ### The wrap -/

/-- The log record of the finished cycle (R175), from what the wrap hands on and the state as the wrap finds it once the
cycle has been closed. -/
def makeRecord (p : Plan) (finished : CT) (s : State) : LogRecord :=
  { wrapCount := finished.wrapCount
    plan := s.mc.plan
    direction := some p.direction
    mode := s.mc.mode
    cycle := s.cau.cycle
    running := finished.cRun
    adjustment := if finished.completionSeen then finished.adjustment else 0
    error := if finished.completionSeen then s.cp.logError else none
    reference := if finished.completionSeen then s.cp.logReference else none
    closed := s.di.closed
    storage := s.di.storage
    gating := ⟨s.gt.inbound.marks, s.gt.outbound.marks⟩
    grant := s.pa.cycleGrant
    triple := s.cau.triple }

/-- Whether a record is K or more wraps earlier than cycle n (R174). -/
def agedOut (k : Nat) (n : Word16) (r : LogRecord) : Bool := decide (k ≤ (n - r.wrapCount).toNat)

/-- One aged record is counted and flagged in LOG_TIMEOUT (R174). -/
def countAged (s : State) : State := setFlag .logTimeout (count .logTimeout s)

/-- The log takes the record of the finished cycle, after discarding the records K or more wraps earlier (R174). -/
def appendRecord (c : Configuration) (r : LogRecord) (s : State) : State :=
  let aged := s.cp.log.filter (agedOut c.retention r.wrapCount)
  let s := aged.foldl (fun s _ => countAged s) s
  { s with cp := { s.cp with log := s.cp.log.filter (fun q => !agedOut c.retention r.wrapCount q) ++ [r] } }

/-- The wrap computation starts (R98): the snapshot is taken and pending taken since snapshot becomes no (R92). -/
def startComputation (c : Configuration) (p : Plan) (m : ChargeMode) (finished : CT) (s : State) : State :=
  { s with
    cau := { s.cau with snapshot := some (takeSnapshot c p m finished.cRun finished.wrapCount s) },
    mc := { s.mc with pendingTaken := false },
    computations := s.computations + 1 }

/-- A wrap (R45): the Cycle Timer opens the next cycle, the Detector Interface closes the finished one, the Cabinet Port
makes its record, the computation starts, the Priority Arbiter, the Output Line Unit and the Gating Logic open the new
cycle, and then the marks at position 0 come due. -/
def doWrap (s : State) : State :=
  match s.setup, s.mc.mode with
  | some (c, p), .inCharge m =>
    let finished := s.ct
    let s := closeCycle c p { s with ct := openCycle p s.cau.cycle s.ct }
    let s := startComputation c p m finished (appendRecord c (makeRecord p finished s) s)
    let s := setGreens true (clearLines { s with pa := priorityWrap s.pa })
    takeReachedDeciding c p (gatingWrap c p s)
  | _, _ => s

/-- Whether the next step is a wrap (R44): the clock runs, no extension does, and the step would reach C_run. -/
def wrapDue (t : CT) : Bool :=
  t.running && decide (t.extension ≠ .running) && decide (t.cRun ≤ t.position + 1)

/-- A step of the running clock (R44, R54). A step that would bring x above 300 does not occur. -/
def doStep (s : State) : State :=
  if wrapDue s.ct then doWrap s
  else if s.ct.extension = .running then
    (match s.planInForce with
     | some p => if s.ct.x < 300 then { s with ct := extensionStep p s.ct } else s
     | none => s)
  else { s with ct := plainStep s.ct }

/-! ### The completion -/

/-- Whether a completion can fall (R100): a computation is in flight, from 1 to 20 ds after the wrap that began it. -/
def completionCanFall (s : State) : Bool :=
  s.cau.snapshot.isSome && s.ct.running && decide (1 ≤ s.ct.position) && decide (s.ct.position ≤ 20)

/-- The last reference a completion records (R39): the snapshot's candidate, if its station is still in the table. -/
def recordedReference (entries : List Entry) (candidate : Option Entry) : Option Nat :=
  match candidate with
  | some e => if (findEntry entries e.station).isSome then some e.station else none
  | none => none

/-- The output lines whose mark is unused in the plan now in force lose their mark-drive state (R163). -/
def clearUnusedLines (c : Configuration) (p : Plan) (s : State) : State :=
  { s with olu := s.olu.mapNum (fun k o => if lineMarkUsed (c.outputs.get k) p then o else { o with drive := false }) }

/-- What a plan brought by a completion does beside the clock (R93, R138, R148, R74). DESIGN CHOICE (log entry 41): the
requests at or above its P_life expire in this same step, at the moment the plan takes effect, as R148 says; R156 has a
plan leave the queue alone and P_life read at the next decisecond. The order of these effects is log entry 25. -/
def planAtCompletion (c : Configuration) (p : Plan) (s : State) : State :=
  let s := enterFullWhenDue c p .outbound (enterFullWhenDue c p .inbound (expireAged p s))
  replaceGate c p .outbound (replaceGate c p .inbound s)

/-- The results of a computation become the unit's at one instant (R102): C, D_f, triple, e, a, plan and mode, the last
reference (R39), the Cabinet Port's copies (R175), and the clock's new length and marks (R52, R53). -/
def applyResults (n : Snapshot) (p : Plan) (r : Computed) (s : State) : State :=
  let reference := recordedReference s.nt.entries n.reference
  { s with
    cau := { snapshot := none, smoothed := r.smoothed, cycle := r.cycle, triple := r.triple,
             lastError := r.offset.error, lastAdjustment := r.offset.adjustment },
    mc := { s.mc with mode := .inCharge r.offset.mode, plan := some r.plan,
                      pendingPlan := (if s.mc.pendingTaken then s.mc.pendingPlan else none), pendingTaken := false },
    nt := { s.nt with lastReference := reference },
    cp := { s.cp with logError := r.offset.error, logReference := reference },
    ct := applyToClock p r.cycle r.offset.adjustment s.ct }

/-- The completion of the computation in flight (R102, R52, R53): its results are applied, a plan it brings takes effect
in every block, and the marks it has put at or before the position come due, unless an early green has ended the
cycle. -/
def doCompletion (n : Snapshot) (s : State) : State :=
  match s.config with
  | some c =>
    (match workingPlan c s.mc.plan n with
     | some (k, p) =>
       let s := clearUnusedLines c p (applyResults n p (compute c k p n) s)
       let s := if n.pendingPlan.isSome then planAtCompletion c p s else s
       if s.ct.earlyGreen then s else takeReachedDeciding c p s
     | none => s)
  | none => s

/-! ### Resets -/

/-- Every block at its value after power-up or RESTART, with the flags, mask and counters given; the raw levels of the
inputs, the line state, the conditions of the reset input and supply, and the waiting commands stay (R180, R181). -/
def resetBlocks (flags mask : Word16) (counters : Counters) (s : State) : State :=
  { s with
    lc := .initial s.lc.line, nt := .initial, ct := .initial,
    di := .initial (s.di.lines.mapNum (fun _ l => l.raw)),
    cau := .initial, mc := .initial s.mc.sync.raw s.mc.preempt.raw,
    gt := ⟨.initial, .initial⟩, pa := .initial,
    olu := s.olu.mapNum (fun _ o => OutputLine.initial o.passThrough),
    cp := .initial flags mask, cl := .loading, counters := counters }

/-- RESTART acts (R180): as power-up, but the flags, the mask and the counters keep their values. -/
def actRestart (s : State) : State := resetBlocks s.cp.flags s.cp.mask s.counters s

end Sys2Proof.Machine
end

