-- ==== Sys2Proof/Machine/Loader.lean ====
section
/-! DEFINITION. The Configuration Loader (R177 to R179): the course of a load on the two-wire bus, the checks of the block
in their order, the configuration a good block gives, and what every block takes from it. -/

namespace Sys2Proof.Machine

/-! ### The bus -/

/-- A cleanup fails when the data line is low at the first reading and still after the ninth pulse (R178). -/
def cleanupFails (t : LoadTry) : Bool := decide (10 ≤ t.lowReads)

/-- The memory acknowledges each of the four address bytes (R178). -/
def memoryAnswers (t : LoadTry) : Bool := t.ackWrite && t.ackHigh && t.ackLow && t.ackRead

/-- The data bytes given are at least those the load reads: 290, or three where the first two give another length
(R178). -/
def dataSuffices (data : List Byte) : Bool :=
  decide (290 ≤ data.length) || (decide (3 ≤ data.length) && decide (u16 data 0 ≠ 290))

/-- How the addressing of the memory ends. -/
inductive BusEnd where
  /-- The memory is addressed and the data bytes are read. -/
  | addressed
  /-- A bus failure: a cleanup fails in any try, or an acknowledge is missing in the fourth (R178). -/
  | failed
  /-- The tries given do not end the load. -/
  | unfinished
  deriving DecidableEq, Repr

/-- The course of the tries (R178), with the number of tries still allowed. -/
def runTries : Nat → List LoadTry → BusEnd
  | 0, _ => .failed
  | _ + 1, [] => .unfinished
  | left + 1, t :: rest =>
    if cleanupFails t then .failed
    else if memoryAnswers t then .addressed
    else runTries left rest

/-! ### The checks of the block -/

/-- One check: the offset of its field's first byte, and whether it passes. -/
structure FieldTest where
  offset : Nat
  ok : Bool
  deriving DecidableEq, Repr

/-- The offset of the first check that fails. -/
def firstFailure : List FieldTest → Option Nat
  | [] => none
  | t :: rest => if t.ok then firstFailure rest else some t.offset

/-- A one-byte field's range check. -/
def test8 (b : List Byte) (off lo hi : Nat) : FieldTest := ⟨off, inRange (u8 b off) lo hi⟩

/-- A two-byte field's range check. -/
def test16 (b : List Byte) (off lo hi : Nat) : FieldTest := ⟨off, inRange (u16 b off) lo hi⟩

/-- A cycle length's range check: 300 … 2 400, a multiple of 20. -/
def testCycle (b : List Byte) (off : Nat) : FieldTest := ⟨off, cycleOk (u16 b off)⟩

/-- Offset of the entry of detector line k (section 11.8). -/
def detectorOffset (k : Num8) : Nat := 12 + 4 * (k.toNat - 1)

/-- Offset of the entry of output line k (section 11.8). -/
def outputOffset (k : Num8) : Nat := 44 + 3 * (k.toNat - 1)

/-- Offset of plan part n (section 11.8). -/
def planOffset (n : Num4) : Nat := 68 + 55 * (n.toNat - 1)

/-- Offset of a mark's base position within a plan part (section 11.8). -/
def markOffset (m : Num8) : Nat := 31 + 2 * (m.toNat - 1)

/-- The range checks of a detector entry. -/
def detectorTests (b : List Byte) (k : Num8) : List FieldTest :=
  let o := detectorOffset k
  [test8 b o 0 7, test8 b (o + 1) 0 25, test8 b (o + 2) 10 255, test8 b (o + 3) 2 15]

/-- The range checks of an output entry. -/
def outputTests (b : List Byte) (k : Num8) : List FieldTest :=
  let o := outputOffset k
  [test8 b o 0 8, test8 b (o + 1) 0 1, test8 b (o + 2) 0 2]

/-- A plan part is present when its present byte is 1. -/
def planPresent (b : List Byte) (n : Num4) : Bool := decide (u8 b (planOffset n) = 1)

/-- The range check of a mark's base position: 0, or 1 … C_base − 1. -/
def markTest (b : List Byte) (o : Nat) (m : Num8) : FieldTest :=
  ⟨o + markOffset m, decide (u16 b (o + markOffset m) = 0) || decide (u16 b (o + markOffset m) < u16 b (o + 1))⟩

/-- The range checks of the fields of a present plan part after the present byte. -/
def planFieldTests (b : List Byte) (o : Nat) : List FieldTest :=
  [testCycle b (o + 1), testCycle b (o + 3), testCycle b (o + 5),
   ⟨o + 7, inRange (u8 b (o + 7)) 20 200 && decide (u8 b (o + 7) % 20 = 0)⟩,
   test8 b (o + 8) 1 2, test8 b (o + 9) 15 90, test8 b (o + 10) 15 90, test8 b (o + 11) 0 50, test8 b (o + 12) 10 40,
   test16 b (o + 13) 0 600, test16 b (o + 15) 50 1200, test16 b (o + 17) 50 400, test16 b (o + 19) 20 400,
   test16 b (o + 21) 600 2400, test16 b (o + 23) 600 2400, test8 b (o + 25) 1 255, test8 b (o + 26) 1 255,
   test16 b (o + 27) 50 600, test16 b (o + 29) 20 300]
  ++ Num8.all.map (markTest b o)
  ++ [test8 b (o + 47) 1 8, test8 b (o + 48) 0 200, test16 b (o + 49) 0 300, test16 b (o + 51) 50 400,
      test16 b (o + 53) 100 1200]

/-- The range checks of a plan part (R179, 3): where its present byte is 0, no field after it is checked. -/
def planTests (b : List Byte) (n : Num4) : List FieldTest :=
  test8 b (planOffset n) 0 1 :: (if planPresent b n then planFieldTests b (planOffset n) else [])

/-- The range of every field, in order of offset (R179, 3). -/
def rangeTests (b : List Byte) : List FieldTest :=
  [test8 b 2 1 250, test8 b 3 0 15, test16 b 4 0 65535, test16 b 6 100 5000, test8 b 8 10 50, test8 b 9 1 7,
   test8 b 10 2 16, test8 b 11 0 1]
  ++ Num8.all.flatMap (detectorTests b) ++ Num8.all.flatMap (outputTests b) ++ Num4.all.flatMap (planTests b)

/-- The base position a plan part's stretch index names. -/
def stretchBase (b : List Byte) (o : Nat) : Nat := u16 b (o + 31 + 2 * (u8 b (o + 47) - 1))

/-- p_stretch at Cmin of a plan part. -/
def stretchAtMin (b : List Byte) (o : Nat) : Nat := stretchBase b o * u16 b (o + 3) / u16 b (o + 1)

/-- The early-mark row of the cross-checks for one mark: a used mark before the stretch mark has 8 × base below
7 × C_base. -/
def earlyMarkTest (b : List Byte) (o : Nat) (m : Num8) : FieldTest :=
  let base := u16 b (o + markOffset m)
  ⟨o + markOffset m,
    decide (base = 0) || decide (stretchBase b o ≤ base) || decide (8 * base < 7 * u16 b (o + 1))⟩

/-- The rows of the cross-checks that concern plans, each a list of checks on a plan part (R179, 4). -/
def planRows (b : List Byte) : List (Nat → List FieldTest) :=
  [fun o => [⟨o + 1, decide (u16 b (o + 3) ≤ u16 b (o + 1))⟩],
   fun o => [⟨o + 5, decide (u16 b (o + 1) ≤ u16 b (o + 5))⟩],
   fun o => [⟨o + 47, decide (stretchBase b o ≠ 0)⟩],
   fun o => Num8.all.map (earlyMarkTest b o),
   fun o => [⟨o + 15, decide (u16 b (o + 15) ≤ stretchAtMin b o)⟩],
   fun o => [⟨o + 13, decide (u16 b (o + 13) ≤ u16 b (o + 3) / 2)⟩],
   fun o => [⟨o + 17, decide (u16 b (o + 17) ≤ stretchAtMin b o)⟩]]

/-- The detector lines whose role codes satisfy a test, in order of number. -/
def linesWithRole (b : List Byte) (test : Nat → Bool) : List Num8 :=
  Num8.all.filter (fun k => test (u8 b (detectorOffset k)))

/-- At most n lines satisfy a test on their role codes: the failure is at the role of the next one. -/
def atMostLines (b : List Byte) (n : Nat) (test : Nat → Bool) : List FieldTest :=
  match (linesWithRole b test).drop n with
  | [] => []
  | k :: _ => [⟨detectorOffset k, false⟩]

/-- The cross-checks, row by row; a row that concerns plans is made for each present plan in turn (R179, 4). -/
def crossTests (b : List Byte) : List FieldTest :=
  (planRows b).flatMap (fun row => (Num4.all.filter (planPresent b)).flatMap (fun n => row (planOffset n)))
  ++ atMostLines b 1 (fun r => decide (r = 1)) ++ atMostLines b 1 (fun r => decide (r = 2))
  ++ atMostLines b 4 (fun r => decide (r = 6) || decide (r = 7))
  ++ [⟨planOffset .n1, planPresent b .n1⟩]

/-- The length the block's first two bytes give. -/
def blockLength (b : List Byte) : Nat := u16 b 0

/-- The CRC check of the block (R177). -/
def blockCrcOk (b : List Byte) : Bool := decide (putWord (crc16 (b.take 288)) = [b.getD 288 0, b.getD 289 0])

/-- The checks of a block that has been read, in their order (R179). -/
def blockTests (b : List Byte) : List FieldTest :=
  ⟨0, decide (blockLength b = 290)⟩ :: ⟨288, blockCrcOk b⟩ :: (rangeTests b ++ crossTests b)

/-! ### The configuration of a good block -/

/-- The role a code names (section 11.8). -/
def roleOf : Nat → Role
  | 1 => .advIn | 2 => .advOut | 3 => .stopIn | 4 => .stopOut | 5 => .cross | 6 => .transitHigh | 7 => .transitLow
  | _ => .unused

/-- The gate direction a code names (section 11.8). -/
def gateOf : Nat → Option Direction
  | 1 => some .inbound | 2 => some .outbound
  | _ => none

/-- The entry of a detector line. -/
def readDetector (b : List Byte) (k : Num8) : DetectorSetting :=
  let o := detectorOffset k
  { role := roleOf (u8 b o), filter := u8 b (o + 1), stuckOn := u8 b (o + 2), stuckOff := u8 b (o + 3) }

/-- The entry of an output line. -/
def readOutput (b : List Byte) (k : Num8) : OutputSetting :=
  let o := outputOffset k
  { mark := Num8.ofNumber (u8 b o), polarity := (if u8 b (o + 1) = 1 then .inverted else .direct),
    gate := gateOf (u8 b (o + 2)) }

/-- The fields of a plan part. -/
def readPlan (b : List Byte) (o : Nat) : Plan :=
  { cBase := u16 b (o + 1), cMin := u16 b (o + 3), cMax := u16 b (o + 5), cStep := u8 b (o + 7)
    direction := (if u8 b (o + 8) = 2 then .outbound else .inbound)
    vIn := u8 b (o + 9), vOut := u8 b (o + 10), startLoss := u8 b (o + 11), headway := u8 b (o + 12)
    qMax := u16 b (o + 13), gMin := u16 b (o + 15), gateMin := u16 b (o + 17), lostTime := u16 b (o + 19)
    satArterial := u16 b (o + 21), satCross := u16 b (o + 23)
    capacity := ⟨u8 b (o + 25), u8 b (o + 26)⟩
    fFull := u16 b (o + 27), fRel := u16 b (o + 29)
    marks := Eight.make (fun m => u16 b (o + markOffset m))
    stretch := (match Num8.ofNumber (u8 b (o + 47)) with | some m => m | none => .n1)
    eMax := u8 b (o + 48), xMax := u16 b (o + 49), xMin := u16 b (o + 51), pLife := u16 b (o + 53) }

/-- A plan part: a plan where it is present. -/
def readPlanPart (b : List Byte) (n : Num4) : Option Plan :=
  if planPresent b n then some (readPlan b (planOffset n)) else none

/-- The configuration a block gives (section 11.8). -/
def readConfiguration (b : List Byte) : Configuration :=
  { station := u8 b 2, group := u8 b 3, position := u16 b 4, reach := u16 b 6, period := u8 b 8, hopLimit := u8 b 9,
    retention := u8 b 10, syncUsed := decide (u8 b 11 = 1),
    detectors := Eight.make (readDetector b), outputs := Eight.make (readOutput b),
    plans := ⟨readPlanPart b .n1, readPlanPart b .n2, readPlanPart b .n3, readPlanPart b .n4⟩ }

/-- How a load ends (R178, R179). -/
inductive LoadEnd where
  | good (c : Configuration)
  | bad (index : Nat)
  | unfinished
  deriving DecidableEq, Repr

/-- The end of a load with these observations: bad with index 0 at a bus failure, bad with the failing field's offset
plus 1 at a check, and otherwise good (R178, R179). -/
def loadEnd (o : LoadObservation) : LoadEnd :=
  match runTries 4 o.tries with
  | .failed => .bad 0
  | .unfinished => .unfinished
  | .addressed =>
    if dataSuffices o.data = false then .unfinished
    else match firstFailure (blockTests o.data) with
      | some off => .bad (off + 1)
      | none => .good (readConfiguration o.data)

/-! ### What a load's end does -/

/-- A detector line as a good load starts it (R63, R64): the filter of a used line whose raw input is active starts
timing. -/
def startLine (set : DetectorSetting) (l : DetectorLine) : DetectorLine :=
  { l with occupied := false, timing := roleUsed set.role && l.raw, occupiedRun := 0, vacantRun := 0 }

/-- A direction with no advance line is UNKNOWN from the moment the configuration loads good (R76). -/
def startStorage (c : Configuration) (d : Direction) : Storage :=
  match c.advanceLine d with
  | some _ => .clear
  | none => .unknown

/-- The configuration is taken into force and each block takes its configured starting values (R12, R15, R43, R63, R76,
R80, R97). -/
def takeConfiguration (c : Configuration) (p : Plan) (s : State) : State :=
  { s with
    cl := .good c,
    lc := { s.lc with generator := BitVec.ofNat 16 (c.station * 257), silenceTimer := some (5 * c.period) },
    ct := standingPlan p p.cBase s.ct,
    di := { s.di with lines := s.di.lines.mapNum (fun k l => startLine (c.detectors.get k) l),
                      storage := ⟨startStorage c .inbound, startStorage c .outbound⟩ },
    cau := { s.cau with cycle := p.cBase, smoothed := p.cBase, triple := ⟨p.cBase, c.station, 0⟩ },
    mc := { s.mc with plan := some .n1 } }

/-- A load ends good: the configuration is taken into force and the unit leaves PASS (R179, R82). -/
def loadGood (c : Configuration) (s : State) : State :=
  match c.plans.get .n1 with
  | some p => leavePass c (takeConfiguration c p s)
  | none => s

/-- A load ends bad: the failure index is kept and CONFIG_BAD set (R179). -/
def loadBad (index : Nat) (s : State) : State := setFlag .configBad { s with cl := .bad index }

/-- A load ends (R179), where one is running and the observations end it. -/
def completeLoad (o : LoadObservation) (s : State) : State :=
  match s.cl, loadEnd o with
  | .loading, .good c => loadGood c s
  | .loading, .bad index => loadBad index s
  | .loading, .unfinished => s
  | .good _, _ => s
  | .bad _, _ => s

end Sys2Proof.Machine
end

