-- ==== Sys2Proof/Machine/Port.lean ====
section
/-! DEFINITION. The Cabinet Port (R169 to R176, R182): its receiver, the taking of a message, the responses' bytes, and
what each command does. -/

namespace Sys2Proof.Machine

/-! ### Responses -/

/-- The kind byte of a command (R171). -/
def hostKindCode : HostKind → Byte
  | .status => 0x01 | .table => 0x02 | .counters => 0x03 | .log => 0x04 | .flags => 0x05 | .clear => 0x06
  | .mask => 0x07 | .plan => 0x08 | .manual => 0x09 | .release => 0x0A | .hold => 0x0B | .resume => 0x0C
  | .restart => 0x0D

/-- The command a kind byte names, if it is one of the thirteen (R171). -/
def hostKindOf (b : Byte) : Option HostKind :=
  if b = 0x01#8 then some .status else if b = 0x02#8 then some .table else if b = 0x03#8 then some .counters
  else if b = 0x04#8 then some .log else if b = 0x05#8 then some .flags else if b = 0x06#8 then some .clear
  else if b = 0x07#8 then some .mask else if b = 0x08#8 then some .plan else if b = 0x09#8 then some .manual
  else if b = 0x0A#8 then some .release else if b = 0x0B#8 then some .hold else if b = 0x0C#8 then some .resume
  else if b = 0x0D#8 then some .restart else none

/-- The length byte of a command (R171). -/
def hostKindLength : HostKind → Nat
  | .clear | .mask | .manual => 3
  | .plan | .release => 2
  | .status | .table | .counters | .log | .flags | .hold | .resume | .restart => 1

/-- The reasons of a refusal (R171). -/
inductive RefusalReason where
  | badMessage | badArgument | badState
  deriving DecidableEq, Repr

/-- The reason byte of a refusal (R171). -/
def reasonByte : RefusalReason → Byte
  | .badMessage => 0x01 | .badArgument => 0x02 | .badState => 0x03

/-- The check byte, which makes the sum from the length byte on 0 modulo 256 (R169). -/
def checkByte (bytes : List Byte) : Byte := 0 - byteSum bytes

/-- A whole response from its response kind, echoed kind and data (R171). -/
def responseBytes (kind echo : Byte) (data : List Byte) : List Byte :=
  let counted := put8 (data.length + 2) ++ [kind, echo] ++ data
  [0x5A#8] ++ counted ++ [checkByte counted]

/-- A response is begun: the command is in hand until it has been sent (R170). -/
def respond (hand : InHand) (bytes : List Byte) (s : State) : State :=
  { s with cp := { s.cp with inHand := some hand, response := bytes } }

/-- The answer OK with data (R171). -/
def answerOk (k : HostKind) (data : List Byte) (s : State) : State :=
  respond (.accepted k) (responseBytes 0x80 (hostKindCode k) data) s

/-- The answer EMPTY (R171). -/
def answerEmpty (k : HostKind) (s : State) : State :=
  respond (.accepted k) (responseBytes 0x81 (hostKindCode k) []) s

/-- The answer REFUSED with a reason, echoing a kind byte (R171). -/
def answerRefused (echo : Byte) (r : RefusalReason) (s : State) : State :=
  respond .refused (responseBytes 0x82 echo [reasonByte r]) s

/-- The answer REFUSED to a well-formed command. -/
def refuseCommand (k : HostKind) (r : RefusalReason) (s : State) : State := answerRefused (hostKindCode k) r s

/-! ### Layouts (R182) -/

/-- An optional field: a presence byte, and the field, 0 when absent (R182). -/
def putOptional {α : Type} (f : Option α) (zero : List Byte) (bytes : α → List Byte) : List Byte :=
  match f with
  | some x => put8 1 ++ bytes x
  | none => put8 0 ++ zero

/-- A demand triple: value, origin, hops. -/
def putTriple (t : Triple) : List Byte := put16 t.value ++ put8 t.origin ++ put8 t.hops

/-- The code of a load status (R182). -/
def loadCode : Load → Nat
  | .loading => 0
  | .good _ => 1
  | .bad _ => 2

/-- The failure index, 0 unless BAD (R182). -/
def failureIndex : Load → Nat
  | .bad index => index
  | .loading | .good _ => 0

/-- The code of a fault state (R182). -/
def faultCode : FaultState → Nat
  | .good => 0 | .stuckOn => 1 | .stuckOff => 2

/-- The code of a source (R182). -/
def sourceCode : Source → Nat
  | .passThrough => 0 | .inactive => 1 | .manual => 2 | .markDrive => 3

/-- The code of a manual level: FF for none (R182). -/
def manualCode : Option Bool → Nat
  | some b => boolCode b
  | none => 255

/-- The STATUS bytes of a detector line (R182). -/
def detectorStatus (l : DetectorLine) : List Byte := put8 (boolCode l.occupied) ++ put8 (faultCode l.fault)

/-- The STATUS bytes of an output line (R182). -/
def outputStatus (s : State) (k : Num8) : List Byte :=
  put8 (sourceCode (s.source k)) ++ put8 (manualCode (s.olu.get k).manual) ++ put8 (boolCode (s.olu.get k).drive)
    ++ put8 (boolCode (s.outputLevel k))

/-- The pass-through inputs, bit k − 1 for input k (R182). -/
def passThroughByte (o : Eight OutputLine) : Nat :=
  Num8.all.foldl (fun n k => n + boolCode (o.get k).passThrough * 2 ^ (k.toNat - 1)) 0

/-- The first fields of STATUS: load, mode, plans, clock and last reference (R182). -/
def unitStatus (s : State) : List Byte :=
  put8 (loadCode s.cl) ++ put16 (failureIndex s.cl)
    ++ put8 (modeCode s.mc.mode) ++ put8 (planCode? s.mc.plan) ++ put8 (planCode? s.mc.pendingPlan)
    ++ put8 (directionCode? (s.planInForce.map Plan.direction))
    ++ put16 (if s.mc.mode = .pickup then s.mc.pickupElapsed else 0)
    ++ put16 s.cau.cycle ++ put16 s.ct.cRun ++ put16 s.ct.position
    ++ put8 (stationCode? s.nt.lastReference)

/-- The next fields of STATUS: the last computation, storage, gating and the filtered inputs (R182). -/
def coordinationStatus (s : State) : List Byte :=
  putOptional s.cau.lastError (put16 0) putInt ++ putInt s.cau.lastAdjustment
    ++ putTriple s.cau.triple
    ++ put8 (storageCode s.di.storage.inbound) ++ put8 (storageCode s.di.storage.outbound)
    ++ put8 (stationCode? s.gt.inbound.station) ++ put8 (stationCode? s.gt.outbound.station)
    ++ put8 (boolCode s.mc.sync.active) ++ put8 (boolCode s.mc.preempt.active)

/-- The last fields of STATUS: the lines, the pass-through inputs and the two single outputs (R182). -/
def linesStatus (s : State) : List Byte :=
  s.di.lines.toList.flatMap detectorStatus
    ++ Num8.all.flatMap (outputStatus s)
    ++ put8 (passThroughByte s.olu)
    ++ put8 (boolCode s.alertOutput) ++ put8 (boolCode s.chargeOutput)

/-- The data of STATUS (R182). -/
def statusData (s : State) : List Byte := unitStatus s ++ coordinationStatus s ++ linesStatus s

/-- The code of an entry's state (R182). -/
def entryStateCode : EntryState → Nat
  | .live => 1 | .quiet => 2

/-- A TABLE entry (R42, R182). -/
def entryData (e : Entry) : List Byte :=
  put8 e.station ++ put16 e.beacon.position ++ put8 e.beacon.period ++ put8 (chargeModeCode e.beacon.mode)
    ++ put8 (directionCode e.beacon.direction) ++ put16 e.beacon.cycle ++ put16 e.beacon.stamped
    ++ put16 e.capture.position ++ putWord e.capture.wrapCount ++ putTriple e.beacon.triple
    ++ put8 (storageCode e.approaches.inbound.storage) ++ put8 e.approaches.inbound.fedBy
    ++ put8 (storageCode e.approaches.outbound.storage) ++ put8 e.approaches.outbound.fedBy
    ++ put8 e.silence ++ put8 (entryStateCode e.state)

/-- The data of TABLE (R42, R182). -/
def tableData (s : State) : List Byte := put8 s.nt.entries.length ++ s.nt.entries.flatMap entryData

/-- The data of COUNTERS (R172). -/
def countersData (s : State) : List Byte := s.counters.toList.flatMap put16

/-- A direction's gating marks: bit 0 active, bit 1 entered, bit 2 ended by loss (R182). -/
def gatingMarksCode (g : GatingMarks) : Nat := boolCode g.active + 2 * boolCode g.entered + 4 * boolCode g.endedByLoss

/-- A grant: its kind and deciseconds (R182). -/
def grantData : Grant → List Byte
  | .extension ds => put8 1 ++ put16 ds
  | .early ds => put8 2 ++ put16 ds

/-- The first fields of a log record: the cycle's number, plan, mode, lengths, adjustment, error and reference (R182). -/
def cycleRecord (r : LogRecord) : List Byte :=
  putWord r.wrapCount ++ put8 (planCode? r.plan) ++ put8 (directionCode? r.direction) ++ put8 (modeCode r.mode)
    ++ put16 r.cycle ++ put16 r.running ++ putInt r.adjustment
    ++ putOptional r.error (put16 0) putInt ++ putOptional r.reference (put8 0) put8

/-- The next fields of a log record: the closed counts, storage states and gating marks (R182). -/
def trafficRecord (r : LogRecord) : List Byte :=
  put8 r.closed.stop.inbound ++ put8 r.closed.stop.outbound ++ put8 r.closed.cross
    ++ put8 r.closed.onRed.inbound ++ put8 r.closed.onGreen.inbound
    ++ put8 r.closed.onRed.outbound ++ put8 r.closed.onGreen.outbound
    ++ put8 (storageCode r.storage.inbound) ++ put8 (storageCode r.storage.outbound)
    ++ put8 (gatingMarksCode r.gating.inbound) ++ put8 (gatingMarksCode r.gating.outbound)

/-- The data of LOG: one record, the last fields of which are the grant and the advertised triple (R175, R182). -/
def recordData (r : LogRecord) : List Byte :=
  cycleRecord r ++ trafficRecord r ++ putOptional r.grant (put8 0 ++ put16 0) grantData ++ putTriple r.triple

/-! ### What each command does -/

/-- STATUS (R172). -/
def actStatus (s : State) : State := answerOk .status (statusData s) s

/-- TABLE (R42, R172). -/
def actTable (s : State) : State := answerOk .table (tableData s) s

/-- COUNTERS (R172). -/
def actCounters (s : State) : State := answerOk .counters (countersData s) s

/-- LOG (R176). -/
def actLog (s : State) : State :=
  match s.cp.log with
  | [] => answerEmpty .log s
  | r :: rest => answerOk .log (recordData r) { s with cp := { s.cp with log := rest } }

/-- FLAGS (R173). -/
def actFlags (s : State) : State := answerOk .flags (putWord s.cp.flags) s

/-- Whether a flag word names bits 14 or 15, which name no flag (R173). -/
def namesNoFlag (w : Word16) : Bool := w.getLsbD 14 || w.getLsbD 15

/-- CLEAR (R173). -/
def actClear (w : Word16) (s : State) : State :=
  if namesNoFlag w then refuseCommand .clear .badArgument s
  else answerOk .clear [] { s with cp := { s.cp with flags := s.cp.flags &&& ~~~w } }

/-- MASK (R173). -/
def actMask (w : Word16) (s : State) : State :=
  if namesNoFlag w then refuseCommand .mask .badArgument s
  else answerOk .mask [] { s with cp := { s.cp with mask := w } }

/-- The pickup timer expires at the moment a plan takes effect whose limit is at or below the elapsed time (R85). Where
the same plan lowers F_full below a run already passed, the direction has entered FULL before the timer expires: the spec
does not say which comes first, and it is the model's choice (DESIGN CHOICE, log entry 40). -/
def pickupAfterPlan (p : Plan) (s : State) : State := if pickupDue p s then pickupExpires s else s

/-- PLAN names a present plan: in charge it becomes pending, and otherwise it takes effect at once (R91). In PICKUP the
FULL entries it brings (R74) come before the expiry it brings (R85), and so out of charge, where R77 requests no STORAGE
frame: that order is the model's choice (DESIGN CHOICE, log entry 40). -/
def choosePlan (c : Configuration) (n : Num4) (p : Plan) (s : State) : State :=
  if s.inCharge then
    { s with mc := { s.mc with pendingPlan := some n,
                               pendingTaken := s.mc.pendingTaken || s.cau.snapshot.isSome } }
  else pickupAfterPlan p (planStanding c n p s)

/-- The plan a PLAN command names, if the configuration has it (R91). -/
def namedPlan (c : Configuration) (number : Byte) : Option (Num4 × Plan) :=
  match Num4.ofNumber number.toNat with
  | some n => (match c.plans.get n with | some p => some (n, p) | none => none)
  | none => none

/-- PLAN (R91). -/
def actPlan (number : Byte) (s : State) : State :=
  match s.config with
  | none => refuseCommand .plan .badState s
  | some c =>
    (match namedPlan c number with
     | some (n, p) => answerOk .plan [] (choosePlan c n p s)
     | none => refuseCommand .plan .badArgument s)

/-- Replaces a line's manual level. -/
def setManual (k : Num8) (level : Option Bool) (s : State) : State :=
  { s with olu := s.olu.set k { s.olu.get k with manual := level } }

/-- The level a MANUAL command names: 1 for active, 0 for inactive (R165). -/
def manualLevel (b : Byte) : Option Bool :=
  if b = 0#8 then some false else if b = 1#8 then some true else none

/-- MANUAL (R165). -/
def actManual (line level : Byte) (s : State) : State :=
  match Num8.ofNumber line.toNat, manualLevel level with
  | some k, some v => answerOk .manual [] (setManual k (some v) s)
  | _, _ => refuseCommand .manual .badArgument s

/-- RELEASE (R166). -/
def actRelease (line : Byte) (s : State) : State :=
  match Num8.ofNumber line.toNat with
  | some k => answerOk .release [] (setManual k none s)
  | none => refuseCommand .release .badArgument s

/-- HOLD moves the unit to PASS (R90). -/
def holdUnit (s : State) : State :=
  match s.mc.mode with
  | .inCharge _ => requestDepart .hold (leaveCharge .pass s)
  | .pickup => { s with mc := { s.mc with mode := .pass, pickupElapsed := 0 } }
  | .preempted => setMode .pass s
  | .pass => s

/-- HOLD (R90). -/
def actHold (s : State) : State := answerOk .hold [] (holdUnit s)

/-- RESUME (R83). -/
def actResume (s : State) : State :=
  match s.config with
  | some c => if s.mc.mode = .pass then answerOk .resume [] (leavePass c s) else refuseCommand .resume .badState s
  | none => refuseCommand .resume .badState s

/-- RESTART is taken: a computation in flight is abandoned at once (R101), the answer is OK, and all else that RESTART
does waits until that has been sent (R180, log entry 35). -/
def actRestartTaken (s : State) : State := answerOk .restart [] { s with cau := abandoned s.cau }

/-- A command of a kind acts, with the arguments of its message (R171). -/
def actKind (k : HostKind) (args : List Byte) (s : State) : State :=
  match k with
  | .status => actStatus s
  | .table => actTable s
  | .counters => actCounters s
  | .log => actLog s
  | .flags => actFlags s
  | .clear => actClear (BitVec.ofNat 16 (u16 args 0)) s
  | .mask => actMask (BitVec.ofNat 16 (u16 args 0)) s
  | .plan => actPlan (args.getD 0 0) s
  | .manual => actManual (args.getD 0 0) (args.getD 1 0) s
  | .release => actRelease (args.getD 0 0) s
  | .hold => actHold s
  | .resume => actResume s
  | .restart => actRestartTaken s

/-! ### Taking a message -/

/-- Replaces the state of the port's receiver. -/
def setPort (r : PortReceiver) (s : State) : State := { s with cp := { s.cp with receiver := r } }

/-- A message that has ended is taken when no command is in hand: the receiver is back in WAIT and the message acts
(R169, R170). With a command in hand it is not taken. -/
def takeMessage (act : State → State) (s : State) : State :=
  match s.cp.inHand with
  | none => act (setPort .wait s)
  | some _ => s

/-- The kind byte a malformed message is answered with: its own, or 00 when it ended before it (R171). -/
def echoOf (got : List Byte) : Byte := got.getD 0 0

/-- A message ends as malformed (R169, R171): refused with BAD_MESSAGE, or discarded untested where it is an overrun. -/
def endMalformed (overrun : Bool) (echo : Byte) (s : State) : State :=
  if overrun then setPort .wait s else takeMessage (answerRefused echo .badMessage) (setPort .wait s)

/-- A whole message ends at its check byte (R169 to R171). -/
def endMessage (overrun : Bool) (length : Nat) (got : List Byte) (check : Byte) (s : State) : State :=
  if overrun then setPort .wait s
  else if byteSum (put8 length ++ got ++ [check]) ≠ 0 then endMalformed false (echoOf got) s
  else match hostKindOf (echoOf got) with
    | some k =>
      if length = hostKindLength k then takeMessage (actKind k (got.drop 1)) (setPort .wait s)
      else endMalformed false (echoOf got) s
    | none => endMalformed false (echoOf got) s

/-- A start byte opens a message: an overrun, counted and flagged, where a command is in hand (R169, R170). -/
def openMessage (s : State) : State :=
  match s.cp.inHand with
  | none => setPort (.length false) s
  | some _ => setFlag .portOverrun (count .portOverrun (setPort (.length true) s))

/-- The port's receiver moves on a byte (R169). A byte with a framing error is not kept, so a message whose kind byte
itself arrives with one has ended before its kind byte and is answered with 00: the spec does not say which, and it is
the model's choice (DESIGN CHOICE, log entry 37). -/
def portByte (b : Byte) (framingError : Bool) (s : State) : State :=
  match s.cp.receiver with
  | .wait => if framingError = false ∧ b = 0x5A#8 then openMessage s else s
  | .length o =>
    if framingError = false ∧ inRange b.toNat 1 3 then setPort (.body o b.toNat []) s else endMalformed o 0 s
  | .body o n got =>
    if framingError then endMalformed o (echoOf got) s
    else if n ≤ got.length + 1 then setPort (.check o n (got ++ [b])) s
    else setPort (.body o n (got ++ [b])) s
  | .check o n got =>
    if framingError then endMalformed o (echoOf got) s else endMessage o n got b s

/-- More than 20 byte times pass within a message: it is cut short (R169). -/
def portTimeout (s : State) : State :=
  match s.cp.receiver with
  | .wait => s
  | .length o => endMalformed o 0 s
  | .body o _ got => endMalformed o (echoOf got) s
  | .check o _ got => endMalformed o (echoOf got) s

/-- The response has been sent: the command leaves the port's hand, and a RESTART acts (R170, R180). -/
def responseDone (s : State) : State :=
  match s.cp.inHand with
  | some (.accepted .restart) => actRestart s
  | some _ => { s with cp := { s.cp with inHand := none, response := [] } }
  | none => s

end Sys2Proof.Machine
end

