-- ==== Sys2Proof/Machine/CabinetEvents.lean ====
section
/-! DEFINITION. Meanings: the events of the sync, preempt and pass-through inputs, and the pickup timer. -/

namespace Sys2Proof.Machine

/-- A filtered input at a raw level (R81, as R63): timing while the level differs from the filtered one. -/
def inputLevel (level : Bool) (i : FilteredInput) : FilteredInput :=
  { i with raw := level, timing := decide (level ≠ i.active) }

/-- Records an input's raw level. -/
def inputRaw (level : Bool) (i : FilteredInput) : FilteredInput := { i with raw := level }

/-- Changes one of the two filtered inputs. -/
def changeInput (f : FilteredInput → FilteredInput) (n : CabinetInput) (s : State) : State :=
  match n with
  | .sync => { s with mc := { s.mc with sync := f s.mc.sync } }
  | .preempt => { s with mc := { s.mc with preempt := f s.mc.preempt } }

/-- CABINET_INPUT_CHANGE (R81): both inputs are filtered in every mode and whatever the configuration. The raw level is
the cabinet's, so it is taken also while the unit does not work. -/
def execCabinetInputChange (n : CabinetInput) (level : Bool) (s : State) : Host.Outcome State Fault Refusal :=
  if s.powered then .next (changeInput (inputLevel level) n s) else .next (changeInput (inputRaw level) n s)

/-- Whether an input's filter passes a rising edge (R81). -/
def inputRises (i : FilteredInput) : Bool := i.timing && i.raw && !i.active

/-- Whether an input's filter passes a falling edge (R81). -/
def inputFalls (i : FilteredInput) : Bool := i.timing && !i.raw && i.active

/-- An input's filtered level takes a new value (R81). -/
def inputEdge (level : Bool) (i : FilteredInput) : FilteredInput := { i with active := level, timing := false }

/-- Whether the configuration in force says that the sync input is used (R81). -/
def syncIsUsed (s : State) : Bool :=
  match s.config with
  | some c => c.syncUsed
  | none => false

/-- A filtered sync rising edge (R81, R84): in PICKUP the unit takes charge. -/
def syncRises (s : State) : State :=
  if inputRises s.mc.sync then
    let s := changeInput (inputEdge true) .sync s
    if s.mc.mode = .pickup ∧ syncIsUsed s then takeCharge s else s
  else s

/-- SYNC_RISING_EDGE (R84). -/
def execSyncRisingEdge (s : State) : Host.Outcome State Fault Refusal := onUnit syncRises s

/-- A filtered sync falling edge, which Mode Control ignores in every mode (R81). -/
def syncFalls (s : State) : State :=
  if inputFalls s.mc.sync then changeInput (inputEdge false) .sync s else s

/-- SYNC_FALLING_EDGE (R81). -/
def execSyncFallingEdge (s : State) : Host.Outcome State Fault Refusal := onUnit syncFalls s

/-- Mode Control at a filtered preempt rising edge (R81, R88): from charge the unit leaves charge and requests a DEPART,
from PICKUP it enters PREEMPTED, and elsewhere the edge is ignored. -/
def preemptUnit (s : State) : State :=
  match s.mc.mode with
  | .inCharge _ => requestDepart .preempt (enterPreempted (leaveCharge .preempted s))
  | .pickup => enterPreempted s
  | .pass | .preempted => s

/-- A filtered preempt rising edge (R88). -/
def preemptRises (s : State) : State :=
  if inputRises s.mc.preempt then preemptUnit (changeInput (inputEdge true) .preempt s) else s

/-- PREEMPT_RISING_EDGE (R88). -/
def execPreemptRisingEdge (s : State) : Host.Outcome State Fault Refusal := onUnit preemptRises s

/-- A filtered preempt falling edge (R89): in PREEMPTED the unit takes charge, and elsewhere the edge is ignored. -/
def preemptFalls (s : State) : State :=
  if inputFalls s.mc.preempt then
    let s := changeInput (inputEdge false) .preempt s
    if s.mc.mode = .preempted then takeCharge s else s
  else s

/-- PREEMPT_FALLING_EDGE (R89). -/
def execPreemptFallingEdge (s : State) : Host.Outcome State Fault Refusal := onUnit preemptFalls s

/-- The pickup elapsed time has reached C_base + 100 (R85). -/
def pickupRunsOut (s : State) : State :=
  match s.planInForce with
  | some p => if pickupDue p s then pickupExpires s else s
  | none => s

/-- PICKUP_TIMEOUT (R85). -/
def execPickupTimeout (s : State) : Host.Outcome State Fault Refusal := onUnit pickupRunsOut s

/-- A pass-through input takes a level, with no filter (R160). -/
def setPassThrough (k : Num8) (level : Bool) (s : State) : State :=
  { s with olu := s.olu.set k { s.olu.get k with passThrough := level } }

/-- PASS_THROUGH_CHANGE (R160). The input's level is the cabinet's, so it is taken also while the unit does not work;
the paired output line follows it in PASS and PICKUP (State.outputLevel). -/
def execPassThroughChange (k : Num8) (level : Bool) (s : State) : Host.Outcome State Fault Refusal :=
  .next (setPassThrough k level s)

end Sys2Proof.Machine
end

