-- ==== Sys2Proof/Machine/ClockEvents.lean ====
section
/-! DEFINITION. Meanings: the events of the cycle clock, the wrap computation, gating and transit priority. -/

namespace Sys2Proof.Machine

/-- A decisecond step, where the clock runs (R44). -/
def clockSteps (s : State) : State := if s.ct.running then doStep s else s

/-- CLOCK_STEP (R44): a step that would bring the position to C_run is instead the wrap. -/
def execClockStep (s : State) : Host.Outcome State Fault Refusal := onUnit clockSteps s

/-- The wrap, where the next step would reach C_run (R45). -/
def clockWraps (s : State) : State := if wrapDue s.ct then doWrap s else s

/-- WRAP (R45). -/
def execWrap (s : State) : Host.Outcome State Fault Refusal := onUnit clockWraps s

/-- The marks the position has reached on the positions they hold come due, unless an early green has ended the cycle:
they came due at the step, before anything that moves them (R50, section 3.8). -/
def takeStepDues (s : State) : State :=
  match s.setup with
  | some (c, p) => if s.ct.earlyGreen then s else takeReachedDeciding c p s
  | none => s

/-- The completion of the computation in flight, where it can fall (R100, R102); the marks that the position has already
reached come due before it moves them (R50, log entry 38). -/
def computationCompletes (s : State) : State :=
  match s.cau.snapshot with
  | some n => if completionCanFall s then doCompletion n (takeStepDues s) else s
  | none => s

/-- COMPLETION (R102). -/
def execCompletion (s : State) : Host.Outcome State Fault Refusal := onUnit computationCompletes s

/-- A mark the position has reached comes due (R50), with the decision of R51 where it is a stretched mark reached
together with the stretch mark. After an early green no mark is taken (R56). -/
def markComesDue (m : Num8) (s : State) : State :=
  match s.setup with
  | some (c, p) =>
    if s.ct.running ∧ s.ct.earlyGreen = false ∧ markReached s.ct m then
      if p.stretches m ∧ markReached s.ct p.stretch then reachStretch c p s else takeDue c p m s
    else s
  | none => s

/-- MARK_DUE (R50). -/
def execMarkDue (m : Num8) (s : State) : Host.Outcome State Fault Refusal := onUnit (markComesDue m) s

/-- A gate point the position has reached is acted on (R139). -/
def gatePointComes (d : Direction) (s : State) : State :=
  match s.setup with
  | some (c, p) => if gateDue s d then reachGate c p d s else s
  | none => s

/-- GATE_POINT_REACHED (R139). -/
def execGatePointReached (d : Direction) (s : State) : Host.Outcome State Fault Refusal := onUnit (gatePointComes d) s

/-- The early window opens, where both limits are met and it has not opened in the cycle (R153); late, where the queue
brings the event late (log entry 17). -/
def windowOpens (s : State) : State :=
  match s.planInForce with
  | some p => if windowDue p s then decideEarly { s with pa := { s.pa with windowOpened := true } } else s
  | none => s

/-- WINDOW_OPENING (R153). -/
def execWindowOpening (s : State) : Host.Outcome State Fault Refusal := onUnit windowOpens s

/-- The extension has run to its limit (R152). -/
def extensionRunsOut (s : State) : State :=
  match s.setup with
  | some (c, p) => if limitReached s then endExtension c p s else s
  | none => s

/-- EXTENSION_LIMIT (R152). -/
def execExtensionLimit (s : State) : Host.Outcome State Fault Refusal := onUnit extensionRunsOut s

/-- A line's queued request has reached P_life (R148). -/
def requestRunsOut (line : Num8) (s : State) : State :=
  match s.planInForce with
  | some p => if requestAged p line s then expireRequest line s else s
  | none => s

/-- REQUEST_EXPIRY (R148). -/
def execRequestExpiry (line : Num8) (s : State) : Host.Outcome State Fault Refusal := onUnit (requestRunsOut line) s

end Sys2Proof.Machine
end

