-- ==== Sys2Proof/Machine/DetectorEvents.lean ====
section
/-! DEFINITION. Meanings: the events of the detector lines. -/

namespace Sys2Proof.Machine

/-- Whether a line's filter passes a rising edge: it times an active raw input over a VACANT level (R63). -/
def risingDue (l : DetectorLine) : Bool := l.timing && l.raw && !l.occupied

/-- Whether a line's filter passes a falling edge: it times an inactive raw input over an OCCUPIED level (R63). -/
def fallingDue (l : DetectorLine) : Bool := l.timing && !l.raw && l.occupied

/-- A line at a filtered rising edge (R64, R65, R72): OCCUPIED, its runs at 0, a STUCK_OFF fault left with a zero run of
0, and the edge counted. -/
def risenLine (role : Role) (green : PerDir Bool) (l : DetectorLine) : DetectorLine :=
  { l with occupied := true, timing := false, occupiedRun := 0, vacantRun := 0,
           fault := (if l.fault = .stuckOff then .good else l.fault),
           zeroRun := (if l.fault = .stuckOff then 0 else l.zeroRun),
           counts := countEdge role green l.counts }

/-- A filtered rising edge of a used line (R64, R65, R67, R72, R76, R78). -/
def risingEdge (c : Configuration) (p : Plan) (k : Num8) (s : State) : State :=
  let l := s.di.lines.get k
  let new := risenLine (c.role k) s.di.green l
  let s := setLine k new s
  let s := if l.fault = .stuckOff then storageRecovers c k s else s
  match roleTransit (c.role k) with
  | some g => if new.fault = .good then requestArrives p k g s else s
  | none => s

/-- A line at a filtered falling edge (R64, R72): VACANT, its runs at 0, a STUCK_ON fault left. -/
def fallenLine (l : DetectorLine) : DetectorLine :=
  { l with occupied := false, timing := false, occupiedRun := 0, vacantRun := 0,
           fault := (if l.fault = .stuckOn then .good else l.fault) }

/-- A filtered falling edge of a used line (R64, R72, R76, R78). -/
def fallingEdge (c : Configuration) (p : Plan) (k : Num8) (s : State) : State :=
  let l := s.di.lines.get k
  let s := setLine k (fallenLine l) s
  let s := if l.fault = .stuckOn then storageRecovers c k s else s
  match roleTransit (c.role k) with
  | some _ => withdraw c p k s
  | none => s

/-- Records a detector line's raw level. -/
def setRaw (k : Num8) (level : Bool) (s : State) : State := setLine k { s.di.lines.get k with raw := level } s

/-- A used line's filter at a raw level (R63): timing while the level differs from the filtered one, and a filter time of
0 passes the edge at once. -/
def filterLevel (c : Configuration) (p : Plan) (k : Num8) (s : State) : State :=
  let l := s.di.lines.get k
  if l.raw = l.occupied then setLine k { l with timing := false } s
  else if (c.detectors.get k).filter = 0 then (if l.raw then risingEdge c p k s else fallingEdge c p k s)
  else setLine k { l with timing := true } s

/-- A detector line's raw input takes a level (R62, R63): a used line of a good configuration is filtered. -/
def detectorChanges (k : Num8) (level : Bool) (s : State) : State :=
  match s.setup with
  | some (c, p) => if roleUsed (c.role k) then filterLevel c p k (setRaw k level s) else setRaw k level s
  | none => setRaw k level s

/-- DETECTOR_INPUT_CHANGE (R63). The raw level is the cabinet's, so it is taken also while the unit does not work. -/
def execDetectorInputChange (k : Num8) (level : Bool) (s : State) : Host.Outcome State Fault Refusal :=
  if s.powered then .next (detectorChanges k level s) else .next (setRaw k level s)

/-- The filter time of a used line with an active raw input has passed (R63, R65). -/
def lineRises (k : Num8) (s : State) : State :=
  match s.setup with
  | some (c, p) => if roleUsed (c.role k) ∧ risingDue (s.di.lines.get k) then risingEdge c p k s else s
  | none => s

/-- FILTERED_RISING_EDGE (R65). -/
def execFilteredRisingEdge (k : Num8) (s : State) : Host.Outcome State Fault Refusal := onUnit (lineRises k) s

/-- The filter time of a used line with an inactive raw input has passed (R63, R64). -/
def lineFalls (k : Num8) (s : State) : State :=
  match s.setup with
  | some (c, p) => if roleUsed (c.role k) ∧ fallingDue (s.di.lines.get k) then fallingEdge c p k s else s
  | none => s

/-- FILTERED_FALLING_EDGE (R64). -/
def execFilteredFallingEdge (k : Num8) (s : State) : Host.Outcome State Fault Refusal := onUnit (lineFalls k) s

/-- Whether a line is to become FAULTY with cause STUCK_ON (R70). -/
def stuckOnDue (c : Configuration) (k : Num8) (l : DetectorLine) : Bool :=
  roleUsed (c.role k) && l.occupied && decide (c.stuckOnLimit k ≤ l.occupiedRun) && decide (l.fault ≠ .stuckOn)

/-- A line's occupied run has reached its stuck-on limit (R70). -/
def lineSticksOn (k : Num8) (s : State) : State :=
  match s.config with
  | some c => if stuckOnDue c k (s.di.lines.get k) then enterFault c k .stuckOn s else s
  | none => s

/-- STUCK_ON (R70). -/
def execStuckOn (k : Num8) (s : State) : Host.Outcome State Fault Refusal := onUnit (lineSticksOn k) s

/-- The occupied run of a direction's advance line has reached F_full (R74). -/
def directionFills (d : Direction) (s : State) : State :=
  match s.setup with
  | some (c, p) => enterFullWhenDue c p d s
  | none => s

/-- FULL_ENTRY (R74). -/
def execFullEntry (d : Direction) (s : State) : Host.Outcome State Fault Refusal := onUnit (directionFills d) s

/-- The vacant run of a direction's advance line has reached F_rel (R75). -/
def directionClears (d : Direction) (s : State) : State :=
  match s.setup with
  | some (c, p) => if releaseDue c p d s then setStorage d .clear s else s
  | none => s

/-- FULL_RELEASE (R75). -/
def execFullRelease (d : Direction) (s : State) : Host.Outcome State Fault Refusal := onUnit (directionClears d) s

end Sys2Proof.Machine
end

