-- ==== Sys2Proof/Machine/LinkEvents.lean ====
section
/-! DEFINITION. Meanings: the events of the arterial link and of the Neighbour Table's aging. -/

namespace Sys2Proof.Machine

/-- A start bit (R3, R16): the line is BUSY, and a running deferral ends without an attempt. -/
def startBit (s : State) : State := { s with lc := { s.lc with line := .busy, deferral := none } }

/-- LINE_BUSY (R16). The line state follows the line also while the unit does not work. -/
def execLineBusy (s : State) : Host.Outcome State Fault Refusal :=
  if s.powered then .next (startBit s) else .next { s with lc := { s.lc with line := .busy } }

/-- The idle gap has run out (R3, R8, R15): the line is IDLE, a frame held since its mark is cut short, and a deferral
begins where a slot is occupied and none is running. The line cannot go IDLE while the unit drives it. -/
def idleGap (s : State) : State :=
  if s.lc.attempt = none then
    let s := cutShort { s with lc := { s.lc with line := .idle } }
    { s with lc := deferWhenIdle s.lc }
  else s

/-- LINE_IDLE (R3). The line state follows the line also while the unit does not work. -/
def execLineIdle (s : State) : Host.Outcome State Fault Refusal :=
  if s.powered then .next (idleGap s) else .next { s with lc := { s.lc with line := .idle } }

/-- The deferral runs out with the line IDLE (R15, R17). -/
def deferralRunsOut (s : State) : State :=
  if s.lc.line = .idle ∧ s.lc.attempt = none then { s with lc := startAttempt s.lc } else s

/-- DEFERRAL_END (R15). -/
def execDeferralEnd (s : State) : Host.Outcome State Fault Refusal := onUnit deferralRunsOut s

/-- A frame mark (R5): the unit's own while its attempt has not reached its mark, and otherwise that of the frame being
received, where the receiver waits for the second start byte. -/
def frameMarkPasses (s : State) : State :=
  match s.lc.attempt with
  | some a => if a.frame.isNone then ownMark a s else s
  | none => if receiverActive s ∧ s.lc.receiver = .start2 then receivedMark s else s

/-- FRAME_MARK (R5). -/
def execFrameMark (s : State) : Host.Outcome State Fault Refusal := onUnit frameMarkPasses s

/-- The second check byte of the frame being received arrives (R8 to R10). -/
def lastCheckByte (b : Byte) (s : State) : State :=
  match receiverActive s, s.lc.receiver with
  | true, .check k n got (some f) => completeFrame k n got f b s
  | _, _ => s

/-- FRAME_RECEIVED (R10). -/
def execFrameReceived (b : Byte) (s : State) : Host.Outcome State Fault Refusal := onUnit (lastCheckByte b) s

/-- A collision, where an attempt runs (R18, R19). -/
def collisionFound (s : State) : State :=
  match s.lc.attempt with
  | some a => collide a.kind s
  | none => s

/-- COLLISION (R18). -/
def execCollision (s : State) : Host.Outcome State Fault Refusal := onUnit collisionFound s

/-- The last check byte has been sent clean, where an attempt runs past its mark (R17). -/
def attemptDone (s : State) : State :=
  match s.lc.attempt with
  | some a => if a.frame.isSome then succeed a.kind s else s
  | none => s

/-- ATTEMPT_SUCCESS (R17). -/
def execAttemptSuccess (s : State) : Host.Outcome State Fault Refusal := onUnit attemptDone s

/-- The beacon timer is at zero (R20): a BEACON request, and the timer loaded with P. -/
def beaconTimerOut (s : State) : State :=
  match s.config with
  | some c =>
    if s.inCharge ∧ s.lc.beaconTimer = some 0 then
      requestBeacon { s with lc := { s.lc with beaconTimer := some c.period } }
    else s
  | none => s

/-- BEACON_TIMER_EXPIRY (R20). -/
def execBeaconTimerExpiry (s : State) : Host.Outcome State Fault Refusal := onUnit beaconTimerOut s

/-- The link-silence timer is at zero (R12): LINK_SILENT is set and the timer stops. -/
def silenceTimerOut (s : State) : State :=
  if s.lc.silenceTimer = some 0 then setFlag .linkSilent { s with lc := { s.lc with silenceTimer := none } } else s

/-- LINK_SILENT (R12). -/
def execLinkSilent (s : State) : Host.Outcome State Fault Refusal := onUnit silenceTimerOut s

/-- A LIVE entry is down to 3 × P (R33). -/
def entryTurnsQuiet (station : Nat) (s : State) : State :=
  match findEntry s.nt.entries station with
  | some e => if quietDue e then makeQuiet station s else s
  | none => s

/-- ENTRY_QUIET (R33). -/
def execEntryQuiet (station : Nat) (s : State) : Host.Outcome State Fault Refusal := onUnit (entryTurnsQuiet station) s

/-- An entry's silence timer is at zero (R34). -/
def entryExpires (station : Nat) (s : State) : State :=
  match findEntry s.nt.entries station with
  | some e => if expiryDue e then loseStation station s else s
  | none => s

/-- EXPIRY (R34). -/
def execExpiry (station : Nat) (s : State) : Host.Outcome State Fault Refusal := onUnit (entryExpires station) s

/-- A byte on the link, where the receiver is active (R8, R11). -/
def linkByteArrives (b : Byte) (framingError : Bool) (s : State) : State :=
  if receiverActive s then receiveByte b framingError s else s

/-- LINK_BYTE_RECEIVED (R8). -/
def execLinkByteReceived (b : Byte) (framingError : Bool) (s : State) : Host.Outcome State Fault Refusal :=
  onUnit (linkByteArrives b framingError) s

end Sys2Proof.Machine
end

