-- ==== Sys2Proof/Machine/PortEvents.lean ====
section
/-! DEFINITION. Meanings: the bytes and messages of the cabinet port, and the thirteen commands. The row of a command is
the taking of its whole message (R170); the same command arrives byte by byte through PORT_BYTE_RECEIVED. -/

namespace Sys2Proof.Machine

/-- MALFORMED_MESSAGE (R171). -/
def execMalformedMessage (kind : Byte) (s : State) : Host.Outcome State Fault Refusal :=
  onUnit (takeMessage (answerRefused kind .badMessage)) s

/-- MESSAGE_TIMEOUT (R169). -/
def execMessageTimeout (s : State) : Host.Outcome State Fault Refusal := onUnit portTimeout s

/-- A start byte that arrives with the receiver in WAIT while a command is in hand (R170). -/
def startByteOverruns (s : State) : State :=
  if s.cp.receiver = .wait ∧ s.cp.inHand.isSome then openMessage s else s

/-- PORT_OVERRUN (R170). -/
def execPortOverrun (s : State) : Host.Outcome State Fault Refusal := onUnit startByteOverruns s

/-- RESPONSE_SENT (R170, R180). -/
def execResponseSent (s : State) : Host.Outcome State Fault Refusal := onUnit responseDone s

/-- STATUS (R172). -/
def execStatus (s : State) : Host.Outcome State Fault Refusal := onUnit (takeMessage actStatus) s

/-- TABLE (R42). -/
def execTable (s : State) : Host.Outcome State Fault Refusal := onUnit (takeMessage actTable) s

/-- COUNTERS (R172). -/
def execCounters (s : State) : Host.Outcome State Fault Refusal := onUnit (takeMessage actCounters) s

/-- LOG (R176). -/
def execLog (s : State) : Host.Outcome State Fault Refusal := onUnit (takeMessage actLog) s

/-- FLAGS (R173). -/
def execFlags (s : State) : Host.Outcome State Fault Refusal := onUnit (takeMessage actFlags) s

/-- CLEAR (R173). -/
def execClear (w : Word16) (s : State) : Host.Outcome State Fault Refusal := onUnit (takeMessage (actClear w)) s

/-- MASK (R173). -/
def execMask (w : Word16) (s : State) : Host.Outcome State Fault Refusal := onUnit (takeMessage (actMask w)) s

/-- PLAN (R91). -/
def execPlan (n : Byte) (s : State) : Host.Outcome State Fault Refusal := onUnit (takeMessage (actPlan n)) s

/-- MANUAL (R165). -/
def execManual (line level : Byte) (s : State) : Host.Outcome State Fault Refusal :=
  onUnit (takeMessage (actManual line level)) s

/-- RELEASE (R166). -/
def execRelease (line : Byte) (s : State) : Host.Outcome State Fault Refusal := onUnit (takeMessage (actRelease line)) s

/-- HOLD (R90). -/
def execHold (s : State) : Host.Outcome State Fault Refusal := onUnit (takeMessage actHold) s

/-- RESUME (R83). -/
def execResume (s : State) : Host.Outcome State Fault Refusal := onUnit (takeMessage actResume) s

/-- RESTART (R180). -/
def execRestart (s : State) : Host.Outcome State Fault Refusal := onUnit (takeMessage actRestartTaken) s

/-- PORT_BYTE_RECEIVED (R169). -/
def execPortByteReceived (b : Byte) (framingError : Bool) (s : State) : Host.Outcome State Fault Refusal :=
  onUnit (portByte b framingError) s

end Sys2Proof.Machine
end

