-- ==== Sys2Proof/Machine/StartEvents.lean ====
section
/-! DEFINITION. Meanings: power-up, the reset input, the supply, and the end of a configuration load. -/

namespace Sys2Proof.Machine

/-- POWER_UP (R181): every block at its power-up value, flags, mask and counters cleared, the reset input released and
the supply in range, and a load begun. -/
def execPowerUp (s : State) : Host.Outcome State Fault Refusal :=
  .next (resetBlocks 0 0 .zero { s with resetHeld := false, supplyOut := false })

/-- CONFIG_LOAD_COMPLETE (R178, R179). -/
def execConfigLoadComplete (o : LoadObservation) (s : State) : Host.Outcome State Fault Refusal :=
  onUnit (completeLoad o) s

/-- RESET_ASSERTED (R158): while the reset input is held, every output line, the alert output and the charge output are
inactive. -/
def execResetAsserted (s : State) : Host.Outcome State Fault Refusal := .next { s with resetHeld := true }

/-- SUPPLY_OUT_OF_RANGE (R158): while the supply is out of range, every output line, the alert output and the charge
output are inactive. -/
def execSupplyOutOfRange (s : State) : Host.Outcome State Fault Refusal := .next { s with supplyOut := true }

end Sys2Proof.Machine
end

