-- ==== Sys2Proof/Machine/Dispatch.lean ====
section
/-! DEFINITION. The effect of each command: one arm for each row of the table of operations and events. -/

namespace Sys2Proof.Machine

/-- A command's effect on everything but the queue of waiting commands. -/
def exec (i : Instr) (s : State) : Host.Outcome State Fault Refusal :=
  match i with
  | .powerUp => Sys2Proof.Machine.execPowerUp s
  | .configLoadComplete obs => Sys2Proof.Machine.execConfigLoadComplete obs s
  | .lineBusy => Sys2Proof.Machine.execLineBusy s
  | .lineIdle => Sys2Proof.Machine.execLineIdle s
  | .deferralEnd => Sys2Proof.Machine.execDeferralEnd s
  | .frameMark => Sys2Proof.Machine.execFrameMark s
  | .frameReceived check => Sys2Proof.Machine.execFrameReceived check s
  | .collision => Sys2Proof.Machine.execCollision s
  | .attemptSuccess => Sys2Proof.Machine.execAttemptSuccess s
  | .beaconTimerExpiry => Sys2Proof.Machine.execBeaconTimerExpiry s
  | .linkSilent => Sys2Proof.Machine.execLinkSilent s
  | .entryQuiet station => Sys2Proof.Machine.execEntryQuiet station s
  | .expiry station => Sys2Proof.Machine.execExpiry station s
  | .clockStep => Sys2Proof.Machine.execClockStep s
  | .wrap => Sys2Proof.Machine.execWrap s
  | .completion => Sys2Proof.Machine.execCompletion s
  | .markDue mark => Sys2Proof.Machine.execMarkDue mark s
  | .gatePointReached dir => Sys2Proof.Machine.execGatePointReached dir s
  | .windowOpening => Sys2Proof.Machine.execWindowOpening s
  | .extensionLimit => Sys2Proof.Machine.execExtensionLimit s
  | .requestExpiry line => Sys2Proof.Machine.execRequestExpiry line s
  | .detectorInputChange line level => Sys2Proof.Machine.execDetectorInputChange line level s
  | .filteredRisingEdge line => Sys2Proof.Machine.execFilteredRisingEdge line s
  | .filteredFallingEdge line => Sys2Proof.Machine.execFilteredFallingEdge line s
  | .stuckOn line => Sys2Proof.Machine.execStuckOn line s
  | .fullEntry dir => Sys2Proof.Machine.execFullEntry dir s
  | .fullRelease dir => Sys2Proof.Machine.execFullRelease dir s
  | .cabinetInputChange input level => Sys2Proof.Machine.execCabinetInputChange input level s
  | .syncRisingEdge => Sys2Proof.Machine.execSyncRisingEdge s
  | .syncFallingEdge => Sys2Proof.Machine.execSyncFallingEdge s
  | .preemptRisingEdge => Sys2Proof.Machine.execPreemptRisingEdge s
  | .preemptFallingEdge => Sys2Proof.Machine.execPreemptFallingEdge s
  | .pickupTimeout => Sys2Proof.Machine.execPickupTimeout s
  | .passThroughChange line level => Sys2Proof.Machine.execPassThroughChange line level s
  | .malformedMessage kind => Sys2Proof.Machine.execMalformedMessage kind s
  | .messageTimeout => Sys2Proof.Machine.execMessageTimeout s
  | .portOverrun => Sys2Proof.Machine.execPortOverrun s
  | .responseSent => Sys2Proof.Machine.execResponseSent s
  | .status => Sys2Proof.Machine.execStatus s
  | .table => Sys2Proof.Machine.execTable s
  | .counters => Sys2Proof.Machine.execCounters s
  | .log => Sys2Proof.Machine.execLog s
  | .flags => Sys2Proof.Machine.execFlags s
  | .clear word => Sys2Proof.Machine.execClear word s
  | .mask word => Sys2Proof.Machine.execMask word s
  | .plan number => Sys2Proof.Machine.execPlan number s
  | .manual line level => Sys2Proof.Machine.execManual line level s
  | .release line => Sys2Proof.Machine.execRelease line s
  | .hold => Sys2Proof.Machine.execHold s
  | .resume => Sys2Proof.Machine.execResume s
  | .restart => Sys2Proof.Machine.execRestart s
  | .linkByteReceived byte framingError => Sys2Proof.Machine.execLinkByteReceived byte framingError s
  | .portByteReceived byte framingError => Sys2Proof.Machine.execPortByteReceived byte framingError s
  | .resetAsserted => Sys2Proof.Machine.execResetAsserted s
  | .supplyOutOfRange => Sys2Proof.Machine.execSupplyOutOfRange s

end Sys2Proof.Machine
end

