-- ==== Sys2Proof/Machine/Tick.lean ====
section
/-! DEFINITION. What the unit does of itself while no command waits (log entries 1 to 3): the events that are due at the
present instant become waiting commands; and when none is due, one decisecond passes on every decisecond timer, and the
running clock's step, or the wrap, becomes a waiting command. -/

namespace Sys2Proof.Machine

/-! ### One decisecond -/

/-- A down-counting timer after a decisecond: stopped timers stay stopped, and one at zero waits for its expiry. -/
def countDown : Option Nat → Option Nat
  | some (n + 1) => some n
  | some 0 => some 0
  | none => none

/-- A run timer after a decisecond: it stops at 65 535 (R64). -/
def countRun (n : Nat) : Nat := min (n + 1) 65535

/-- A detector line after a decisecond (R64): a used line's run of its present filtered level counts. -/
def lineTick (set : DetectorSetting) (l : DetectorLine) : DetectorLine :=
  if roleUsed set.role then
    (if l.occupied then { l with occupiedRun := countRun l.occupiedRun }
     else { l with vacantRun := countRun l.vacantRun })
  else l

/-- The detector lines after a decisecond, under a good configuration (R64). -/
def linesTick (c : Option Configuration) (lines : Eight DetectorLine) : Eight DetectorLine :=
  match c with
  | some c => lines.mapNum (fun k l => lineTick (c.detectors.get k) l)
  | none => lines

/-- An entry after a decisecond (R33). -/
def entryTick (e : Entry) : Entry := { e with silence := e.silence - 1 }

/-- A queued request after a decisecond (R146). -/
def requestTick (r : Request) : Request := { r with age := r.age + 1 }

/-- Mode Control after a decisecond: the pickup elapsed time counts in PICKUP (R85). -/
def pickupTick (m : MC) : MC := if m.mode = .pickup then { m with pickupElapsed := m.pickupElapsed + 1 } else m

/-- The command a decisecond brings to the running clock: the wrap where the step would reach C_run, and otherwise the
step (R44). -/
def clockCommand (t : CT) : List Instr :=
  if t.running then (if wrapDue t then [.wrap] else [.clockStep]) else []

/-- One decisecond passes (R12, R20, R33, R44, R64, R85, R146). -/
def tick (s : State) : State :=
  { s with
    lc := { s.lc with beaconTimer := countDown s.lc.beaconTimer, silenceTimer := countDown s.lc.silenceTimer },
    nt := { s.nt with entries := s.nt.entries.map entryTick },
    di := { s.di with lines := linesTick s.config s.di.lines },
    mc := pickupTick s.mc,
    pa := { s.pa with queue := s.pa.queue.map requestTick },
    pending := clockCommand s.ct }

/-! ### Events due at the present instant -/

/-- A command under a condition. -/
def dueIf (b : Bool) (i : Instr) : List Instr := if b then [i] else []

/-- A running deferral of no slots runs out at once (R15). -/
def deferralDue (l : LC) : Bool :=
  match l.deferral with
  | some d => decide (d.slots = 0) && decide (l.line = .idle) && l.attempt.isNone
  | none => false

/-- The aging event an entry is due for (R33, R34). -/
def agingDue (e : Entry) : List Instr :=
  if expiryDue e then [.expiry e.station] else dueIf (quietDue e) (.entryQuiet e.station)

/-- The completion is due at the instant the free value names, at the latest 20 ds after the wrap (R100). -/
def completionDue (s : State) : Bool :=
  completionCanFall s && decide ((Config.completionDelay s.computations).val + 1 ≤ s.ct.position)

/-- The events of the clock, gating and priority that are due: first the marks the position has reached, which come due
at the step (R50), and then the completion. -/
def cycleDue (p : Plan) (s : State) : List Instr :=
  (if s.ct.running ∧ s.ct.earlyGreen = false then
        (Num8.all.filter (markReached s.ct)).map Instr.markDue
      else [])
  ++ dueIf (completionDue s) .completion
  ++ dueIf (gateDue s .inbound) (.gatePointReached .inbound)
  ++ dueIf (gateDue s .outbound) (.gatePointReached .outbound)
  ++ dueIf (windowDue p s) .windowOpening
  ++ dueIf (limitReached s) .extensionLimit
  ++ (s.pa.queue.filter (fun r => decide (p.pLife ≤ r.age))).map (fun r => Instr.requestExpiry r.line)

/-- The events of one detector line that are due; an edge only where the filter time is 0. -/
def lineDue (c : Configuration) (s : State) (k : Num8) : List Instr :=
  let l := s.di.lines.get k
  let noFilter := roleUsed (c.role k) && decide ((c.detectors.get k).filter = 0)
  dueIf (noFilter && risingDue l) (.filteredRisingEdge k) ++ dueIf (noFilter && fallingDue l) (.filteredFallingEdge k)
    ++ dueIf (stuckOnDue c k l) (.stuckOn k)

/-- The events of the detector lines that are due. -/
def detectorsDue (c : Configuration) (p : Plan) (s : State) : List Instr :=
  Num8.all.flatMap (lineDue c s)
  ++ dueIf (fullDue c p .inbound s) (.fullEntry .inbound) ++ dueIf (fullDue c p .outbound s) (.fullEntry .outbound)
  ++ dueIf (releaseDue c p .inbound s) (.fullRelease .inbound)
  ++ dueIf (releaseDue c p .outbound s) (.fullRelease .outbound)

/-- Every event that is due at the present instant, in the model's order (log entry 3). -/
def dueNow (s : State) : List Instr :=
  match s.setup with
  | some (c, p) =>
    dueIf (deferralDue s.lc) .deferralEnd
    ++ dueIf (s.inCharge && decide (s.lc.beaconTimer = some 0)) .beaconTimerExpiry
    ++ dueIf (decide (s.lc.silenceTimer = some 0)) .linkSilent
    ++ s.nt.entries.flatMap agingDue
    ++ cycleDue p s
    ++ detectorsDue c p s
    ++ dueIf (pickupDue p s) .pickupTimeout
  | none => []

/-- The unit with no command waiting: the events due now come to wait, or a decisecond passes. While the reset input is
held or the supply is out of range it stands still. -/
def idle (s : State) : State :=
  if s.powered then
    (if (dueNow s).isEmpty then tick s else { s with pending := dueNow s })
  else s

end Sys2Proof.Machine
end

