-- ==== Sys2Proof/Safety.lean ====
section
/-! DEFINITION. The laws of the GL460: what the handbook says holds at every moment (the rules that end in "This is a
law of the GL460", and the values it says stand in each mode), over the model's State; and the ranges of a configuration
in force (R179, section 11.8). -/

namespace Sys2Proof

/-! ### What a good load guarantees (R179) -/

/-- A base cycle, a cycle limit or a demand value: a multiple of 20 within 300 … 2 400. -/
def CycleValue (n : Nat) : Prop := 300 ≤ n ∧ n ≤ 2400 ∧ n % 20 = 0

/-- The ranges and cross-checks of a present plan part (R179, 3 and 4). -/
structure Plan.Checked (p : Plan) : Prop where
  cBase : CycleValue p.cBase
  cMin : CycleValue p.cMin
  cMax : CycleValue p.cMax
  limits : p.cMin ≤ p.cBase ∧ p.cBase ≤ p.cMax
  cStep : 20 ≤ p.cStep ∧ p.cStep ≤ 200 ∧ p.cStep % 20 = 0
  speeds : (15 ≤ p.vIn ∧ p.vIn ≤ 90) ∧ (15 ≤ p.vOut ∧ p.vOut ≤ 90)
  startLoss : p.startLoss ≤ 50
  headway : 10 ≤ p.headway ∧ p.headway ≤ 40
  qMax : p.qMax ≤ 600 ∧ p.qMax ≤ p.cMin / 2
  gMin : 50 ≤ p.gMin ∧ p.gMin ≤ 1200 ∧ p.gMin ≤ p.scaled p.cMin p.stretch
  gateMin : 50 ≤ p.gateMin ∧ p.gateMin ≤ 400 ∧ p.gateMin ≤ p.scaled p.cMin p.stretch
  lostTime : 20 ≤ p.lostTime ∧ p.lostTime ≤ 400
  saturation : (600 ≤ p.satArterial ∧ p.satArterial ≤ 2400) ∧ (600 ≤ p.satCross ∧ p.satCross ≤ 2400)
  capacity : ∀ d, 1 ≤ p.capacity.get d ∧ p.capacity.get d ≤ 255
  fFull : 50 ≤ p.fFull ∧ p.fFull ≤ 600
  fRel : 20 ≤ p.fRel ∧ p.fRel ≤ 300
  marks : ∀ m, p.base m < p.cBase
  stretch : p.usesMark p.stretch = true
  early : ∀ m, p.base m < p.base p.stretch → 8 * p.base m < 7 * p.cBase
  eMax : p.eMax ≤ 200
  xMax : p.xMax ≤ 300
  xMin : 50 ≤ p.xMin ∧ p.xMin ≤ 400
  pLife : 100 ≤ p.pLife ∧ p.pLife ≤ 1200

/-- The ranges and cross-checks of a whole configuration (R179, 3 and 4). -/
structure Configuration.Checked (c : Configuration) : Prop where
  station : 1 ≤ c.station ∧ c.station ≤ 250
  group : c.group ≤ 15
  position : c.position ≤ 65535
  reach : 100 ≤ c.reach ∧ c.reach ≤ 5000
  period : 10 ≤ c.period ∧ c.period ≤ 50
  hopLimit : 1 ≤ c.hopLimit ∧ c.hopLimit ≤ 7
  retention : 2 ≤ c.retention ∧ c.retention ≤ 16
  filters : ∀ k, (c.detectors.get k).filter ≤ 25
  stuckOn : ∀ k, 10 ≤ (c.detectors.get k).stuckOn ∧ (c.detectors.get k).stuckOn ≤ 255
  stuckOff : ∀ k, 2 ≤ (c.detectors.get k).stuckOff ∧ (c.detectors.get k).stuckOff ≤ 15
  oneAdvance : ∀ d k j, c.role k = advanceRole d → c.role j = advanceRole d → k = j
  fourTransit : (Num8.all.filter (fun k => (roleTransit (c.role k)).isSome)).length ≤ 4
  planOne : c.plans.n1.isSome = true
  plans : ∀ n p, c.plans.get n = some p → p.Checked

end Sys2Proof

namespace Sys2Proof.Machine

/-! ### What a good load reads (section 11.8) -/

/-- A plan is what a plan part at an offset of the block holds (section 11.8). -/
structure PlanRead (b : List Byte) (o : Nat) (p : Plan) : Prop where
  cycles : p.cBase = u16 b (o + 1) ∧ p.cMin = u16 b (o + 3) ∧ p.cMax = u16 b (o + 5) ∧ p.cStep = u8 b (o + 7)
  direction : (match p.direction with | .inbound => 1 | .outbound => 2) = u8 b (o + 8)
  travel : p.vIn = u8 b (o + 9) ∧ p.vOut = u8 b (o + 10) ∧ p.startLoss = u8 b (o + 11) ∧ p.headway = u8 b (o + 12)
    ∧ p.qMax = u16 b (o + 13)
  greens : p.gMin = u16 b (o + 15) ∧ p.gateMin = u16 b (o + 17)
  demand : p.lostTime = u16 b (o + 19) ∧ p.satArterial = u16 b (o + 21) ∧ p.satCross = u16 b (o + 23)
  approaches : p.capacity = ⟨u8 b (o + 25), u8 b (o + 26)⟩ ∧ p.fFull = u16 b (o + 27) ∧ p.fRel = u16 b (o + 29)
  marks : ∀ m : Num8, p.base m = u16 b (o + 31 + 2 * (m.toNat - 1))
  stretch : p.stretch.toNat = u8 b (o + 47)
  priority : p.eMax = u8 b (o + 48) ∧ p.xMax = u16 b (o + 49) ∧ p.xMin = u16 b (o + 51) ∧ p.pLife = u16 b (o + 53)

/-- A configuration is what the block's fields hold (section 11.8). -/
structure BlockRead (b : List Byte) (c : Configuration) : Prop where
  station : c.station = u8 b 2 ∧ c.group = u8 b 3 ∧ c.position = u16 b 4 ∧ c.reach = u16 b 6 ∧ c.period = u8 b 8
    ∧ c.hopLimit = u8 b 9 ∧ c.retention = u8 b 10 ∧ c.syncUsed = decide (u8 b 11 = 1)
  codes : u8 b 11 ≤ 1 ∧ ∀ n : Num4, u8 b (68 + 55 * (n.toNat - 1)) ≤ 1
  roles : ∀ k : Num8, (match c.role k with
    | .unused => 0 | .advIn => 1 | .advOut => 2 | .stopIn => 3 | .stopOut => 4 | .cross => 5 | .transitHigh => 6
    | .transitLow => 7) = u8 b (12 + 4 * (k.toNat - 1))
  settings : ∀ k : Num8, (c.detectors.get k).filter = u8 b (13 + 4 * (k.toNat - 1))
    ∧ (c.detectors.get k).stuckOn = u8 b (14 + 4 * (k.toNat - 1))
    ∧ (c.detectors.get k).stuckOff = u8 b (15 + 4 * (k.toNat - 1))
  outputs : ∀ k : Num8,
    (match (c.outputs.get k).mark with | none => 0 | some m => m.toNat) = u8 b (44 + 3 * (k.toNat - 1))
    ∧ (match (c.outputs.get k).polarity with | .direct => 0 | .inverted => 1) = u8 b (45 + 3 * (k.toNat - 1))
    ∧ (match (c.outputs.get k).gate with | none => 0 | some .inbound => 1 | some .outbound => 2)
        = u8 b (46 + 3 * (k.toNat - 1))
  present : ∀ n : Num4, (c.plans.get n).isSome = decide (u8 b (68 + 55 * (n.toNat - 1)) = 1)
  plans : ∀ (n : Num4) p, c.plans.get n = some p → PlanRead b (68 + 55 * (n.toNat - 1)) p

/-! ### Laws of single blocks -/

/-- The law of the Neighbour Table (R25). -/
structure TableLaw (c : Configuration) (entries : List Entry) : Prop where
  atMostEight : entries.length ≤ 8
  distinctStations : (entries.map Entry.station).Nodup
  notOwnStation : ∀ e ∈ entries, e.station ≠ c.station
  positionsRise : entries.Pairwise (fun e f => e.beacon.position < f.beacon.position)
  insideWindow : ∀ e ∈ entries, distance e.beacon.position c.position ≤ c.reach

/-- The table obeys its law under a good configuration, and is empty under none (R25, R41). -/
def State.TableObeys (s : State) : Prop :=
  match s.config with
  | some c => TableLaw c s.nt.entries
  | none => s.nt.entries = []

/-- A demand triple of an entry, as the Link Controller has checked it (R6, R23). -/
def EntryChecked (e : Entry) : Prop :=
  CycleValue e.beacon.triple.value ∧ e.beacon.triple.hops ≤ 7 ∧ 10 ≤ e.beacon.period ∧ e.beacon.period ≤ 50

/-- The limits of the event counters, the per-cycle detector counts and the run timers (R2, R64, R65, R68, R71). -/
structure State.CountsObey (s : State) : Prop where
  events : ∀ n ∈ s.counters.toList, n ≤ 65535
  counts : ∀ k, (s.di.lines.get k).counts.count ≤ 255 ∧ (s.di.lines.get k).counts.onRed ≤ 255
    ∧ (s.di.lines.get k).counts.onGreen ≤ 255
  held : ∀ k, (s.di.lines.get k).held.count ≤ 255 ∧ (s.di.lines.get k).held.onRed ≤ 255
    ∧ (s.di.lines.get k).held.onGreen ≤ 255
  runs : ∀ k, (s.di.lines.get k).occupiedRun ≤ 65535 ∧ (s.di.lines.get k).vacantRun ≤ 65535
  zeroRuns : ∀ k, (s.di.lines.get k).zeroRun ≤ 15

/-- Whether a slot of the Link Controller holds a pending frame. -/
def LC.holds (l : LC) : FrameKind → Bool
  | .depart => l.depart.isSome
  | .storage => l.storage
  | .beacon => l.beacon

/-- The law of the transmitter of a working unit (R14, R15, R17, R19): a deferral runs only on an idle line with no
attempt, an attempt only on a busy line, each for a slot that holds its frame, and the attempt count is 1 to 8. -/
structure LinkLaw (l : LC) : Prop where
  deferral : ∀ d, l.deferral = some d → l.line = .idle ∧ l.attempt = none ∧ l.holds d.kind = true
  attempt : ∀ a, l.attempt = some a → l.line = .busy ∧ l.holds a.kind = true
  count : ∀ c, l.contention = some c → 1 ≤ c.count ∧ c.count ≤ 8

/-- The transmitter obeys its law while the unit works. -/
def State.LinkObeys (s : State) : Prop := s.powered = true → LinkLaw s.lc

/-- The law of the transit requests (R145, R146): no line has two, and each is of an occupied line with the role of its
group. -/
structure QueueLaw (c : Configuration) (s : State) : Prop where
  onePerLine : (s.pa.queue.map Request.line).Nodup
  occupied : ∀ r ∈ s.pa.queue, (s.di.lines.get r.line).occupied = true ∧ roleTransit (c.role r.line) = some r.group

/-- The transit requests obey their law. -/
def State.QueueObeys (s : State) : Prop :=
  match s.config with
  | some c => QueueLaw c s
  | none => s.pa.queue = []

/-! ### The laws that hold together -/

/-- The configuration and the plan: a good configuration is a checked one, with a present plan in force and any pending
plan present; without one the unit is in PASS with no plan (R80, R91, R179). -/
def State.SetupObeys (s : State) : Prop :=
  match s.config with
  | some c =>
    c.Checked ∧ (∃ n p, s.mc.plan = some n ∧ c.plans.get n = some p)
      ∧ (∀ n, s.mc.pendingPlan = some n → (c.plans.get n).isSome = true)
  | none => s.mc.mode = .pass ∧ s.mc.plan = none ∧ s.mc.pendingPlan = none

/-- What stands while the unit is not in charge (R20, R21, R39, R46, R66, R87, R137, R156, R161). -/
structure State.StandsAside (s : State) : Prop where
  clock : s.ct.running = false ∧ s.ct.position = 0 ∧ s.ct.adjustment = 0 ∧ s.ct.x = 0
    ∧ s.ct.extension = .none ∧ s.ct.earlyGreen = false ∧ s.ct.completionSeen = false
  computation : s.cau.snapshot = none
  reference : s.nt.lastReference = none
  greens : s.di.green = ⟨false, false⟩
  lines : ∀ k, (s.olu.get k).drive = false
  arbiter : s.pa.queue = [] ∧ s.pa.extension = none ∧ s.pa.grantUsed = false ∧ s.pa.cycleGrant = none
  gating : ∀ d, (s.gt.get d).station = none ∧ (s.gt.get d).point = none ∧ (s.gt.get d).reached = false
  slots : s.lc.beaconTimer = none ∧ s.lc.storage = false ∧ s.lc.beacon = false

/-- The clock runs in charge, and only there (R46), and out of charge the unit stands aside. -/
def State.ChargeObeys (s : State) : Prop :=
  (s.inCharge = true → s.ct.running = true) ∧ (s.inCharge = false → s.StandsAside)
    ∧ (s.mc.mode ≠ .pickup → s.mc.pickupElapsed = 0)

/-- The clock (R43, R44, R52 to R56): the position is below C_run, which is C + a + x except after an early green, the
extension time is at most 300, C_run is at most 3 180, and an early green excludes a running extension. -/
structure State.ClockObeys (s : State) : Prop where
  positionBelow : s.ct.position < s.ct.cRun
  length : s.ct.earlyGreen = false → (s.ct.cRun : Int) = s.cau.cycle + s.ct.adjustment + s.ct.x
  greatest : s.ct.cRun ≤ 3180
  extensionTime : s.ct.x ≤ 300
  extension : s.ct.extension = .running ↔ s.pa.extension.isSome = true
  early : s.ct.earlyGreen = true → s.pa.grantUsed = true ∧ s.ct.extension ≠ .running

/-- The applied adjustment (R123): between −(C div 8) and C div 5, and 0 until the completion. -/
def State.AdjustmentObeys (s : State) : Prop :=
  (s.ct.completionSeen = false → s.ct.adjustment = 0)
    ∧ -((s.cau.cycle / 8 : Nat) : Int) ≤ s.ct.adjustment ∧ s.ct.adjustment ≤ ((s.cau.cycle / 5 : Nat) : Int)

/-- The base cycle (R110): a multiple of 20 within the limits of the plan in force, and 300 without one (R97). -/
def State.CycleObeys (s : State) : Prop :=
  match s.planInForce with
  | some p => p.cMin ≤ s.cau.cycle ∧ s.cau.cycle ≤ p.cMax ∧ s.cau.cycle % 20 = 0
  | none => s.cau.cycle = 300

/-- The advertised triple (R109): hops at most H, and 0 only for the unit's own station number. -/
def State.TripleObeys (s : State) : Prop :=
  match s.config with
  | some c => s.cau.triple.hops ≤ c.hopLimit ∧ (s.cau.triple.hops = 0 → s.cau.triple.origin = c.station)
  | none => s.cau.triple = ⟨300, 0, 0⟩

/-- The snapshot of a computation in flight (R98, R100): it is held in charge only, its C is the unit's, its pending
plan is present and its entries are checked ones. -/
def State.SnapshotObeys (s : State) : Prop :=
  ∀ n, s.cau.snapshot = some n → s.inCharge = true ∧ n.cycle = s.cau.cycle ∧ (∀ e ∈ n.entries, EntryChecked e)
    ∧ (∀ c k, s.config = some c → n.pendingPlan = some k → (c.plans.get k).isSome = true)

/-- The law of gating (R134): a direction is ON only in charge and while the table holds the gating station's entry,
which advertises FULL for the direction and names this unit as its feeder. -/
def State.GatingObeys (s : State) : Prop :=
  ∀ d n, (s.gt.get d).station = some n →
    s.inCharge = true ∧ ∃ c, s.config = some c ∧ ∃ e ∈ s.nt.entries, e.station = n
      ∧ (e.approaches.get d).storage = .full ∧ (e.approaches.get d).fedBy = c.station

/-- The laws that a step of the machine keeps together. -/
structure State.Lawful (s : State) : Prop where
  setup : s.SetupObeys
  charge : s.ChargeObeys
  clock : s.ClockObeys
  adjustment : s.AdjustmentObeys
  cycle : s.CycleObeys
  triple : s.TripleObeys
  entries : ∀ e ∈ s.nt.entries, EntryChecked e
  snapshot : s.SnapshotObeys
  gating : s.GatingObeys

/-! ### Taking and leaving charge -/

/-- The state of a mark at the start of a cycle at base cycle c (R45, R47, R48, R49): unused, due at once where its
unshifted position is 0, and otherwise waiting there. -/
def openingMark (p : Plan) (c : Nat) (m : Num8) : Mark :=
  if p.base m = 0 then ⟨0, .unused⟩
  else if p.base m * c / p.cBase = 0 then ⟨0, .due⟩
  else ⟨p.base m * c / p.cBase, .waiting⟩

/-- Whether an output line names a mark that comes due at the start of a cycle at base cycle c. -/
def openingDrive (o : OutputSetting) (p : Plan) (c : Nat) : Bool :=
  match o.mark with
  | some m => decide ((openingMark p c m).state = .due)
  | none => false

/-- Whether an output line counts for a direction's green (R66): it gates that direction and names a used mark. -/
def CountsForGreen (c : Configuration) (p : Plan) (d : Direction) (k : Num8) : Prop :=
  (c.outputs.get k).gate = some d ∧ ∃ j, (c.outputs.get k).mark = some j ∧ p.base j ≠ 0

/-- Whether a mark's due ends a direction's green (R66): a line that counts for the direction names it, or no line
counts and it is the stretch mark. -/
def EndsGreen (c : Configuration) (p : Plan) (m : Num8) (d : Direction) : Prop :=
  (∃ k, CountsForGreen c p d k ∧ (c.outputs.get k).mark = some m)
    ∨ ((∀ k, ¬ CountsForGreen c p d k) ∧ m = p.stretch)

/-- The green state of a direction once the marks at position 0 have come due at the start of a cycle (R45, R47, R66):
SHOWING unless one of those dues ends it. -/
def OpeningGreen (c : Configuration) (p : Plan) (cycle : Nat) (d : Direction) (green : Bool) : Prop :=
  green = true ↔ ∀ m, openingMark p cycle m = ⟨0, .due⟩ → ¬ EndsGreen c p m d

/-- What the taking of charge has made of a unit that stood aside (R86 and the rules it names). -/
structure TookCharge (c : Configuration) (p : Plan) (s t : State) : Prop where
  mode : t.mc = { s.mc with mode := .inCharge .leading, pickupElapsed := 0 }
  clock : t.ct = { running := true, position := 0, cRun := s.cau.cycle, wrapCount := s.ct.wrapCount + 1, adjustment := 0,
                   x := 0, extension := .none, earlyGreen := false, completionSeen := false,
                   marks := Eight.make (openingMark p s.cau.cycle) }
  beaconTimer : t.lc.beaconTimer = some c.period
  slots : t.lc.depart = none ∧ t.lc.storage = false ∧ t.lc.beacon = true
  link : t.lc.line = s.lc.line ∧ t.lc.silenceTimer = s.lc.silenceTimer
  sending : (∀ a, s.lc.attempt = some a → a.kind = .depart → t.lc.attempt = none ∧ t.lc.receiver = .hunt)
    ∧ ((∀ a, s.lc.attempt = some a → a.kind ≠ .depart) →
        t.lc.attempt = s.lc.attempt ∧ t.lc.receiver = s.lc.receiver)
  deferral : (∀ d, s.lc.deferral = some d → d.kind = .depart) → t.lc.line = .idle → t.lc.attempt = none →
    ∃ d, t.lc.deferral = some d ∧ d.kind = .beacon
  counts : ∀ k, t.di.lines.get k = { s.di.lines.get k with counts := .zero }
  detectors : t.di.closed = s.di.closed ∧ t.di.storage = s.di.storage
  greens : ∀ d, OpeningGreen c p s.cau.cycle d (t.di.green.get d)
  arbiter : t.pa = .initial
  gating : ∀ d, (t.gt.get d).station = calledFor c s.nt.entries d
    ∧ (t.gt.get d).point = (calledFor c s.nt.entries d).map (fun _ => p.gateMin) ∧ (t.gt.get d).reached = false
    ∧ (t.gt.get d).marks = ⟨(calledFor c s.nt.entries d).isSome, (calledFor c s.nt.entries d).isSome, false⟩
  lines : ∀ k, t.olu.get k = { s.olu.get k with drive := openingDrive (c.outputs.get k) p s.cau.cycle }
  flags : t.cp = { s.cp with flags := if (calledFor c s.nt.entries .inbound).isSome
    ∨ (calledFor c s.nt.entries .outbound).isSome then s.cp.flags ||| Flag.gatingEntered.word else s.cp.flags }
  computation : t.cau = s.cau
  table : t.nt = s.nt
  rest : t.cl = s.cl ∧ t.counters = s.counters ∧ t.computations = s.computations ∧ t.pending = s.pending
    ∧ t.resetHeld = s.resetHeld ∧ t.supplyOut = s.supplyOut

/-- The marks of a standing clock under a plan at base cycle c (R43, R46, R48): unused at position 0, the model's choice
(log entry 36), or waiting at the unshifted position. -/
def standingMark (p : Plan) (c : Nat) (m : Num8) : Mark :=
  if p.base m = 0 then ⟨0, .unused⟩ else ⟨p.base m * c / p.cBase, .waiting⟩

/-- What a good load has made of a unit that stands aside, before it leaves PASS (R12, R15, R43, R63, R64, R76, R80, R97,
R179). -/
structure Loaded (c : Configuration) (p : Plan) (s t : State) : Prop where
  lines : ∀ k, t.di.lines.get k = { s.di.lines.get k with
    occupied := false, occupiedRun := 0, vacantRun := 0,
    timing := (s.di.lines.get k).raw && decide ((c.detectors.get k).role ≠ .unused) }
  storage : ∀ d, (∀ k, c.role k = advanceRole d → t.di.storage.get d = .clear)
    ∧ ((∀ k, c.role k ≠ advanceRole d) → t.di.storage.get d = .unknown)
  rest : t = { s with
    cl := .good c
    lc := { s.lc with generator := BitVec.ofNat 16 (c.station * 257), silenceTimer := some (5 * c.period) }
    ct := { s.ct with cRun := p.cBase, marks := Eight.make (standingMark p p.cBase) }
    di := { s.di with lines := t.di.lines, storage := t.di.storage }
    cau := { s.cau with cycle := p.cBase, smoothed := p.cBase, triple := ⟨p.cBase, c.station, 0⟩ }
    mc := { s.mc with plan := some .n1 } }

/-- What a plan taking effect has made of the storage states (R74): a direction whose state was CLEAR or FILLING and
whose advance line's occupied run has reached the plan's F_full is FULL, and every other state is as it was. -/
def FullByPlan (c : Configuration) (q : Plan) (s t : State) : Prop :=
  ∀ d, (c.advanceLine d = none → t.di.storage.get d = s.di.storage.get d)
    ∧ ∀ k, c.advanceLine d = some k → t.di.storage.get d =
        if (s.di.storage.get d = .clear ∨ s.di.storage.get d = .filling) ∧ (s.di.lines.get k).occupied = true
            ∧ q.fFull ≤ (s.di.lines.get k).occupiedRun
        then .full else s.di.storage.get d

/-- What plan number n, the plan q, has made of a unit that stands aside by taking effect at once (R46, R74, R91, R93):
it is in force and nothing is pending, C is clamped into its limits, D_f is its C_base, the standing clock has that C and
its marks, and the storage states are as its F_full makes them; nothing else changes. -/
structure PlanStands (c : Configuration) (n : Num4) (q : Plan) (s t : State) : Prop where
  cycle : t.cau.cycle = if s.cau.cycle < q.cMin then q.cMin else if q.cMax < s.cau.cycle then q.cMax else s.cau.cycle
  computation : t.cau = { s.cau with cycle := t.cau.cycle, smoothed := q.cBase }
  storage : FullByPlan c q s t
  rest : t = { s with
    mc := { s.mc with plan := some n, pendingPlan := none, pendingTaken := false }, cau := t.cau,
    ct := { s.ct with cRun := t.cau.cycle, marks := Eight.make (standingMark q t.cau.cycle) },
    di := { s.di with storage := t.di.storage } }

/-- The STORAGE requests of a unit in charge (R77): one for each direction whose state has entered or left FULL, and the
Link Controller otherwise as it was. -/
structure StorageRequested (s t : State) : Prop where
  unmoved : (∀ d, s.di.storage.get d = .full ↔ t.di.storage.get d = .full) → t.lc = s.lc
  one : ∀ d e, d ≠ e → ¬ (s.di.storage.get d = .full ↔ t.di.storage.get d = .full) →
    (s.di.storage.get e = .full ↔ t.di.storage.get e = .full) → t.lc = fillStorage s.lc
  both : (∀ d, ¬ (s.di.storage.get d = .full ↔ t.di.storage.get d = .full)) → t.lc = fillStorage (fillStorage s.lc)

/-- What the leaving of charge, with the DEPART it requests, has made of the blocks whose part in it hangs on no plan
(R11, R12, R15, R20, R21, R39, R66, R87, R137, R156, R161), beside the flags, the counters and the DEPART slot: a BEACON
or STORAGE frame on the line is stopped and the receiver of the unit that was sending it returns to HUNT; a DEPART on the
line, and the receiver of a unit that was not sending, go on; and a DEPART that waits on an idle line has its
deferral. -/
structure StoodDown (s t : State) : Prop where
  slots : t.lc.beaconTimer = none ∧ t.lc.storage = false ∧ t.lc.storageRenewal = false ∧ t.lc.beacon = false
    ∧ t.lc.beaconRenewal = false
  stopped : ∀ a, t.lc.attempt = some a → a.kind = .depart
  link : t.lc.line = s.lc.line ∧ t.lc.silenceTimer = s.lc.silenceTimer
  sending : (∀ a, s.lc.attempt = some a → a.kind ≠ .depart → t.lc.attempt = none ∧ t.lc.receiver = .hunt)
    ∧ ((∀ a, s.lc.attempt = some a → a.kind = .depart) →
        t.lc.attempt = s.lc.attempt ∧ t.lc.receiver = s.lc.receiver)
  deferral : t.lc.line = .idle → t.lc.attempt = none → ∃ d, t.lc.deferral = some d ∧ d.kind = .depart
  table : t.nt = { s.nt with lastReference := none }
  detectors : t.di = { s.di with green := ⟨false, false⟩, storage := t.di.storage }
  arbiter : t.pa = .initial
  gating : ∀ d, t.gt.get d = { s.gt.get d with station := none, point := none, reached := false }
  lines : ∀ k, t.olu.get k = { s.olu.get k with drive := false }
  rest : t.cl = s.cl ∧ t.computations = s.computations ∧ t.pending = s.pending
    ∧ t.resetHeld = s.resetHeld ∧ t.supplyOut = s.supplyOut

/-- What the leaving of charge for a mode has made of a unit with no plan pending (R46, R87). -/
structure LeftCharge (p : Plan) (m : Mode) (s t : State) : Prop where
  mode : t.mc = { s.mc with mode := m, pendingTaken := false }
  computation : t.cau = { s.cau with snapshot := none }
  clock : t.ct = { running := false, position := 0, cRun := s.cau.cycle, wrapCount := s.ct.wrapCount, adjustment := 0,
                   x := 0, extension := .none, earlyGreen := false, completionSeen := false,
                   marks := Eight.make (standingMark p s.cau.cycle) }
  storage : t.di.storage = s.di.storage
  rest : StoodDown s t

/-- What the leaving of charge for a mode has made of a unit with plan number n, the plan q, pending (R74, R87, R93,
R94): the plan is in force, C is clamped into its limits, D_f is its C_base, and the standing clock has that C. -/
structure LeftChargeToPlan (c : Configuration) (n : Num4) (q : Plan) (m : Mode) (s t : State) : Prop where
  mode : t.mc = { s.mc with mode := m, plan := some n, pendingPlan := none, pendingTaken := false }
  cycle : t.cau.cycle = if s.cau.cycle < q.cMin then q.cMin else if q.cMax < s.cau.cycle then q.cMax else s.cau.cycle
  computation : t.cau = { s.cau with snapshot := none, cycle := t.cau.cycle, smoothed := q.cBase }
  clock : t.ct = { running := false, position := 0, cRun := t.cau.cycle, wrapCount := s.ct.wrapCount, adjustment := 0,
                   x := 0, extension := .none, earlyGreen := false, completionSeen := false,
                   marks := Eight.make (standingMark q t.cau.cycle) }
  storage : FullByPlan c q s t
  rest : StoodDown s t

/-- A mark that comes due at the end of an extension (R50, R55): it is HELD or WAITING at or before the position. -/
abbrev State.DueAtEnd (s : State) (m : Num8) : Prop :=
  ((s.ct.marks.get m).state = .held ∨ (s.ct.marks.get m).state = .waiting)
    ∧ (s.ct.marks.get m).position ≤ s.ct.position

/-- What the dues of some marks have made of the output lines and the greens (R50, R66, R161): a line that names one of
them is SET and the others are as they were, and each green that one of the dues ends is ENDED. -/
structure DuesTaken (c : Configuration) (p : Plan) (due : Num8 → Prop) (s t : State) : Prop where
  lines : ∀ k, t.olu.get k = { s.olu.get k with drive := (t.olu.get k).drive }
    ∧ ((t.olu.get k).drive = true ↔ (s.olu.get k).drive = true ∨ ∃ m, (c.outputs.get k).mark = some m ∧ due m)
  greens : ∀ d, t.di.green.get d = true ↔ s.di.green.get d = true ∧ ∀ m, due m → ¬ EndsGreen c p m d

/-- What the end of an extension by withdrawal or limit has made of a unit (R50, R55, R66, R152, R161): the arbiter
records its time; the HELD marks wait again, those at or before the position coming due with any other mark that waits
there; the output lines that name a mark come due are SET, and the greens that those dues end are ENDED. -/
structure ExtensionEnded (c : Configuration) (p : Plan) (s t : State) : Prop where
  arbiter : t.pa = { s.pa with extension := none, cycleGrant := some (.extension s.ct.x) }
  clock : t.ct = { s.ct with extension := .ended, marks := t.ct.marks }
  marks : ∀ m, t.ct.marks.get m =
    if s.DueAtEnd m then ⟨(s.ct.marks.get m).position, .due⟩
    else if (s.ct.marks.get m).state = .held then ⟨(s.ct.marks.get m).position, .waiting⟩ else s.ct.marks.get m
  dues : DuesTaken c p s.DueAtEnd s t
  detectors : t.di.lines = s.di.lines ∧ t.di.storage = s.di.storage ∧ t.di.closed = s.di.closed
  rest : t.counters = s.counters ∧ t.mc = s.mc ∧ t.gt = s.gt ∧ t.nt = s.nt ∧ t.lc = s.lc ∧ t.cau = s.cau
    ∧ t.cp = s.cp ∧ t.cl = s.cl ∧ t.computations = s.computations ∧ t.pending = s.pending
    ∧ t.resetHeld = s.resetHeld ∧ t.supplyOut = s.supplyOut

/-! ### Gating at a report -/

/-- Whether a station calls for gating of a direction (R134): it is the downstream neighbour, advertises FULL for the
direction and names this unit as its feeder. -/
def CallsFor (c : Configuration) (s : State) (d : Direction) (n : Nat) : Prop :=
  ∃ e, downstreamNeighbour c.position s.nt.entries d = some e ∧ e.station = n
    ∧ (e.approaches.get d).storage = .full ∧ (e.approaches.get d).fedBy = c.station

/-- Whether a direction that becomes ON reaches its gate point at once (R135, R138, R139): it has not reached one in the
cycle, and the position is at Gg or past it. -/
abbrev State.GateAtOnce (s : State) (p : Plan) (d : Direction) : Prop :=
  (s.gt.get d).reached = false ∧ p.gateMin ≤ s.ct.position

/-- What a direction's becoming ON for a station has made of a unit (R135, R138, R139, R161): the cycle record's active
and entered marks and GATING_ENTERED are set; unless a gate point has been reached in the cycle, one is placed at the
greater of Gg and the position, and where it is reached at once, the lines that count for the direction are SET and, if
there is one, its green is ENDED. -/
structure GatingEntered (c : Configuration) (p : Plan) (d : Direction) (n : Nat) (s t : State) : Prop where
  gate : t.gt = s.gt.set d {
    station := some n
    point := if (s.gt.get d).reached = true then (s.gt.get d).point
      else if s.ct.position < p.gateMin then some p.gateMin else some s.ct.position
    reached := (s.gt.get d).reached || decide (s.GateAtOnce p d)
    marks := { (s.gt.get d).marks with active := true, entered := true } }
  lines : ∀ k, t.olu.get k =
    if s.GateAtOnce p d ∧ (c.outputs.get k).gate = some d ∧ lineMarkUsed (c.outputs.get k) p = true
    then { s.olu.get k with drive := true } else s.olu.get k
  greens : ∀ e, t.di.green.get e = true ↔
    s.di.green.get e = true ∧ ¬ (e = d ∧ s.GateAtOnce p d ∧ ∃ k, CountsForGreen c p d k)
  rest : t = { s with gt := t.gt, olu := t.olu, di := { s.di with green := t.di.green },
                      cp := { s.cp with flags := s.cp.flags ||| 0x0100#16 } }

/-- What the judging of a direction has made of a unit (R134 to R136), at a report that is the removal of a station's
entry or at another one: called for and OFF it has become ON; called for and ON it names the station that calls; no
longer called for it has become OFF, an unreached gate point withdrawn, by loss where the gating station's entry was
removed; and otherwise nothing has changed. -/
structure Judged (c : Configuration) (p : Plan) (removed : Option Nat) (d : Direction) (s t : State) : Prop where
  enters : ∀ n, CallsFor c s d n → (s.gt.get d).station = none → GatingEntered c p d n s t
  stays : ∀ n m, CallsFor c s d n → (s.gt.get d).station = some m →
    t = { s with gt := s.gt.set d { s.gt.get d with station := some n } }
  ends : ∀ m, (∀ n, ¬ CallsFor c s d n) → (s.gt.get d).station = some m →
    t = { s with gt := s.gt.set d {
      station := none, reached := (s.gt.get d).reached,
      point := if (s.gt.get d).reached = true then (s.gt.get d).point else none,
      marks := { (s.gt.get d).marks with
        endedByLoss := (s.gt.get d).marks.endedByLoss || decide (removed = some m) } } }
  off : (∀ n, ¬ CallsFor c s d n) → (s.gt.get d).station = none → t = s

/-- What a report of the Neighbour Table, made once the table has changed, has made of a unit (R35, R134, R137): in
charge both directions have been judged, and otherwise nothing has changed. -/
structure Reported (removed : Option Nat) (s t : State) : Prop where
  judged : ∀ c p, s.setup = some (c, p) → s.inCharge = true →
    ∃ u, Judged c p removed .inbound s u ∧ Judged c p removed .outbound u t
  ignored : s.setup = none ∨ s.inCharge = false → t = s

/-- Whether the removal of a station's entry by expiry or departure loses the last reference (R40). -/
abbrev State.LosesReference (s : State) (n : Nat) : Prop :=
  s.nt.lastReference = some n ∧ (s.mc.mode = .inCharge .seeking ∨ s.mc.mode = .inCharge .inStep)

/-- The unit with these entries in its table. -/
def State.withEntries (s : State) (entries : List Entry) : State := { s with nt := { s.nt with entries := entries } }

/-- What the removal of a station's entry by expiry or departure has made of a unit (R32, R34, R35, R40): the directions
have been judged on the table without it, and where the last reference is lost, it is none and REFERENCE_LOST is set. -/
def Departed (n : Nat) (entries : List Entry) (s t : State) : Prop :=
  ∃ u, Reported (some n) (s.withEntries entries) u
    ∧ t = if s.LosesReference n then
        { u with nt := { u.nt with lastReference := none }, cp := { u.cp with flags := u.cp.flags ||| 0x0040#16 } }
      else u

/-- The unit after TABLE_REFUSED has been counted and TABLE_FULL set (R27, R30). -/
def State.withRefusal (s : State) : State :=
  { s with counters := { s.counters with tableRefused := min (s.counters.tableRefused + 1) 65535 }
           cp := { s.cp with flags := s.cp.flags ||| 0x0020#16 } }

/-! ### Frames that pass the receiver's tests -/

/-- The approach fields at an offset of a frame's counted bytes (R6): each storage code is 0 … 3 and each fed-by 0 …
250. -/
def ApproachesOk (b : List Byte) (off : Nat) : Prop :=
  u8 b off ≤ 3 ∧ u8 b (off + 1) ≤ 250 ∧ u8 b (off + 2) ≤ 3 ∧ u8 b (off + 3) ≤ 250

/-- The field checks of a BEACON (R6). The handbook's offset 1 is index 0 here. -/
structure BeaconFieldsOk (b : List Byte) : Prop where
  period : 10 ≤ u8 b 5 ∧ u8 b 5 ≤ 50
  mode : 1 ≤ u8 b 6 ∧ u8 b 6 ≤ 3
  direction : u8 b 7 = 1 ∨ u8 b 7 = 2
  cycle : CycleValue (u16 b 8)
  stamped : u16 b 10 ≤ 3179
  value : CycleValue (u16 b 12)
  origin : 1 ≤ u8 b 14 ∧ u8 b 14 ≤ 250
  hops : u8 b 15 ≤ 7 ∧ (u8 b 15 = 0 → u8 b 14 = u8 b 1)
  approaches : ApproachesOk b 16

/-- The kind, the length of the kind and the fields of a frame with this length byte and these counted bytes pass the
tests of a receiver (R6, R7, R9). -/
structure FrameOk (length : Nat) (b : List Byte) : Prop where
  head : (1 ≤ u8 b 1 ∧ u8 b 1 ≤ 250) ∧ u8 b 2 ≤ 15
  kind : (u8 b 0 = 1 ∧ length = 20 ∧ BeaconFieldsOk b) ∨ (u8 b 0 = 2 ∧ length = 7 ∧ ApproachesOk b 3)
    ∨ (u8 b 0 = 3 ∧ length = 4 ∧ (u8 b 3 = 1 ∨ u8 b 3 = 2))

/-- The approaches that a frame's fields at an offset give (R6, R7). -/
def ApproachesRead (b : List Byte) (off : Nat) (a : PerDir Approach) : Prop :=
  storageCode a.inbound.storage = u8 b off ∧ a.inbound.fedBy = u8 b (off + 1)
    ∧ storageCode a.outbound.storage = u8 b (off + 2) ∧ a.outbound.fedBy = u8 b (off + 3)

/-! ### Answers of the cabinet port -/

/-- The unit after it has taken a message and begun the answer: the receiver is in WAIT, and the port has the command, or
the refused message, in hand with its response (R170, R171). Nothing else changes. -/
def State.answers (s : State) (hand : InHand) (response : List Byte) : State :=
  { s with cp := { s.cp with receiver := .wait, inHand := some hand, response := response } }

/-! ### Sticky flags and the cycle log -/

/-- Whether a flag is set in a flag word (R173). -/
def flagIn (f : Flag) (w : Word16) : Bool := w.getLsbD f.bit

/-- The log is in strictly increasing order of wrap count as counted back from a cycle n (R174): the ages, in wrap
counts, of its records fall from the oldest to the newest. -/
def LogOrdered (n : Word16) (log : List LogRecord) : Prop :=
  log.Pairwise (fun q r => (n - r.wrapCount).toNat < (n - q.wrapCount).toNat)

end Sys2Proof.Machine
end

