-- ==== Sys2Proof/WellFormed.lean ====
section
/-! DEFINITION. Which commands the outside can give: a station number is 1 … 250, and the observations of a completed
load are those that end a load (R178). Every other operand is well formed by its type. -/

namespace Sys2Proof

/-- A station number (section 6.6 of the Introduction). -/
def stationNumberOk (n : Nat) : Bool := decide (1 ≤ n) && decide (n ≤ 250)

/-- A try whose four address bytes were all acknowledged. -/
def LoadTry.acknowledged (t : LoadTry) : Bool := t.ackWrite && t.ackHigh && t.ackLow && t.ackRead

/-- A try whose cleanup failed: the data line was low at the first reading and after each of the nine pulses. -/
def LoadTry.stuckLow (t : LoadTry) : Bool := decide (10 ≤ t.lowReads)

/-- A try after which no further try is made, other than the fourth. -/
def LoadTry.ends (t : LoadTry) : Bool := t.stuckLow || t.acknowledged

/-- The tries are those of one whole load: one to four of them, only the last ends the addressing, and there are
four when none does. -/
def triesOk : List LoadTry → Nat → Bool
  | [], _ => false
  | [t], left => t.ends || decide (left = 1)
  | t :: rest, left => !t.ends && decide (1 < left) && triesOk rest (left - 1)

/-- The data bytes are as many as the load reads: 290 of them, or more in the list than it reads, or at least three
when the length they give is not 290. -/
def dataOk (data : List Byte) : Bool :=
  decide (290 ≤ data.length) ||
    (decide (3 ≤ data.length) && !(decide (data.getD 0 0 = 0x01#8) && decide (data.getD 1 0 = 0x22#8)))

/-- The check on a load's observations. Data bytes are asked for only when the memory was addressed. -/
def LoadObservation.wellFormed (o : LoadObservation) : Bool :=
  triesOk o.tries 4 &&
    (match o.tries.getLast? with
     | some t => t.stuckLow || !t.acknowledged || dataOk o.data
     | none => false)

/-- The well-formed commands. -/
def Instr.wellFormed : Instr → Bool
  | .configLoadComplete obs => obs.wellFormed
  | .entryQuiet n => stationNumberOk n
  | .expiry n => stationNumberOk n
  | .powerUp | .lineBusy | .lineIdle | .deferralEnd | .frameMark | .frameReceived _ | .collision
  | .attemptSuccess | .beaconTimerExpiry | .linkSilent | .clockStep | .wrap | .completion | .markDue _
  | .gatePointReached _ | .windowOpening | .extensionLimit | .requestExpiry _ | .detectorInputChange _ _
  | .filteredRisingEdge _ | .filteredFallingEdge _ | .stuckOn _ | .fullEntry _ | .fullRelease _
  | .cabinetInputChange _ _ | .syncRisingEdge | .syncFallingEdge | .preemptRisingEdge | .preemptFallingEdge
  | .pickupTimeout | .passThroughChange _ _ | .malformedMessage _ | .messageTimeout | .portOverrun
  | .responseSent | .status | .table | .counters | .log | .flags | .clear _ | .mask _ | .plan _
  | .manual _ _ | .release _ | .hold | .resume | .restart | .linkByteReceived _ _ | .portByteReceived _ _
  | .resetAsserted | .supplyOutOfRange => true

end Sys2Proof
end

