-- ==== Sys2Proof/Certificates/Slice0/Obligations.lean ====
section
/-! DEFINITION. The statements about the model, for the provers: what each command does and leaves alone, and the laws
of the handbook that every step keeps. -/

open Sys2Proof Sys2Proof.Machine

/-! ### The machine -/

/-- One step runs the command at the front of the queue on the state with the queue's rest. -/
def Obligations.StepRunsFrontCommand : Prop :=
  ∀ (c : Instr) (rest : List Instr) (s : State), s.pending = c :: rest → step s = exec c { s with pending := rest }

/-- The model's choice (log entries 1 to 3, 5): with no command waiting, a unit that does not work stands still; a
working one first brings the events that are due into its queue, and with none due lets one decisecond pass on its
timers and brings the clock's step, or the wrap, into its queue. -/
def Obligations.EmptyQueueLetsTimePass : Prop :=
  ∀ s : State, s.pending = [] →
    (s.powered = false → step s = .next s)
    ∧ (s.powered = true → dueNow s ≠ [] → step s = .next { s with pending := dueNow s })
    ∧ (s.powered = true → dueNow s = [] →
        ∃ t, step s = .next t
          ∧ t.lc = { s.lc with beaconTimer := s.lc.beaconTimer.map (· - 1)
                               silenceTimer := s.lc.silenceTimer.map (· - 1) }
          ∧ t.nt = { s.nt with entries := s.nt.entries.map (fun e => { e with silence := e.silence - 1 }) }
          ∧ t.pa = { s.pa with queue := s.pa.queue.map (fun r => { r with age := r.age + 1 }) }
          ∧ t.mc = { s.mc with
              pickupElapsed := if s.mc.mode = .pickup then s.mc.pickupElapsed + 1 else s.mc.pickupElapsed }
          ∧ t.pending = (if s.ct.running then (if s.ct.extension ≠ .running ∧ s.ct.cRun ≤ s.ct.position + 1
              then [Instr.wrap] else [Instr.clockStep]) else [])
          ∧ (∀ c k, s.config = some c → (c.detectors.get k).role ≠ .unused →
              (t.di.lines.get k) =
                (if (s.di.lines.get k).occupied
                 then { s.di.lines.get k with occupiedRun := min ((s.di.lines.get k).occupiedRun + 1) 65535 }
                 else { s.di.lines.get k with vacantRun := min ((s.di.lines.get k).vacantRun + 1) 65535 }))
          ∧ t.ct = s.ct ∧ t.cau = s.cau ∧ t.gt = s.gt ∧ t.olu = s.olu ∧ t.cp = s.cp ∧ t.cl = s.cl
          ∧ t.counters = s.counters)

/-- No command stops the machine, and none touches the commands that wait behind it. -/
def Obligations.EveryCommandCompletes : Prop :=
  ∀ (c : Instr) (s : State), ∃ t, exec c s = .next t ∧ t.pending = s.pending

/-- The model's choice (log entry 5): the commands that act on a unit whose reset input is held or whose supply is out
of range. POWER_UP acts as ever; the four pin and line commands show their level and nothing more; RESET_ASSERTED and
SUPPLY_OUT_OF_RANGE are recorded; and every other command changes nothing. -/
def Obligations.UnpoweredUnitIgnores : Prop :=
  ∀ (c : Instr) (s : State), s.powered = false →
    match c with
    | .powerUp => True
    | .resetAsserted => exec c s = .next { s with resetHeld := true }
    | .supplyOutOfRange => exec c s = .next { s with supplyOut := true }
    | .lineBusy => exec c s = .next { s with lc := { s.lc with line := .busy } }
    | .lineIdle => exec c s = .next { s with lc := { s.lc with line := .idle } }
    | .detectorInputChange k v =>
      exec c s = .next { s with di := { s.di with lines := s.di.lines.set k { s.di.lines.get k with raw := v } } }
    | .cabinetInputChange .sync v => exec c s = .next { s with mc := { s.mc with sync := { s.mc.sync with raw := v } } }
    | .cabinetInputChange .preempt v =>
      exec c s = .next { s with mc := { s.mc with preempt := { s.mc.preempt with raw := v } } }
    | .passThroughChange k v =>
      exec c s = .next { s with olu := s.olu.set k { s.olu.get k with passThrough := v } }
    | _ => exec c s = .next s

/-- The model's reading (log entries 4 and 12): an event whose cause does not stand changes nothing: an event of a link
attempt, timer, mark, gate point, window, extension, request, detector line, storage state, input, load or message that
is not there or has not reached its limit, an edge the filter does not time, the idle gap while the unit drives the line,
a link byte while the receiver is inactive, and a command while another is in hand. -/
def Obligations.EventWithoutCauseChangesNothing : Prop :=
  (∀ s : State,
    (s.lc.attempt = none → exec .collision s = .next s)
    ∧ ((∀ a, s.lc.attempt = some a → a.frame = none) → exec .attemptSuccess s = .next s)
    ∧ (s.lc.deferral = none ∨ s.lc.line = .busy ∨ s.lc.attempt ≠ none → exec .deferralEnd s = .next s)
    ∧ (s.powered = true → s.lc.attempt ≠ none → exec .lineIdle s = .next s)
    ∧ ((∀ a, s.lc.attempt = some a → a.frame ≠ none) → (s.lc.attempt = none → s.lc.receiver ≠ .start2) →
        exec .frameMark s = .next s)
    ∧ ((∀ k n got f, s.lc.receiver ≠ .check k n got (some f)) → ∀ b, exec (.frameReceived b) s = .next s)
    ∧ (s.lc.attempt ≠ none ∨ (∀ c, s.cl ≠ .good c) →
        ∀ b e, exec (.linkByteReceived b e) s = .next s ∧ exec (.frameReceived b) s = .next s)
    ∧ ((s.inCharge = false ∨ s.lc.beaconTimer ≠ some 0) → exec .beaconTimerExpiry s = .next s)
    ∧ (s.lc.silenceTimer ≠ some 0 → exec .linkSilent s = .next s)
    ∧ (∀ n, (∀ e ∈ s.nt.entries, e.station = n → e.silence ≠ 0) → exec (.expiry n) s = .next s)
    ∧ (∀ n, (∀ e ∈ s.nt.entries, e.station = n → e.state = .quiet ∨ 3 * e.beacon.period < e.silence) →
        exec (.entryQuiet n) s = .next s))
  ∧ (∀ s : State,
    (s.ct.running = false → exec .clockStep s = .next s ∧ exec .wrap s = .next s
        ∧ (∀ m, exec (.markDue m) s = .next s) ∧ (∀ d, exec (.gatePointReached d) s = .next s)
        ∧ exec .windowOpening s = .next s ∧ exec .completion s = .next s)
    ∧ (s.ct.extension = .running ∨ s.ct.position + 1 < s.ct.cRun → exec .wrap s = .next s)
    ∧ (s.cau.snapshot = none ∨ s.ct.position = 0 ∨ 20 < s.ct.position → exec .completion s = .next s)
    ∧ (∀ m, (s.ct.marks.get m).state ≠ .waiting ∨ s.ct.position < (s.ct.marks.get m).position →
        exec (.markDue m) s = .next s)
    ∧ (s.ct.earlyGreen = true → ∀ m, exec (.markDue m) s = .next s)
    ∧ (∀ d, (s.gt.get d).station = none ∨ (s.gt.get d).reached = true
          ∨ (∀ g, (s.gt.get d).point = some g → s.ct.position < g) → exec (.gatePointReached d) s = .next s)
    ∧ (s.pa.windowOpened = true
        ∨ (∀ p, s.planInForce = some p → s.ct.position + p.eMax < s.ct.cRun ∨ s.ct.position < p.xMin
            ∨ ∃ m, (s.ct.marks.get m).state ≠ .unused ∧ s.ct.position < (s.ct.marks.get m).position + p.xMin) →
        exec .windowOpening s = .next s)
    ∧ ((∀ e, s.pa.extension = some e → s.ct.x < e.limit) → exec .extensionLimit s = .next s)
    ∧ (∀ k, (∀ p, s.planInForce = some p → ∀ r ∈ s.pa.queue, r.line = k → r.age < p.pLife) →
        exec (.requestExpiry k) s = .next s))
  ∧ (∀ s : State,
    (∀ k l, l = s.di.lines.get k →
      (l.timing = false ∨ l.raw = false ∨ l.occupied = true → exec (.filteredRisingEdge k) s = .next s)
      ∧ (l.timing = false ∨ l.raw = true ∨ l.occupied = false → exec (.filteredFallingEdge k) s = .next s)
      ∧ ((∀ c, s.cl = .good c → c.role k = .unused) → exec (.filteredRisingEdge k) s = .next s
          ∧ exec (.filteredFallingEdge k) s = .next s ∧ exec (.stuckOn k) s = .next s)
      ∧ (l.occupied = false ∨ l.fault = .stuckOn
            ∨ (∀ c, s.cl = .good c → l.occupiedRun < 10 * (c.detectors.get k).stuckOn) →
          exec (.stuckOn k) s = .next s))
    ∧ (∀ d, (s.di.storage.get d = .full ∨ s.di.storage.get d = .unknown
          ∨ ∀ c p k, s.setup = some (c, p) → c.advanceLine d = some k →
              (s.di.lines.get k).occupied = false ∨ (s.di.lines.get k).occupiedRun < p.fFull) →
        exec (.fullEntry d) s = .next s)
    ∧ (∀ d, (s.di.storage.get d ≠ .full
          ∨ ∀ c p k, s.setup = some (c, p) → c.advanceLine d = some k →
              (s.di.lines.get k).occupied = true ∨ (s.di.lines.get k).vacantRun < p.fRel) →
        exec (.fullRelease d) s = .next s)
    ∧ (∀ i, i = s.mc.sync →
        (i.timing = false ∨ i.raw = false ∨ i.active = true → exec .syncRisingEdge s = .next s)
        ∧ (i.timing = false ∨ i.raw = true ∨ i.active = false → exec .syncFallingEdge s = .next s))
    ∧ (∀ i, i = s.mc.preempt →
        (i.timing = false ∨ i.raw = false ∨ i.active = true → exec .preemptRisingEdge s = .next s)
        ∧ (i.timing = false ∨ i.raw = true ∨ i.active = false → exec .preemptFallingEdge s = .next s))
    ∧ ((s.mc.mode ≠ .pickup ∨ ∀ p, s.planInForce = some p → s.mc.pickupElapsed < p.cBase + 100) →
        exec .pickupTimeout s = .next s))
  ∧ (∀ s : State,
    (s.cp.inHand = none → exec .portOverrun s = .next s ∧ exec .responseSent s = .next s)
    ∧ (s.cp.receiver = .wait → exec .messageTimeout s = .next s)
    ∧ (s.cp.receiver ≠ .wait → exec .portOverrun s = .next s)
    ∧ (∀ o, s.cl ≠ .loading ∨ loadEnd o = .unfinished → exec (.configLoadComplete o) s = .next s)
    ∧ (s.cp.inHand ≠ none →
        (∀ c ∈ [Instr.status, .table, .counters, .log, .flags, .hold, .resume, .restart], exec c s = .next s)
        ∧ ∀ w a b, exec (.clear w) s = .next s ∧ exec (.mask w) s = .next s ∧ exec (.plan a) s = .next s
          ∧ exec (.manual a b) s = .next s ∧ exec (.release a) s = .next s ∧ exec (.malformedMessage a) s = .next s))

/-! ### Resets and the configuration load -/

/-- POWER_UP: every block at its power-up value, flags, mask and counters cleared and a load begun; the line state, the
levels on the input pins and the waiting commands stay, and the generator is 0 until its seed (these are the model's,
log entries 7 to 9; so is the position 0 of an UNUSED mark, log entry 36, and the absence of the port's own copy of the
last completion's error and reference, log entry 39) (R22, R41, R43, R79 to R81, R97, R133, R145, R158, R172, R181).
RESTART acts when its OK has been sent: as power-up, but the flags, the mask and every counter keep their values (R180).
-/
def Obligations.PowerUpAndRestartResetTheUnit : Prop :=
  (∀ s : State, exec .powerUp s = .next
     { State.reset with
       lc := { State.reset.lc with line := s.lc.line }
       di := { State.reset.di with
               lines := Eight.make (fun k => { State.reset.di.lines.get k with raw := (s.di.lines.get k).raw }) }
       mc := { State.reset.mc with sync := ⟨s.mc.sync.raw, false, s.mc.sync.raw⟩
                                   preempt := ⟨s.mc.preempt.raw, false, s.mc.preempt.raw⟩ }
       olu := Eight.make (fun k => ⟨none, false, (s.olu.get k).passThrough⟩)
       computations := s.computations
       pending := s.pending })
  ∧ (∀ s : State, s.powered = true → s.cp.inHand = some (.accepted .restart) →
       ∃ t u, exec .responseSent s = .next t ∧ exec .powerUp s = .next u
         ∧ t = { u with cp := { u.cp with flags := s.cp.flags, mask := s.cp.mask }, counters := s.counters }
         ∧ t.alertOutput = s.alertOutput)

/-- RESET_ASSERTED and SUPPLY_OUT_OF_RANGE: every output line, the alert output and the charge output are inactive from
then on; nothing else changes (R158; the second part is the model's reading, log entry 5). -/
def Obligations.ResetAndSupplySilenceOutputs : Prop :=
  ∀ s : State,
    exec .resetAsserted s = .next { s with resetHeld := true }
    ∧ exec .supplyOutOfRange s = .next { s with supplyOut := true }
    ∧ (∀ t, exec .resetAsserted s = .next t ∨ exec .supplyOutOfRange s = .next t →
        (∀ k, t.outputLevel k = false) ∧ t.alertOutput = false ∧ t.chargeOutput = false)

/-- The values of power-up that the handbook gives, in the model's reset state; the position 0 of an UNUSED mark is the
model's (log entry 36) (R43, R97, R173, R181). The state right after reset keeps every law. -/
def Obligations.ResetStateIsLawful : Prop :=
  (State.reset.cl = .loading ∧ State.reset.mc.mode = .pass ∧ State.reset.mc.plan = none
   ∧ State.reset.mc.pendingPlan = none ∧ State.reset.ct.running = false ∧ State.reset.ct.position = 0
   ∧ State.reset.ct.wrapCount = 0 ∧ State.reset.ct.cRun = 300
   ∧ (∀ m, State.reset.ct.marks.get m = ⟨0, .unused⟩)
   ∧ State.reset.cau.cycle = 300 ∧ State.reset.cau.smoothed = 300 ∧ State.reset.cau.triple = ⟨300, 0, 0⟩
   ∧ State.reset.cau.lastError = none ∧ State.reset.cau.lastAdjustment = 0 ∧ State.reset.cau.snapshot = none
   ∧ State.reset.cp.flags = 0 ∧ State.reset.cp.mask = 0 ∧ State.reset.cp.log = [] ∧ State.reset.cp.inHand = none
   ∧ State.reset.cp.receiver = .wait ∧ (∀ n ∈ State.reset.counters.toList, n = 0)
   ∧ State.reset.nt = ⟨[], none⟩ ∧ State.reset.lc.receiver = .hunt ∧ State.reset.lc.beaconTimer = none
   ∧ State.reset.lc.silenceTimer = none ∧ State.reset.lc.depart = none ∧ State.reset.lc.storage = false
   ∧ State.reset.lc.beacon = false ∧ State.reset.pending = []
   ∧ (∀ k, State.reset.source k = .passThrough ∧ (State.reset.olu.get k).manual = none))
  ∧ (State.reset.Lawful ∧ State.reset.TableObeys ∧ State.reset.QueueObeys
        ∧ State.reset.LinkObeys ∧ State.reset.CountsObey)

/-- A load ends good only on a block whose every field and cross-check holds (R179), and gives the configuration whose
fields stand at the offsets of section 11.8; and on every block of the right length and CRC that holds a checked
configuration it ends good with it (R177 to R179). -/
def Obligations.GoodLoadIsChecked : Prop :=
  (∀ (o : LoadObservation) (c : Configuration), loadEnd o = .good c → c.Checked ∧ BlockRead o.data c)
  ∧ ∀ (t : LoadTry) (data : List Byte) (c : Configuration), t.lowReads < 10 → t.acknowledged = true →
      290 ≤ data.length → u16 data 0 = 290 → u16 data 288 = (crc16 (data.take 288)).toNat →
      BlockRead data c → c.Checked → loadEnd ⟨[t], data⟩ = .good c

/-- How a load ends (R178, R179): bad with index 0 on a cleanup that fails in any try, after none to three tries that
were not acknowledged, or on a fourth try without every acknowledge; bad with index 1 on a length other than 290, of
which no more than three bytes need have come; bad with 289 on a wrong CRC; and otherwise bad with the offset plus 1 of
the first check that fails, the ranges before the cross-checks, or good when none fails. CONFIG_LOAD_COMPLETE ending
bad: the index is kept, CONFIG_BAD is set, and nothing else changes (R179). -/
def Obligations.LoadEndsByFirstFailure : Prop :=
  ((∀ (before : List LoadTry) t rest data, before.length < 4 →
       (∀ u ∈ before, u.lowReads < 10 ∧ u.acknowledged = false) → 10 ≤ t.lowReads →
       loadEnd ⟨before ++ t :: rest, data⟩ = .bad 0)
   ∧ (∀ t₁ t₂ t₃ t₄ data, (∀ t ∈ [t₁, t₂, t₃, t₄], t.lowReads < 10 ∧ t.acknowledged = false) →
       loadEnd ⟨[t₁, t₂, t₃, t₄], data⟩ = .bad 0)
   ∧ (∀ (before : List LoadTry) t data, before.length < 4 → (∀ u ∈ before, u.lowReads < 10 ∧ u.acknowledged = false) →
       t.lowReads < 10 → t.acknowledged = true →
       (3 ≤ data.length → u16 data 0 ≠ 290 → loadEnd ⟨before ++ [t], data⟩ = .bad 1)
       ∧ (290 ≤ data.length → u16 data 0 = 290 → u16 data 288 ≠ (crc16 (data.take 288)).toNat →
           loadEnd ⟨before ++ [t], data⟩ = .bad 289)
       ∧ (290 ≤ data.length → u16 data 0 = 290 → u16 data 288 = (crc16 (data.take 288)).toNat →
           (∀ pre x post, rangeTests data ++ crossTests data = pre ++ x :: post → (∀ y ∈ pre, y.ok = true) →
             x.ok = false → loadEnd ⟨before ++ [t], data⟩ = .bad (x.offset + 1))
           ∧ ((∀ y ∈ rangeTests data ++ crossTests data, y.ok = true) →
             loadEnd ⟨before ++ [t], data⟩ = .good (readConfiguration data)))))
  ∧ (∀ (o : LoadObservation) (i : Nat) (s : State), s.powered = true → s.cl = .loading → loadEnd o = .bad i →
       exec (.configLoadComplete o) s
         = .next { s with cl := .bad i, cp := { s.cp with flags := s.cp.flags ||| 0x0001#16 } })

/-- CONFIG_LOAD_COMPLETE ending good: each block takes its configured starting values, the standing clock with C_run and
marks, the generator with its seed, the detector lines and storage states among them; and the unit leaves PASS, for
PREEMPTED, counted and flagged, or PICKUP, with the clock standing, or it takes charge (an UNUSED mark's position 0 is
the model's choice, log entry 36) (R12, R15, R43, R63, R64, R76, R80, R82, R86, R88, R97, R179). -/
def Obligations.GoodLoadStartsTheUnit : Prop :=
  ∀ (o : LoadObservation) (c : Configuration) (p : Plan) (s : State), s.powered = true → s.cl = .loading →
    s.StandsAside → loadEnd o = .good c → c.plans.n1 = some p →
    ∃ t u, exec (.configLoadComplete o) s = .next t ∧ Loaded c p s u
      ∧ (s.mc.preempt.active = true → t = { u with
          mc := { u.mc with mode := .preempted, pickupElapsed := 0 }
          counters := { u.counters with preempted := min (u.counters.preempted + 1) 65535 }
          cp := { u.cp with flags := u.cp.flags ||| 0x0400#16 } })
      ∧ (s.mc.preempt.active = false → c.syncUsed = true →
          t = { u with mc := { u.mc with mode := .pickup, pickupElapsed := 0 } })
      ∧ (s.mc.preempt.active = false → c.syncUsed = false → TookCharge c p u t)

/-! ### The arterial link -/

/-- LINE_BUSY: the line is BUSY, a running deferral ends without an attempt, and its frame keeps its attempt count (R3,
R16). LINE_IDLE with the receiver before its mark: the line is IDLE, and a receiver in START2 stays there (the model's
reading, log entry 15); where a slot is occupied and no deferral runs, DEPART goes before STORAGE and STORAGE before
BEACON, the attempt count is kept for the frame that was in contention and otherwise 1, the generator advances once, and
the deferral is drawn from it (R3, R14, R15). LINE_IDLE with the receiver in LENGTH, BODY or CHECK: the frame is cut
short, counted in RX_ERROR and flagged, and its capture dropped (R8, R9). The deferral's slots run out by a DEFERRAL_END
of their own (the model's, log entry 2), a deferral of no slots too, which stands until it (the model's choice, log
entry 10). DEFERRAL_END on an IDLE line: the attempt starts with its first start bit, and the line is BUSY (R3, R15,
R17). -/
def Obligations.LineStateAndDeferral : Prop :=
  (∀ s : State, s.powered = true →
     exec .lineBusy s = .next { s with lc := { s.lc with line := .busy, deferral := none } })
  ∧ (∀ s : State, s.powered = true → s.lc.attempt = none → s.lc.deferral = none →
       (s.lc.receiver = .hunt ∨ s.lc.receiver = .start2) →
       (s.lc.depart = none → s.lc.storage = false → s.lc.beacon = false →
         exec .lineIdle s = .next { s with lc := { s.lc with line := .idle } })
       ∧ ∀ kind k g w,
         (kind = FrameKind.depart ∧ s.lc.depart ≠ none
           ∨ kind = FrameKind.storage ∧ s.lc.depart = none ∧ s.lc.storage = true
           ∨ kind = FrameKind.beacon ∧ s.lc.depart = none ∧ s.lc.storage = false ∧ s.lc.beacon = true) →
         (s.lc.contention = some ⟨kind, k⟩ ∨ (∀ c, s.lc.contention = some c → c.kind ≠ kind) ∧ k = 1) →
         g = BitVec.ofNat 16 ((s.lc.generator.toNat * 25173 + 13849) % 65536) →
         w = min ((if kind = .beacon then 16 else 4) * 2 ^ (k - 1)) 64 →
         exec .lineIdle s = .next { s with lc := { s.lc with
           line := .idle, contention := some ⟨kind, k⟩, generator := g,
           deferral := some ⟨kind, (if kind = .beacon then 4 else 0) + g.toNat * w / 65536⟩ } })
  ∧ (∀ s : State, s.powered = true → s.lc.attempt = none →
       (∃ c, s.lc.receiver = .length c ∨ (∃ n got, s.lc.receiver = .body c n got)
         ∨ ∃ n got f, s.lc.receiver = .check c n got f) →
       ∃ t, exec .lineIdle s = .next t
         ∧ t = { s with lc := t.lc
                        counters := { s.counters with rxError := min (s.counters.rxError + 1) 65535 }
                        cp := { s.cp with flags := s.cp.flags ||| 0x0004#16 } }
         ∧ t.lc = { s.lc with line := .idle, receiver := .hunt, contention := t.lc.contention,
                              generator := t.lc.generator, deferral := t.lc.deferral })
  ∧ (∀ (s : State) (d : Deferral), s.powered = true → s.lc.line = .idle → s.lc.attempt = none →
       s.lc.deferral = some d →
       exec .deferralEnd s = .next { s with lc := { s.lc with
         line := .busy, deferral := none, attempt := some ⟨d.kind, none⟩ } })

/-- FRAME_MARK of the unit's own BEACON, STORAGE or DEPART: the frame that goes out is the start bytes, the length byte,
the fields as section 1.3 lays them out, each read at this mark, and the check (R4 to R7, R17). The fed-by selection of
a direction is the station of the nearest entry upstream, or 0 where there is none (R37); the check starts at FFFF and
takes each byte high-order bit first (R4). -/
def Obligations.OwnMarkReadsFrame : Prop :=
  ((∀ (own : Nat) (entries : List Entry) (d : Direction),
      (∀ e, nearestUpstream own entries d = some e → fedBySelection own entries d = e.station)
      ∧ (nearestUpstream own entries d = none → fedBySelection own entries d = 0))
   ∧ crc16 [] = 0xFFFF#16
   ∧ ∀ (bytes : List Byte) (b : Byte), crc16 (bytes ++ [b])
       = [7, 6, 5, 4, 3, 2, 1, 0].foldl
           (fun (r : Word16) (i : Nat) =>
             if r.getLsbD 15 = b.getLsbD i then r <<< 1 else (r <<< 1) ^^^ 0x1021#16) (crc16 bytes))
  ∧ ∀ (s : State) (c : Configuration) (p : Plan) (m : ChargeMode) (r : DepartReason), s.powered = true →
    s.setup = some (c, p) →
    (s.mc.mode = .inCharge m → s.lc.attempt = some ⟨.beacon, none⟩ →
      ∀ body : List Byte,
      body = [1, BitVec.ofNat 8 c.station, BitVec.ofNat 8 c.group] ++ put16 c.position
        ++ [BitVec.ofNat 8 c.period, (match m with | .leading => 1 | .seeking => 2 | .inStep => 3),
            (match p.direction with | .inbound => 1 | .outbound => 2)]
        ++ put16 s.cau.cycle ++ put16 s.ct.position ++ put16 s.cau.triple.value
        ++ [BitVec.ofNat 8 s.cau.triple.origin, BitVec.ofNat 8 s.cau.triple.hops,
            BitVec.ofNat 8 (storageCode s.di.storage.inbound),
            BitVec.ofNat 8 (fedBySelection c.position s.nt.entries .inbound),
            BitVec.ofNat 8 (storageCode s.di.storage.outbound),
            BitVec.ofNat 8 (fedBySelection c.position s.nt.entries .outbound)] →
      exec .frameMark s = .next { s with lc := { s.lc with
        attempt := some ⟨.beacon, some ([0xA5, 0x3C, 20] ++ body ++ putWord (crc16 body))⟩ } })
    ∧ (s.lc.attempt = some ⟨.storage, none⟩ →
      ∀ body : List Byte,
      body = [2, BitVec.ofNat 8 c.station, BitVec.ofNat 8 c.group,
            BitVec.ofNat 8 (storageCode s.di.storage.inbound),
            BitVec.ofNat 8 (fedBySelection c.position s.nt.entries .inbound),
            BitVec.ofNat 8 (storageCode s.di.storage.outbound),
            BitVec.ofNat 8 (fedBySelection c.position s.nt.entries .outbound)] →
      exec .frameMark s = .next { s with lc := { s.lc with
        attempt := some ⟨.storage, some ([0xA5, 0x3C, 7] ++ body ++ putWord (crc16 body))⟩ } })
    ∧ (s.lc.attempt = some ⟨.depart, none⟩ → s.lc.depart = some r →
      ∀ body : List Byte,
      body = [3, BitVec.ofNat 8 c.station, BitVec.ofNat 8 c.group, (match r with | .preempt => 1 | .hold => 2)] →
      exec .frameMark s = .next { s with lc := { s.lc with
        attempt := some ⟨.depart, some ([0xA5, 0x3C, 4] ++ body ++ putWord (crc16 body))⟩ } })

/-- LINK_BYTE_RECEIVED, and FRAME_MARK: how the active receiver moves before a frame completes (R5, R8, R11, R59). The
byte that ends a start or a check is the mark or the completion itself (the model's reading, log entry 11). -/
def Obligations.ReceiverMovesByteByByte : Prop :=
  ∀ (s : State) (c : Configuration) (b : Byte) (e : Bool), s.powered = true → s.cl = .good c → s.lc.attempt = none →
    (s.lc.receiver = .hunt → exec (.linkByteReceived b e) s = .next { s with lc := { s.lc with
      receiver := if b = 0xA5 ∧ e = false then .start2 else .hunt } })
    ∧ (s.lc.receiver = .start2 → exec (.linkByteReceived b e) s = .next { s with lc := { s.lc with
        receiver := if e then .hunt else if b = 0x3C then .length ⟨s.ct.position, s.ct.wrapCount⟩
                    else if b = 0xA5 then .start2 else .hunt } }
      ∧ exec .frameMark s = .next { s with lc := { s.lc with receiver := .length ⟨s.ct.position, s.ct.wrapCount⟩ } })
    ∧ (∀ k, s.lc.receiver = .length k → e = false → 1 ≤ b.toNat → b.toNat ≤ 32 →
        exec (.linkByteReceived b e) s = .next { s with lc := { s.lc with receiver := .body k b.toNat [] } })
    ∧ (∀ k n got, s.lc.receiver = .body k n got → e = false →
        exec (.linkByteReceived b e) s = .next { s with lc := { s.lc with
          receiver := if got.length + 1 < n then .body k n (got ++ [b]) else .check k n (got ++ [b]) none } })
    ∧ (∀ k n got, s.lc.receiver = .check k n got none → e = false →
        exec (.linkByteReceived b e) s = .next { s with lc := { s.lc with receiver := .check k n got (some b) } })
    ∧ (∀ k n got f, s.lc.receiver = .check k n got (some f) → e = false →
        exec (.linkByteReceived b e) s = exec (.frameReceived b) s)
    ∧ ((∃ k, s.lc.receiver = .length k ∧ (e = true ∨ b.toNat = 0 ∨ 32 < b.toNat)
          ∨ (∃ n got, s.lc.receiver = .body k n got ∧ e = true)
          ∨ ∃ n got f, s.lc.receiver = .check k n got f ∧ e = true) →
        exec (.linkByteReceived b e) s = .next { s with
          lc := { s.lc with receiver := .hunt }
          counters := { s.counters with rxError := min (s.counters.rxError + 1) 65535 }
          cp := { s.cp with flags := s.cp.flags ||| 0x0004#16 } })

/-- FRAME_RECEIVED, at the second check byte: a frame that fails its check, its kind, its length or its fields is
counted in RX_ERROR and flagged; a valid one of another group is counted in FOREIGN; one with the unit's own number sets
DUPLICATE_NUMBER; and any other is counted in GOOD_RX, restarts the link-silence timer and goes to the table with its
capture (R4, R9, R10, R12). The reading of a frame refuses exactly those whose kind, length of the kind or field ranges
fail, and otherwise gives the fields that stand at the offsets of section 1.3 (R6, R7, R9). -/
def Obligations.FrameReceivedIsDisposedOf : Prop :=
  (∀ (s : State) (c : Configuration) (k : Capture) (n : Nat) (got : List Byte) (f b : Byte), s.powered = true →
     s.cl = .good c → s.lc.attempt = none → s.lc.receiver = .check k n got (some f) →
     ((u16 [f, b] 0 ≠ (crc16 got).toNat ∨ ¬ FrameOk n got) →
       exec (.frameReceived b) s = .next { s with
         lc := { s.lc with receiver := .hunt }
         counters := { s.counters with rxError := min (s.counters.rxError + 1) 65535 }
         cp := { s.cp with flags := s.cp.flags ||| 0x0004#16 } })
     ∧ ∀ frame, u16 [f, b] 0 = (crc16 got).toNat → readFrame n got = some frame →
       (u8 got 2 ≠ c.group → exec (.frameReceived b) s = .next { s with
         lc := { s.lc with receiver := .hunt }
         counters := { s.counters with foreign := min (s.counters.foreign + 1) 65535 } })
       ∧ (u8 got 2 = c.group → u8 got 1 = c.station → exec (.frameReceived b) s = .next { s with
           lc := { s.lc with receiver := .hunt }
           cp := { s.cp with flags := s.cp.flags ||| 0x0010#16 } })
       ∧ (u8 got 2 = c.group → u8 got 1 ≠ c.station → exec (.frameReceived b) s = .next (tableTakes c k frame { s with
           lc := { s.lc with receiver := .hunt, silenceTimer := some (5 * c.period) }
           counters := { s.counters with goodRx := min (s.counters.goodRx + 1) 65535 } })))
  ∧ (∀ (n : Nat) (got : List Byte),
       (readFrame n got = none ↔ ¬ FrameOk n got)
       ∧ (FrameOk n got → u8 got 0 = 1 → ∃ x a, readFrame n got = some (.beacon (u8 got 1) x a)
           ∧ x.position = u16 got 3 ∧ x.period = u8 got 5
           ∧ (match x.mode with | .leading => 1 | .seeking => 2 | .inStep => 3) = u8 got 6
           ∧ (match x.direction with | .inbound => 1 | .outbound => 2) = u8 got 7
           ∧ x.cycle = u16 got 8 ∧ x.stamped = u16 got 10
           ∧ x.triple = ⟨u16 got 12, u8 got 14, u8 got 15⟩ ∧ ApproachesRead got 16 a)
       ∧ (FrameOk n got → u8 got 0 = 2 → ∃ a, readFrame n got = some (.storage (u8 got 1) a) ∧ ApproachesRead got 3 a)
       ∧ (FrameOk n got → u8 got 0 = 3 → readFrame n got = some (.depart (u8 got 1))))

/-- A frame the unit sends is read back by a receiver as what was sent: every field of a BEACON, a STORAGE frame or a
DEPART, with its values in the ranges the unit's laws give them (R4, R6, R7, R9). -/
def Obligations.SentFramesReadBack : Prop :=
  ∀ (s : State) (c : Configuration) (p : Plan) (m : ChargeMode) (r : DepartReason), s.setup = some (c, p) → c.Checked →
    CycleValue s.cau.cycle → s.ct.position ≤ 3179 → CycleValue s.cau.triple.value →
    1 ≤ s.cau.triple.origin → s.cau.triple.origin ≤ 250 → s.cau.triple.hops ≤ 7 →
    (s.cau.triple.hops = 0 → s.cau.triple.origin = c.station) →
    (∀ e ∈ s.nt.entries, 1 ≤ e.station ∧ e.station ≤ 250) →
    readFrame 20 (beaconBytes s c p m) = some (.beacon c.station
        { position := c.position, period := c.period, mode := m, direction := p.direction, cycle := s.cau.cycle,
          stamped := s.ct.position, triple := s.cau.triple }
        ⟨⟨s.di.storage.inbound, fedBySelection c.position s.nt.entries .inbound⟩,
         ⟨s.di.storage.outbound, fedBySelection c.position s.nt.entries .outbound⟩⟩)
    ∧ (beaconBytes s c p m).length = 20
    ∧ readFrame 7 (storageBytes s c) = some (.storage c.station
        ⟨⟨s.di.storage.inbound, fedBySelection c.position s.nt.entries .inbound⟩,
         ⟨s.di.storage.outbound, fedBySelection c.position s.nt.entries .outbound⟩⟩)
    ∧ (storageBytes s c).length = 7
    ∧ readFrame 4 (departBytes c r) = some (.depart c.station) ∧ (departBytes c r).length = 4

/-- COLLISION below the ninth count: the attempt stops, its frame stays in its slot with its renewal mark cleared, the
attempt count rises by one and COLLISION is counted; from the ninth count on the frame is abandoned: its slot is
emptied, the count dropped (the model's reading, log entry 14), TX_ABANDONED counted and flagged (R18, R19).
ATTEMPT_SUCCESS past the mark: SENT is counted, the slot is emptied or left with a fresh frame where its renewal mark
was set, the mark is cleared and the attempt count dropped; a DEPART empties the other two slots too (R17). -/
def Obligations.CollisionsAndSuccesses : Prop :=
  (∀ (s : State) (a : Attempt) (k : Nat), s.powered = true → s.lc.attempt = some a →
     s.lc.contention = some ⟨a.kind, k⟩ →
     ∃ t, exec .collision s = .next t ∧ t.lc.attempt = none ∧ t.lc.receiver = .hunt ∧ t.lc.line = s.lc.line
       ∧ t.lc.generator = s.lc.generator ∧ t.lc.deferral = s.lc.deferral ∧ t.lc.beaconTimer = s.lc.beaconTimer
       ∧ t.lc.silenceTimer = s.lc.silenceTimer
       ∧ t = { s with lc := t.lc, counters := t.counters, cp := t.cp }
       ∧ (a.kind ≠ .depart ∨ k < 8 → t.lc.depart = s.lc.depart)
       ∧ renewal t.lc a.kind = false
       ∧ (∀ j, j ≠ a.kind → t.lc.holds j = s.lc.holds j ∧ renewal t.lc j = renewal s.lc j)
       ∧ (k < 8 → t.lc.contention = some ⟨a.kind, k + 1⟩ ∧ t.lc.holds a.kind = s.lc.holds a.kind ∧ t.cp = s.cp
           ∧ t.counters = { s.counters with collision := min (s.counters.collision + 1) 65535 })
       ∧ (8 ≤ k → t.lc.contention = none ∧ t.lc.holds a.kind = false
           ∧ t.cp = { s.cp with flags := s.cp.flags ||| 0x0008#16 }
           ∧ t.counters = { s.counters with collision := min (s.counters.collision + 1) 65535
                                            txAbandoned := min (s.counters.txAbandoned + 1) 65535 }))
  ∧ (∀ (s : State) (kind : FrameKind) (bytes : List Byte), s.powered = true →
       s.lc.attempt = some ⟨kind, some bytes⟩ →
       ∃ t, exec .attemptSuccess s = .next t ∧ t.lc.attempt = none ∧ t.lc.contention = none ∧ t.lc.receiver = .hunt
         ∧ renewal t.lc kind = false
         ∧ t.lc.holds kind = (s.lc.holds kind && renewal s.lc kind)
         ∧ (kind = .depart → t.lc.storage = false ∧ t.lc.storageRenewal = false ∧ t.lc.beacon = false
             ∧ t.lc.beaconRenewal = false)
         ∧ (kind ≠ .depart → ∀ j, j ≠ kind → t.lc.holds j = s.lc.holds j ∧ renewal t.lc j = renewal s.lc j)
         ∧ (kind ≠ .depart ∨ s.lc.departRenewal = true → t.lc.depart = s.lc.depart)
         ∧ t.lc.line = s.lc.line ∧ t.lc.generator = s.lc.generator ∧ t.lc.deferral = s.lc.deferral
         ∧ t.lc.beaconTimer = s.lc.beaconTimer ∧ t.lc.silenceTimer = s.lc.silenceTimer
         ∧ t = { s with lc := t.lc, counters := { s.counters with sent := min (s.counters.sent + 1) 65535 } })

/-- BEACON_TIMER_EXPIRY in charge: the timer is loaded with P and a BEACON is requested (R13, R20). LINK_SILENT: the
flag is set and the timer stops (R12). A request for an occupied slot makes no second frame: a DEPART request replaces
the held reason (past its mark too: the model's reading, log entry 13), and a request past the mark of the slot's own
attempt sets the renewal mark; STORAGE and BEACON requests otherwise change nothing held. A request for an empty slot
fills it; on an IDLE line with no deferral or attempt a deferral begins, drawn for the frame that goes first, and
otherwise nothing else changes (R13, R14, R15). -/
def Obligations.LinkTimersAndRequests : Prop :=
  (∀ (s : State) (c : Configuration), s.powered = true → s.cl = .good c → s.inCharge = true →
     s.lc.beaconTimer = some 0 →
     exec .beaconTimerExpiry s = .next { s with lc := fillBeacon { s.lc with beaconTimer := some c.period } })
  ∧ (∀ s : State, s.powered = true → s.lc.silenceTimer = some 0 →
       exec .linkSilent s = .next { s with
         lc := { s.lc with silenceTimer := none }, cp := { s.cp with flags := s.cp.flags ||| 0x0002#16 } })
  ∧ (∀ (l : LC) (r : DepartReason),
       (l.beacon = true → fillBeacon l = { l with beaconRenewal := l.beaconRenewal || pastMark l .beacon })
       ∧ (l.storage = true → fillStorage l = { l with storageRenewal := l.storageRenewal || pastMark l .storage })
       ∧ (l.depart.isSome = true →
           fillDepart r l = { l with depart := some r, departRenewal := l.departRenewal || pastMark l .depart })
       ∧ ∀ (u t : LC),
         (l.beacon = false ∧ u = { l with beacon := true } ∧ t = fillBeacon l
           ∨ l.storage = false ∧ u = { l with storage := true } ∧ t = fillStorage l
           ∨ l.depart = none ∧ u = { l with depart := some r } ∧ t = fillDepart r l) →
         ((l.line = .busy ∨ l.deferral ≠ none ∨ l.attempt ≠ none) → t = u)
         ∧ (l.line = .idle → l.deferral = none → l.attempt = none → ∀ kind k g w,
             (kind = FrameKind.depart ∧ u.depart ≠ none
               ∨ kind = FrameKind.storage ∧ u.depart = none ∧ u.storage = true
               ∨ kind = FrameKind.beacon ∧ u.depart = none ∧ u.storage = false) →
             (l.contention = some ⟨kind, k⟩ ∨ (∀ c, l.contention = some c → c.kind ≠ kind) ∧ k = 1) →
             g = BitVec.ofNat 16 ((l.generator.toNat * 25173 + 13849) % 65536) →
             w = min ((if kind = .beacon then 16 else 4) * 2 ^ (k - 1)) 64 →
             t = { u with contention := some ⟨kind, k⟩, generator := g
                          deferral := some ⟨kind, (if kind = .beacon then 4 else 0) + g.toNat * w / 65536⟩ }))

/-- The transmitter keeps its law at every step of a working unit (R14, R15, R17 to R19). -/
def Obligations.TransmitterLawIsKept : Prop :=
  ∀ s t : State, s.LinkObeys → step s = .next t → t.LinkObeys

/-! ### The Neighbour Table -/

/-- ENTRY_QUIET: a LIVE entry whose timer is down to 3 × P (or below: the model's choice, log entry 17) becomes QUIET
and keeps its contents and its place (R33). EXPIRY: the entry is removed, and REFERENCE_LOST is set and the last
reference becomes none exactly when the entry was the last reference and the mode is SEEKING or IN STEP; both
directions are judged for gating on the table without it, as a removal of its station, in charge only, and beside the
table only gating, the output lines, greens and flags that go with that can change (R34, R35, R40, R134 to R136). -/
def Obligations.AgingQuietsAndRemovesEntries : Prop :=
  (∀ (s : State) (before after : List Entry) (e : Entry), s.powered = true → s.nt.entries = before ++ e :: after →
     (∀ x ∈ before, x.station ≠ e.station) → (∀ x ∈ after, x.station ≠ e.station) →
     e.state = .live → e.silence ≤ 3 * e.beacon.period →
     exec (.entryQuiet e.station) s = .next { s with nt := { s.nt with
       entries := before ++ { e with state := .quiet } :: after } })
  ∧ (∀ (s : State) (before after : List Entry) (e : Entry), s.powered = true → s.nt.entries = before ++ e :: after →
       (∀ x ∈ before, x.station ≠ e.station) → (∀ x ∈ after, x.station ≠ e.station) → e.silence = 0 →
       ∃ t, exec (.expiry e.station) s = .next t ∧ t.nt.entries = before ++ after
         ∧ (s.nt.lastReference = some e.station ∧ (s.mc.mode = .inCharge .seeking ∨ s.mc.mode = .inCharge .inStep) →
             t.nt.lastReference = none ∧ flagIn .referenceLost t.cp.flags = true)
         ∧ (¬ (s.nt.lastReference = some e.station ∧ (s.mc.mode = .inCharge .seeking ∨ s.mc.mode = .inCharge .inStep)) →
             t.nt.lastReference = s.nt.lastReference
             ∧ flagIn .referenceLost t.cp.flags = flagIn .referenceLost s.cp.flags)
         ∧ (s.inCharge = false → t.gt = s.gt ∧ t.olu = s.olu ∧ t.di = s.di)
         ∧ Departed e.station (before ++ after) s t
         ∧ t = { s with nt := t.nt, gt := t.gt, olu := t.olu, di := { s.di with green := t.di.green },
                        cp := { s.cp with flags := t.cp.flags } })

/-- A BEACON from a station inside the reach window, at a position no other entry holds, leaves exactly one entry of
that station, made of the frame and its capture, LIVE with a silence timer of 5 × P, and every other entry as it was; it
is not counted as refused (R26, R27, R28). The table has room, or holds the station already. A BEACON that is not
entered: outside the window a known station's entry goes and an unknown one leaves no trace; at another entry's position
a known station's entry goes, and either way TABLE_REFUSED is counted and TABLE_FULL set; and a newcomer to a full table
displaces the farthest entry when it is nearer, and is refused otherwise; the last reference and REFERENCE_LOST stay as
they were (R24, R27 to R30, R40). STORAGE and DEPART frames: a STORAGE frame replaces the storage and fed-by fields of
its station's entry and nothing else of the table, a DEPART removes the entry, and neither does anything for a station
not in the table; a DEPART of the last reference while SEEKING or IN STEP clears the last reference and sets
REFERENCE_LOST (R31, R32, R40). Every addition, change and removal judges both directions for gating on the changed
table, in charge only, a displacement twice; and beside that nothing else changes (R35, R134 to R137). -/
def Obligations.FramesChangeTheTable : Prop :=
  (∀ (s : State) (c : Configuration) (k : Capture) (n : Nat) (b : Beacon) (a : PerDir Approach), s.cl = .good c →
     TableLaw c s.nt.entries → distance b.position c.position ≤ c.reach →
     (∀ e ∈ s.nt.entries, e.station ≠ n → e.beacon.position ≠ b.position) →
     (s.nt.entries.length < 8 ∨ ∃ e ∈ s.nt.entries, e.station = n) →
     ∀ t, t = tableTakes c k (.beacon n b a) s →
       (∀ e, e ∈ t.nt.entries ↔ e = ⟨n, b, a, k, 5 * b.period, .live⟩ ∨ (e ∈ s.nt.entries ∧ e.station ≠ n))
       ∧ t.nt.entries.Pairwise (fun e f => e.beacon.position < f.beacon.position)
       ∧ t.counters = s.counters ∧ t.nt.lastReference = s.nt.lastReference
       ∧ flagIn .tableFull t.cp.flags = flagIn .tableFull s.cp.flags
       ∧ Reported none (s.withEntries t.nt.entries) t)
  ∧ (∀ (s : State) (c : Configuration) (k : Capture) (n : Nat) (b : Beacon) (a : PerDir Approach), s.cl = .good c →
       TableLaw c s.nt.entries →
       ∀ t, t = tableTakes c k (.beacon n b a) s →
       (c.reach < distance b.position c.position ∨ (∃ e ∈ s.nt.entries, e.station ≠ n ∧ e.beacon.position = b.position)
           ∨ s.nt.entries.length = 8 ∧ (∀ e ∈ s.nt.entries, e.station ≠ n) →
         t.nt.lastReference = s.nt.lastReference
         ∧ flagIn .referenceLost t.cp.flags = flagIn .referenceLost s.cp.flags)
       ∧ (c.reach < distance b.position c.position →
         (∀ e ∈ s.nt.entries, e.station = n → e.beacon.position ≠ b.position) →
         t.nt.entries = s.nt.entries.filter (fun e => decide (e.station ≠ n)) ∧ t.counters = s.counters
         ∧ ((∃ e ∈ s.nt.entries, e.station = n) → Reported (some n) (s.withEntries t.nt.entries) t)
         ∧ ((∀ e ∈ s.nt.entries, e.station ≠ n) → t = s))
       ∧ (distance b.position c.position ≤ c.reach →
         (∃ e ∈ s.nt.entries, e.station ≠ n ∧ e.beacon.position = b.position) →
         t.nt.entries = s.nt.entries.filter (fun e => decide (e.station ≠ n))
         ∧ t.counters = { s.counters with tableRefused := min (s.counters.tableRefused + 1) 65535 }
         ∧ flagIn .tableFull t.cp.flags = true
         ∧ ((∃ e ∈ s.nt.entries, e.station = n) →
             ∃ u, Reported (some n) (s.withEntries t.nt.entries) u ∧ t = u.withRefusal)
         ∧ ((∀ e ∈ s.nt.entries, e.station ≠ n) → t = s.withRefusal))
       ∧ (distance b.position c.position ≤ c.reach → s.nt.entries.length = 8 →
         (∀ e ∈ s.nt.entries, e.station ≠ n ∧ e.beacon.position ≠ b.position) →
         ∀ f ∈ s.nt.entries,
           (∀ e ∈ s.nt.entries, distance e.beacon.position c.position < distance f.beacon.position c.position
             ∨ (distance e.beacon.position c.position = distance f.beacon.position c.position
                   ∧ e.station ≤ f.station)) →
           (distance b.position c.position < distance f.beacon.position c.position →
             (∀ e, e ∈ t.nt.entries ↔ e = ⟨n, b, a, k, 5 * b.period, .live⟩
                   ∨ (e ∈ s.nt.entries ∧ e.station ≠ f.station))
             ∧ t.counters = s.counters
             ∧ ∃ u, Reported (some f.station)
                 (s.withEntries (s.nt.entries.filter (fun e => decide (e.station ≠ f.station)))) u
               ∧ Reported none (u.withEntries t.nt.entries) t)
           ∧ (distance f.beacon.position c.position ≤ distance b.position c.position →
             t.nt.entries = s.nt.entries
             ∧ t.counters = { s.counters with tableRefused := min (s.counters.tableRefused + 1) 65535 }
             ∧ flagIn .tableFull t.cp.flags = true ∧ t = s.withRefusal)))
  ∧ (∀ (s : State) (c : Configuration) (k : Capture) (n : Nat) (a : PerDir Approach), s.cl = .good c →
       ((∀ e ∈ s.nt.entries, e.station ≠ n) →
         tableTakes c k (.storage n a) s = s ∧ tableTakes c k (.depart n) s = s)
       ∧ (tableTakes c k (.storage n a) s).nt.entries
           = s.nt.entries.map (fun e => if e.station = n then { e with approaches := a } else e)
       ∧ (tableTakes c k (.storage n a) s).counters = s.counters
       ∧ (tableTakes c k (.storage n a) s).nt.lastReference = s.nt.lastReference
       ∧ ((∃ e ∈ s.nt.entries, e.station = n) →
           (∀ t, t = tableTakes c k (.storage n a) s → Reported none (s.withEntries t.nt.entries) t)
           ∧ Departed n (s.nt.entries.filter (fun e => decide (e.station ≠ n))) s (tableTakes c k (.depart n) s))
       ∧ ∀ t, t = tableTakes c k (.depart n) s →
         t.nt.entries = s.nt.entries.filter (fun e => decide (e.station ≠ n))
         ∧ t = { s with nt := t.nt, gt := t.gt, olu := t.olu, di := { s.di with green := t.di.green },
                        cp := { s.cp with flags := t.cp.flags } }
         ∧ ∀ loses : Prop,
           (loses ↔ (∃ e ∈ s.nt.entries, e.station = n) ∧ s.nt.lastReference = some n
             ∧ (s.mc.mode = .inCharge .seeking ∨ s.mc.mode = .inCharge .inStep)) →
           (loses → t.nt.lastReference = none ∧ flagIn .referenceLost t.cp.flags = true)
           ∧ (¬ loses → t.nt.lastReference = s.nt.lastReference
               ∧ flagIn .referenceLost t.cp.flags = flagIn .referenceLost s.cp.flags))

/-- The nearest entries: under the table's law the entry found for a direction is the one at the smallest distance on
its reference side, and there is none exactly when the side is empty (R36). -/
def Obligations.NearestEntryIsNearest : Prop :=
  ∀ (c : Configuration) (entries : List Entry) (d : Direction), TableLaw c entries →
    ∀ side : Entry → Prop,
      (∀ e, side e ↔ match d with
        | .inbound => c.position < e.beacon.position
        | .outbound => e.beacon.position < c.position) →
      (nearestUpstream c.position entries d = none ↔ ∀ e ∈ entries, ¬ side e)
      ∧ (∀ e, nearestUpstream c.position entries d = some e →
          e ∈ entries ∧ side e
          ∧ ∀ f ∈ entries, side f → distance e.beacon.position c.position ≤ distance f.beacon.position c.position)
      ∧ downstreamNeighbour c.position entries d
          = nearestUpstream c.position entries (match d with | .inbound => .outbound | .outbound => .inbound)

/-- The law of the Neighbour Table is kept by every step (R25). -/
def Obligations.TableLawIsKept : Prop :=
  ∀ s t : State, s.TableObeys → step s = .next t → t.TableObeys

/-! ### The cycle clock, its marks and the wrap -/

/-- CLOCK_STEP of the running clock: outside an extension the position rises by one, and a step that would reach C_run
is the wrap (the model's reading of one row beside the other, log entry 30); during an extension x, C_run and every
stretched mark move with the position, and a step that would bring x above 300 changes nothing (the model's choice, log
entry 31) (R44, R54). -/
def Obligations.ClockStepMovesClock : Prop :=
  ∀ (s : State) (p : Plan), s.powered = true → s.ct.running = true → s.planInForce = some p →
    (s.ct.extension ≠ .running → s.ct.position + 1 < s.ct.cRun →
      exec .clockStep s = .next { s with ct := { s.ct with position := s.ct.position + 1 } })
    ∧ (s.ct.extension ≠ .running → s.ct.cRun ≤ s.ct.position + 1 → exec .clockStep s = exec .wrap s)
    ∧ (s.ct.extension = .running → s.ct.x < 300 →
        exec .clockStep s = .next { s with ct := { s.ct with
          position := s.ct.position + 1, x := s.ct.x + 1, cRun := s.ct.cRun + 1
          marks := Eight.make (fun m =>
            if p.base m ≠ 0 ∧ p.base p.stretch ≤ p.base m
            then ⟨(s.ct.marks.get m).position + 1, (s.ct.marks.get m).state⟩ else s.ct.marks.get m) } })
    ∧ (s.ct.extension = .running → 300 ≤ s.ct.x → exec .clockStep s = .next s)

/-- WRAP: the next cycle opens at position 0 with the C in force and the marks at their unshifted positions, the wrap
count one on; the arbiter, the gating record and points, the output lines and the green states open the new cycle, and
then the marks at position 0 come due (the window mark is the model's own, log entry 24, and an UNUSED mark's position 0
its choice, log entry 36) (R45, R49, R66, R138, R143, R155, R161). WRAP starts the computation from a snapshot of the
values at the wrap (R98). -/
def Obligations.WrapOpensNextCycle : Prop :=
  (∀ (s : State) (c : Configuration) (p : Plan) (m : ChargeMode), s.Lawful → s.powered = true →
     s.setup = some (c, p) → s.mc.mode = .inCharge m → s.ct.extension ≠ .running → s.ct.cRun ≤ s.ct.position + 1 →
     ∃ t, exec .wrap s = .next t
       ∧ t.ct = { running := true, position := 0, cRun := s.cau.cycle, wrapCount := s.ct.wrapCount + 1, adjustment := 0,
                  x := 0, extension := .none, earlyGreen := false, completionSeen := false,
                  marks := Eight.make (openingMark p s.cau.cycle) }
       ∧ t.pa = { s.pa with grantUsed := false, cycleGrant := none, windowOpened := false }
       ∧ (∀ d, t.gt.get d = { station := (s.gt.get d).station,
                              point := (s.gt.get d).station.map (fun _ => p.gateMin), reached := false,
                              marks := ⟨(s.gt.get d).station.isSome, false, false⟩ })
       ∧ (∀ k, t.olu.get k = { s.olu.get k with drive := openingDrive (c.outputs.get k) p s.cau.cycle })
       ∧ (∀ d, OpeningGreen c p s.cau.cycle d (t.di.green.get d))
       ∧ t.mc = { s.mc with pendingTaken := false } ∧ t.nt = s.nt ∧ t.cl = s.cl
       ∧ t.lc.beaconTimer = s.lc.beaconTimer ∧ t.lc.silenceTimer = s.lc.silenceTimer ∧ t.lc.line = s.lc.line
       ∧ t.lc.depart = s.lc.depart ∧ t.lc.beacon = s.lc.beacon ∧ t.lc.attempt = s.lc.attempt)
  ∧ (∀ (s : State) (c : Configuration) (p q : Plan) (m : ChargeMode), s.Lawful → s.powered = true →
       s.setup = some (c, p) → s.mc.mode = .inCharge m → s.ct.extension ≠ .running → s.ct.cRun ≤ s.ct.position + 1 →
       (match s.mc.pendingPlan with | some k => c.plans.get k = some q | none => q = p) →
       ∃ t, exec .wrap s = .next t
         ∧ ∃ n : Snapshot, t.cau = { s.cau with snapshot := some n }
             ∧ n = { closed := t.di.closed, cPrev := s.ct.cRun, finished := s.ct.wrapCount,
                     pendingPlan := s.mc.pendingPlan,
                     previousMode := m, entries := s.nt.entries,
                     reference := nearestUpstream c.position s.nt.entries q.direction,
                     cycle := s.cau.cycle, smoothed := s.cau.smoothed })

/-- WRAP closes the detector counts of the finished cycle: the zero runs and the stuck-off test come first, a line good
after it holds its own counts and a faulty one keeps its held ones, the closed record sums the held values by role up to
255, the new counts are 0, each direction with a good advance line that is not FULL is judged, and each line that
becomes STUCK_OFF is counted in DETECTOR_FAULT, sets the flag, and makes its direction UNKNOWN, with a STORAGE request
where that leaves FULL (R68, R71, R73, R76, R77). -/
def Obligations.WrapClosesCounts : Prop :=
  ∀ (s : State) (c : Configuration) (p : Plan) (m : ChargeMode), s.Lawful → s.powered = true →
    s.setup = some (c, p) → s.mc.mode = .inCharge m → s.ct.extension ≠ .running → s.ct.cRun ≤ s.ct.position + 1 →
    ∃ t, exec .wrap s = .next t
      ∧ (∀ k l run fault, l = s.di.lines.get k → roleCounts (c.role k) = true →
          run = (if 0 < l.counts.count + l.counts.onRed + l.counts.onGreen then 0
                  else if l.occupied then l.zeroRun else min (l.zeroRun + 1) 15) →
          fault = (if l.fault = .good ∧ (c.detectors.get k).stuckOff ≤ run then .stuckOff else l.fault) →
          t.di.lines.get k = { l with zeroRun := run, fault := fault, counts := .zero,
                                      held := if fault = .good then l.counts else l.held })
      ∧ (∀ k, roleCounts (c.role k) = false →
          t.di.lines.get k = { s.di.lines.get k with counts := .zero })
      ∧ (∀ (role : Role) (f : Counts → Nat) (n : Nat),
          n = min ((Num8.all.map (fun k => if c.role k = role then f (t.di.lines.get k).held else 0)).sum) 255 →
          (role = .stopIn → f = Counts.count → t.di.closed.stop.inbound = n)
          ∧ (role = .stopOut → f = Counts.count → t.di.closed.stop.outbound = n)
          ∧ (role = .cross → f = Counts.count → t.di.closed.cross = n)
          ∧ (role = .advIn → f = Counts.onRed → t.di.closed.onRed.inbound = n)
          ∧ (role = .advOut → f = Counts.onRed → t.di.closed.onRed.outbound = n)
          ∧ (role = .advIn → f = Counts.onGreen → t.di.closed.onGreen.inbound = n)
          ∧ (role = .advOut → f = Counts.onGreen → t.di.closed.onGreen.outbound = n))
      ∧ (∀ d k, c.role k = advanceRole d → (t.di.lines.get k).fault = .good →
          t.di.storage.get d = if s.di.storage.get d = .full then .full
            else if 3 * p.capacity.get d ≤ 4 * t.di.closed.onRed.get d then .filling else .clear)
      ∧ (∀ d k, c.role k = advanceRole d → (t.di.lines.get k).fault = .stuckOff →
          (s.di.lines.get k).fault = .good → t.di.storage.get d = .unknown)
      ∧ (∀ d, (∀ k, c.role k = advanceRole d → (s.di.lines.get k).fault ≠ .good) →
          t.di.storage.get d = s.di.storage.get d)
      ∧ (∀ failed : List Num8,
          failed = Num8.all.filter (fun k => decide ((s.di.lines.get k).fault = .good
            ∧ (t.di.lines.get k).fault = .stuckOff)) →
          (s.counters.detectorFault ≤ 65535 →
            t.counters.detectorFault = min (s.counters.detectorFault + failed.length) 65535)
          ∧ flagIn .detectorFault t.cp.flags = (flagIn .detectorFault s.cp.flags || decide (failed ≠ [])))
      ∧ StorageRequested s t

/-- WRAP makes the log record of the finished cycle: records K or more wraps old are discarded, each counted and
flagged, and the new record, with the fields of R175, is appended (R174, R175). -/
def Obligations.WrapMakesLogRecord : Prop :=
  ∀ (s : State) (c : Configuration) (p : Plan) (m : ChargeMode), s.Lawful → s.powered = true →
    s.setup = some (c, p) → s.mc.mode = .inCharge m → s.ct.extension ≠ .running → s.ct.cRun ≤ s.ct.position + 1 →
    ∃ t, exec .wrap s = .next t
      ∧ t.cp.log = s.cp.log.filter (fun q => decide ((s.ct.wrapCount - q.wrapCount).toNat < c.retention)) ++
          [{ wrapCount := s.ct.wrapCount, plan := s.mc.plan, direction := some p.direction, mode := s.mc.mode,
             cycle := s.cau.cycle, running := s.ct.cRun,
             adjustment := if s.ct.completionSeen then s.ct.adjustment else 0,
             error := if s.ct.completionSeen then s.cp.logError else none,
             reference := if s.ct.completionSeen then s.cp.logReference else none,
             closed := t.di.closed, storage := t.di.storage,
             gating := ⟨s.gt.inbound.marks, s.gt.outbound.marks⟩, grant := s.pa.cycleGrant, triple := s.cau.triple }]
      ∧ (s.counters.logTimeout ≤ 65535 → t.counters.logTimeout = min (s.counters.logTimeout +
          (s.cp.log.filter (fun q => decide (c.retention ≤ (s.ct.wrapCount - q.wrapCount).toNat))).length) 65535)
      ∧ (flagIn .logTimeout t.cp.flags = (flagIn .logTimeout s.cp.flags
          || s.cp.log.any (fun q => decide (c.retention ≤ (s.ct.wrapCount - q.wrapCount).toNat))))
      ∧ t.cp.mask = s.cp.mask ∧ t.cp.inHand = s.cp.inHand ∧ t.cp.receiver = s.cp.receiver

/-- The cycle log's law at a wrap: a log in order of wrap count, all of it before the finished cycle, is in order after
it and holds at most K records (R174). -/
def Obligations.LogStaysOrdered : Prop :=
  ∀ (s t : State) (c : Configuration), s.cl = .good c → c.Checked → s.powered = true →
    LogOrdered s.ct.wrapCount s.cp.log → (∀ r ∈ s.cp.log, r.wrapCount ≠ s.ct.wrapCount) →
    s.cp.log.length ≤ c.retention → exec .wrap s = .next t →
    LogOrdered s.ct.wrapCount t.cp.log ∧ t.cp.log.length ≤ c.retention

/-! ### The wrap computation -/

/-- The local demand of a junction (R104, R105): Cmax from 900 thousandths on and Webster's rule below it, within 80 to
6 435; the smoothed demand lies between its old value and D, a quarter of the way; and the quantised demand is the least
multiple of 20 that is not below D_f, clamped to the plan's limits, which are multiples of 20 themselves (R106). -/
def Obligations.DemandStaysInRange : Prop :=
  ∀ (p : Plan) (r : ClosedRecord) (cPrev : Nat), p.Checked →
    (∀ (y : Nat → Nat → Nat) (arterial : Nat), (∀ n f, y n f = min (n * 36000000 / (cPrev * f)) 1000) →
      arterial = max (y r.stop.inbound p.satArterial) (y r.stop.outbound p.satArterial) →
      junctionRatio p r cPrev = min (arterial + y r.cross p.satCross) 1000)
    ∧ (∀ y, 900 ≤ y → localDemand p y = p.cMax)
    ∧ (∀ y, y < 900 → localDemand p y = (3 * p.lostTime + 100) * 1000 / (2 * (1000 - y)))
    ∧ (∀ y, 80 ≤ localDemand p y ∧ localDemand p y ≤ 6435)
    ∧ (∀ old d, (old ≤ d → smoothDemand old d = old + (d - old) / 4)
        ∧ (d ≤ old → smoothDemand old d = old - (old - d) / 4)
        ∧ min old d ≤ smoothDemand old d ∧ smoothDemand old d ≤ max old d)
    ∧ (∀ df, quantise p df % 20 = 0 ∧ p.cMin ≤ quantise p df ∧ quantise p df ≤ p.cMax
        ∧ (df < p.cMin → quantise p df = p.cMin) ∧ (p.cMax < df → quantise p df = p.cMax)
        ∧ (p.cMin ≤ df → df ≤ p.cMax → df ≤ quantise p df ∧ quantise p df < df + 20))

/-- The advertised triple that a computation decides (R107 to R109): the own candidate, or an entry's triple one hop
further that is within the hop limit, not of the own origin, and undisplaced among its origin's candidates; and no
candidate so kept, nor the own one, has a greater value, or at an equal value fewer hops, or then a lower origin. -/
def Obligations.AgreedDemandIsGreatestBelieved : Prop :=
  ∀ (own hopLimit dq : Nat) (entries : List Entry) (kept : Triple → Prop) (t : Triple),
    (∀ u, kept u ↔ u = ⟨dq, own, 0⟩
      ∨ ∃ e ∈ entries, u = ⟨e.beacon.triple.value, e.beacon.triple.origin, e.beacon.triple.hops + 1⟩
        ∧ u.hops ≤ hopLimit ∧ u.origin ≠ own
        ∧ ∀ f ∈ entries, f.beacon.triple.origin = u.origin → f.beacon.triple.hops + 1 ≤ hopLimit →
            u.hops < f.beacon.triple.hops + 1 ∨ u.hops = f.beacon.triple.hops + 1 ∧ f.beacon.triple.value ≤ u.value) →
    t = agreedDemand own hopLimit dq entries →
    kept t ∧ ∀ u, kept u →
      u.value < t.value ∨ u.value = t.value ∧ (t.hops < u.hops ∨ t.hops = u.hops ∧ t.origin ≤ u.origin)

/-- The base cycle's step and the offset stage: C moves toward the target by at most Cstep, never past it and within the
plan's limits, to the value R110 gives (R110); the computation runs its stages in order on the working C and D_f, the
offset stage from the unit's own position and the new C (R99, R112); the error against a usable reference is −Δ + T − Q
wrapped to the half cycle, with T, Q and Δ as R117 to R119 give them; the adjustment is 0 for an error within 3 and
otherwise the error clamped to the greatest shortening and lengthening, which keep the stretch mark from falling below
Gmin; and the mode follows the reference, the error and the previous mode (R113, R114, R117 to R122, R124). -/
def Obligations.CycleStepAndOffset : Prop :=
  (∀ (p : Plan) (c g n : Nat), p.Checked → p.cMin ≤ c → c ≤ p.cMax → n = stepCycle p c g →
    (c < g → n = min g (min (c + p.cStep) p.cMax)) ∧ (g < c → n = max g (max (c - p.cStep) p.cMin)) ∧ (g = c → n = c)
    ∧ p.cMin ≤ n ∧ n ≤ p.cMax ∧ n ≤ c + p.cStep ∧ c ≤ n + p.cStep ∧ min c g ≤ n ∧ n ≤ max c g
    ∧ (p.cMin ≤ g → g ≤ p.cMax → c ≤ g + p.cStep → g ≤ c + p.cStep → n = g))
  ∧ (∀ (f : Configuration) (k : Num4) (p : Plan) (n : Snapshot) (old c : Nat) (r : Computed), r = compute f k p n →
       (match n.pendingPlan with
        | none => old = n.smoothed ∧ c = n.cycle
        | some _ => old = p.cBase
            ∧ c = (if n.cycle < p.cMin then p.cMin else if p.cMax < n.cycle then p.cMax else n.cycle)) →
       r.plan = k
       ∧ r.smoothed = smoothDemand old (localDemand p (junctionRatio p n.closed n.cPrev))
       ∧ r.triple = agreedDemand f.station f.hopLimit (quantise p r.smoothed) n.entries
       ∧ r.cycle = stepCycle p c r.triple.value
       ∧ r.offset = offsetStage f.position p r.cycle n)
  ∧ (∀ (own : Nat) (p : Plan) (c : Nat) (n : Snapshot), n.reference = none → offsetStage own p c n =
        ⟨none, 0, .leading⟩)
  ∧ ∀ (own : Nat) (p : Plan) (c : Nat) (n : Snapshot) (r : Entry), p.Checked → p.cMin ≤ c → n.reference = some r →
      ((r.state = .quiet ∨ r.beacon.direction ≠ p.direction ∨ r.beacon.cycle ≠ c ∨ r.capture.wrapCount ≠ n.finished) →
        offsetStage own p c n = ⟨none, 0, n.previousMode⟩)
      ∧ (r.state = .live → r.beacon.direction = p.direction → r.beacon.cycle = c → r.capture.wrapCount = n.finished →
        ∃ e a m, offsetStage own p c n = ⟨some e, a, m⟩
          ∧ -(c : Int) < 2 * e ∧ 2 * e ≤ c
          ∧ (∀ d v travel lead : Nat,
              d = (max r.beacon.position own - min r.beacon.position own) →
              v = (match p.direction with | .inbound => p.vIn | .outbound => p.vOut) →
              travel = (72 * d + v) / (2 * v) →
              lead = min (p.startLoss + min (n.closed.onRed.get p.direction) (p.capacity.get p.direction) * p.headway)
                p.qMax →
              ∃ turns : Int, e = turns * c - (r.beacon.stamped + n.cPrev - r.capture.position) + travel - lead)
          ∧ (-3 ≤ e → e ≤ 3 → a = 0)
          ∧ ((e < -3 ∨ 3 < e) → ∀ short : Nat, short = min (c / 8) (p.base p.stretch * c / p.cBase - p.gMin) →
              a = (if e < -(short : Int) then -(short : Int)
                    else if ((c / 5 : Nat) : Int) < e then ((c / 5 : Nat) : Int)
                else e))
          ∧ (p.gMin : Int) ≤ (p.base p.stretch * c / p.cBase : Nat) + a
          ∧ (m = .inStep ↔ (-3 ≤ e ∧ e ≤ 3) ∨ (-10 ≤ e ∧ e ≤ 10 ∧ n.previousMode = .inStep))
          ∧ m ≠ .leading)

/-- COMPLETION within 20 ds of its wrap: C, D_f, the triple, e, a, the plan and the mode become the unit's at one
instant, the last reference is recorded, and the clock takes its new length and mark positions; a mark left behind comes
due, its lines SET and the greens it ends ENDED, and one later waits; a plan taken since the snapshot stays pending. A
plan the computation brings takes effect in every block: the requests at or above its P_life expire (at that moment, as
R148 says and R156 does not: log entry 41), its F_full may make a direction FULL, with a STORAGE request, and the gate
point of a direction that is ON and has not reached it is placed again; without one, those blocks stay as they were.
Marks the position has already reached come due first: a MARK_DUE before the completion makes no difference to it (the
model's reading, log entry 38; the position 0 of an UNUSED mark is its choice, log entry 36) (R39, R50, R52, R53, R66,
R74, R77, R92, R93, R100, R102, R138, R148, R163). -/
def Obligations.CompletionAppliesResults : Prop :=
  (∀ (s t : State) (m : Num8), s.Lawful → s.powered = true → s.cau.snapshot.isSome = true →
     1 ≤ s.ct.position → s.ct.position ≤ 20 → exec (.markDue m) s = .next t →
     exec .completion t = exec .completion s)
  ∧ ∀ (s : State) (c : Configuration) (n : Snapshot) (k : Num4) (q : Plan) (r : Computed), s.Lawful →
    s.powered = true → s.cl = .good c → s.cau.snapshot = some n → 1 ≤ s.ct.position → s.ct.position ≤ 20 →
    (match n.pendingPlan with | some j => j = k | none => s.mc.plan = some k) → c.plans.get k = some q →
    (s.ct.earlyGreen = true
      ∨ ∀ m, (s.ct.marks.get m).state = .waiting → s.ct.position < (s.ct.marks.get m).position) →
    r = compute c k q n →
    ∃ t, exec .completion s = .next t
      ∧ t.cau = { snapshot := none, smoothed := r.smoothed, cycle := r.cycle, triple := r.triple,
                  lastError := r.offset.error, lastAdjustment := r.offset.adjustment }
      ∧ t.mc = { s.mc with mode := .inCharge r.offset.mode, plan := some k,
                           pendingPlan := if s.mc.pendingTaken then s.mc.pendingPlan else none,
                           pendingTaken := false }
      ∧ t.nt.entries = s.nt.entries
      ∧ (∀ e, n.reference = some e → (∃ f ∈ s.nt.entries, f.station = e.station) → t.nt.lastReference = some e.station)
      ∧ ((n.reference = none ∨ ∃ e, n.reference = some e ∧ ∀ f ∈ s.nt.entries, f.station ≠ e.station) →
          t.nt.lastReference = none)
      ∧ t.cp.logError = r.offset.error ∧ t.cp.logReference = t.nt.lastReference ∧ t.cp.log = s.cp.log
      ∧ t.ct.adjustment = r.offset.adjustment ∧ t.ct.completionSeen = true ∧ t.ct.position = s.ct.position
      ∧ t.ct.x = s.ct.x ∧ t.ct.wrapCount = s.ct.wrapCount
      ∧ (s.ct.earlyGreen = false → (t.ct.cRun : Int) = r.cycle + r.offset.adjustment + s.ct.x)
      ∧ (s.ct.earlyGreen = true → t.ct.cRun = s.ct.cRun)
      ∧ (∀ m, q.base m = 0 → t.ct.marks.get m = ⟨0, .unused⟩)
      ∧ (∀ m, q.base m ≠ 0 → q.base m < q.base q.stretch →
          (t.ct.marks.get m).position = q.base m * r.cycle / q.cBase)
      ∧ (∀ m, q.base m ≠ 0 → q.base q.stretch ≤ q.base m →
          ((t.ct.marks.get m).position : Int) = (q.base m * r.cycle / q.cBase : Nat) + r.offset.adjustment + s.ct.x)
      ∧ (∀ m, q.base m ≠ 0 → (s.ct.marks.get m).state = .due → (t.ct.marks.get m).state = .due)
      ∧ (s.ct.extension ≠ .running → s.ct.earlyGreen = false → ∀ m, q.base m ≠ 0 →
          (s.ct.marks.get m).state ≠ .due →
          (s.ct.position < (t.ct.marks.get m).position → (t.ct.marks.get m).state = .waiting)
          ∧ ((t.ct.marks.get m).position ≤ s.ct.position → (t.ct.marks.get m).state = .due))
      ∧ (s.ct.extension = .running → ∀ m, q.base m ≠ 0 → q.base q.stretch ≤ q.base m →
          (s.ct.marks.get m).state ≠ .due → (t.ct.marks.get m).state = .held)
      ∧ (∀ k, lineMarkUsed (c.outputs.get k) q = false → t.olu.get k = { s.olu.get k with drive := false })
      ∧ (∀ k m, (c.outputs.get k).mark = some m → q.base m ≠ 0 → t.olu.get k = { s.olu.get k with
          drive := (s.olu.get k).drive
            || decide ((s.ct.marks.get m).state ≠ .due ∧ (t.ct.marks.get m).state = .due) })
      ∧ (∀ d, t.di.green.get d = true ↔ s.di.green.get d = true
          ∧ ∀ m, (s.ct.marks.get m).state ≠ .due → (t.ct.marks.get m).state = .due → ¬ EndsGreen c q m d)
      ∧ t.cl = s.cl ∧ t.di = { s.di with storage := t.di.storage, green := t.di.green }
      ∧ t.cp = { s.cp with flags := t.cp.flags, logError := t.cp.logError, logReference := t.cp.logReference }
      ∧ (n.pendingPlan = none → t.pa = s.pa ∧ t.gt = s.gt ∧ t.di.storage = s.di.storage ∧ t.lc = s.lc
          ∧ t.counters = s.counters ∧ t.cp.flags = s.cp.flags)
      ∧ (n.pendingPlan = some k → FullByPlan c q s t ∧ StorageRequested s t
          ∧ (∀ d, t.gt.get d = if (s.gt.get d).station.isSome = true ∧ (s.gt.get d).reached = false
              then { s.gt.get d with point := some q.gateMin } else s.gt.get d)
          ∧ ((s.pa.queue.map Request.line).Nodup → s.counters.priorityExpired ≤ 65535 →
            ∀ aged, aged = s.pa.queue.filter (fun w => decide (q.pLife ≤ w.age)) →
            t.pa = { s.pa with queue := s.pa.queue.filter (fun w => decide (w.age < q.pLife)) }
            ∧ t.counters = { s.counters with
                priorityExpired := min (s.counters.priorityExpired + aged.length) 65535 }
            ∧ t.cp.flags = (if aged = [] then s.cp.flags else s.cp.flags ||| 0x0200#16)))

/-! ### Marks, gating and transit priority -/

/-- MARK_DUE of a WAITING mark the position has reached (or passed: the model's choice, log entry 17), where it is not
to be decided with the stretch mark: it becomes DUE, every output line that names it is SET and no other line changes,
and it ends the green of each direction that has a counting line naming it (R50, R66, R161). The due of the stretch mark
itself, which ends the green of a direction with no counting line, is StretchMarkIsDecided's. -/
def Obligations.MarkDueSetsItsLines : Prop :=
  ∀ (s : State) (c : Configuration) (p : Plan) (m : Num8), s.powered = true → s.setup = some (c, p) →
    s.ct.running = true → s.ct.earlyGreen = false → (s.ct.marks.get m).state = .waiting →
    (s.ct.marks.get m).position ≤ s.ct.position →
    (p.base m < p.base p.stretch ∨ (s.ct.marks.get p.stretch).state ≠ .waiting
      ∨ s.ct.position < (s.ct.marks.get p.stretch).position) →
    ∃ t, exec (.markDue m) s = .next t
      ∧ t = { s with ct := { s.ct with marks := t.ct.marks }, olu := t.olu, di := { s.di with green := t.di.green } }
      ∧ (∀ k, t.ct.marks.get k = if k = m then ⟨(s.ct.marks.get m).position, .due⟩ else s.ct.marks.get k)
      ∧ (∀ k, t.olu.get k = if (c.outputs.get k).mark = some m then { s.olu.get k with drive := true } else s.olu.get k)
      ∧ ∀ (d : Direction) (counts : Num8 → Prop), (∀ k, counts k ↔ (c.outputs.get k).gate = some d ∧
            ∃ j, (c.outputs.get k).mark = some j ∧ p.base j ≠ 0) →
          (t.di.green.get d = true ↔ s.di.green.get d = true
            ∧ ¬ ((∃ k, counts k ∧ (c.outputs.get k).mark = some m) ∨ ((∀ k, ¬ counts k) ∧ m = p.stretch)))

/-- MARK_DUE of the stretch mark, or of a stretched mark reached together with it, puts the stretch mark to the arbiter:
with a grant allowed, X_max above 0, no blocking neighbour and a winner, the extension runs for the winner with x as it
stands and the limit X_max, PRIORITY_EXTENDED is counted, the WAITING stretched marks are HELD and the reached early ones
come due; without one of these every reached WAITING mark comes due (all in this one step: the model's choice, log entry
16). The lines that name a mark come due are SET, the greens that those dues end are ENDED, the stretch mark's own among
them, and nothing else changes (R50, R51, R66, R149, R151, R161). -/
def Obligations.StretchMarkIsDecided : Prop :=
  ∀ (s : State) (c : Configuration) (p : Plan) (i : Num8), s.powered = true → s.setup = some (c, p) →
    p.base p.stretch ≠ 0 → s.ct.running = true → s.ct.earlyGreen = false →
    (s.ct.marks.get p.stretch).state = .waiting → (s.ct.marks.get p.stretch).position ≤ s.ct.position →
    p.base p.stretch ≤ p.base i → (s.ct.marks.get i).state = .waiting →
    (s.ct.marks.get i).position ≤ s.ct.position →
    ∀ (allowed : Prop),
    (allowed ↔ (s.mc.mode = .inCharge .leading ∨ s.mc.mode = .inCharge .inStep)
        ∧ s.gt.inbound.station = none ∧ s.gt.outbound.station = none ∧ s.pa.extension = none ∧ s.pa.grantUsed = false
        ∧ 0 < p.xMax
        ∧ ∀ d e, downstreamNeighbour c.position s.nt.entries d = some e → (e.approaches.get d).fedBy = c.station →
            (e.approaches.get d).storage ≠ .filling ∧ (e.approaches.get d).storage ≠ .full) →
    (∀ r, allowed → winner s.pa.queue = some r →
      ∃ t, exec (.markDue i) s = .next t
        ∧ t.pa = { s.pa with queue := s.pa.queue.filter (fun q => decide (q.line ≠ r.line)),
                             extension := some ⟨r.line, p.xMax⟩, grantUsed := true }
        ∧ t.ct = { s.ct with extension := .running, marks := t.ct.marks }
        ∧ t.counters = { s.counters with priorityExtended := min (s.counters.priorityExtended + 1) 65535 }
        ∧ (∀ m, p.base m ≠ 0 → p.base p.stretch ≤ p.base m → (s.ct.marks.get m).state = .waiting →
            t.ct.marks.get m = ⟨(s.ct.marks.get m).position, .held⟩)
        ∧ (∀ m, p.base m < p.base p.stretch → (s.ct.marks.get m).state = .waiting →
            (s.ct.marks.get m).position ≤ s.ct.position →
            t.ct.marks.get m = ⟨(s.ct.marks.get m).position, .due⟩)
        ∧ (∀ m, (s.ct.marks.get m).state ≠ .waiting ∨ p.base m < p.base p.stretch
              ∧ s.ct.position < (s.ct.marks.get m).position → t.ct.marks.get m = s.ct.marks.get m)
        ∧ DuesTaken c p (fun m => p.base m < p.base p.stretch ∧ (s.ct.marks.get m).state = .waiting
            ∧ (s.ct.marks.get m).position ≤ s.ct.position) s t
        ∧ t = { s with pa := t.pa, ct := t.ct, counters := t.counters, olu := t.olu,
                       di := { s.di with green := t.di.green } })
    ∧ ((¬ allowed ∨ s.pa.queue = []) →
      ∃ t, exec (.markDue i) s = .next t ∧ t.pa = s.pa ∧ t.counters = s.counters
        ∧ t.ct = { s.ct with marks := t.ct.marks }
        ∧ (∀ m, t.ct.marks.get m =
            if (s.ct.marks.get m).state = .waiting ∧ (s.ct.marks.get m).position ≤ s.ct.position
            then ⟨(s.ct.marks.get m).position, .due⟩ else s.ct.marks.get m)
        ∧ (∀ k, t.olu.get k = { s.olu.get k with drive := (s.olu.get k).drive ||
            (match (c.outputs.get k).mark with
             | some m => decide ((s.ct.marks.get m).state = .waiting ∧ (s.ct.marks.get m).position ≤ s.ct.position)
             | none => false) })
        ∧ DuesTaken c p (fun m => (s.ct.marks.get m).state = .waiting
            ∧ (s.ct.marks.get m).position ≤ s.ct.position) s t
        ∧ t = { s with ct := t.ct, olu := t.olu, di := { s.di with green := t.di.green } })

/-- GATE_POINT_REACHED, at the gate point or past it (the latter the model's choice, log entry 17): the direction's gate
point is marked reached, every output line with that gate direction that names a used mark is SET, and the direction's
green is ENDED where at least one such line exists; a direction with none keeps its green, and nothing else changes
(R139, R161). -/
def Obligations.GatePointSetsItsLines : Prop :=
  ∀ (s : State) (c : Configuration) (p : Plan) (d : Direction) (n g : Nat), s.powered = true →
    s.setup = some (c, p) → s.ct.running = true → (s.gt.get d).station = some n → (s.gt.get d).point = some g →
    (s.gt.get d).reached = false → g ≤ s.ct.position →
    ∀ counts : Num8 → Prop, (∀ k, counts k ↔ (c.outputs.get k).gate = some d ∧
      ∃ j, (c.outputs.get k).mark = some j ∧ p.base j ≠ 0) →
    ∃ t, exec (.gatePointReached d) s = .next t
      ∧ t = { s with gt := s.gt.set d { s.gt.get d with reached := true }, olu := t.olu,
                     di := { s.di with green := t.di.green } }
      ∧ (∀ k, counts k → t.olu.get k = { s.olu.get k with drive := true })
      ∧ (∀ k, ¬ counts k → t.olu.get k = s.olu.get k)
      ∧ ((∃ k, counts k) → t.di.green = s.di.green.set d false)
      ∧ ((∀ k, ¬ counts k) → t.di.green = s.di.green)

/-- The winner is the oldest HIGH request, and the oldest LOW one where no HIGH request waits; an empty queue has none
(R150). WINDOW_OPENING, with both limits of the early window met and the window not yet opened in the cycle (at the step
that first met them, or later: the latter the model's choice, log entry 17): with a grant allowed and a winner, the
cycle is cut at the next step and the grant recorded with the deciseconds cut; otherwise the window has opened (a mark
of the model's own, log entry 24) and nothing else changes (R56, R149, R153, R154). -/
def Obligations.WindowAndWinner : Prop :=
  (winner [] = none
   ∧ (∀ before r after, r.group = .high → (∀ q ∈ before, q.group = .low) → winner (before ++ r :: after) = some r)
   ∧ (∀ r after, (∀ q ∈ r :: after, q.group = .low) → winner (r :: after) = some r)
   ∧ ∀ (p : Plan) (t : CT), inWindow p t = true ↔ t.cRun ≤ t.position + p.eMax ∧ p.xMin ≤ t.position
       ∧ ∀ m, (t.marks.get m).state ≠ .unused → (t.marks.get m).position + p.xMin ≤ t.position)
  ∧ (∀ (s : State) (p : Plan), s.powered = true → s.planInForce = some p → s.ct.running = true →
       s.pa.windowOpened = false → s.ct.cRun ≤ s.ct.position + p.eMax →
       (∀ m, (s.ct.marks.get m).state ≠ .unused → (s.ct.marks.get m).position + p.xMin ≤ s.ct.position) →
       p.xMin ≤ s.ct.position →
       ∀ allowed : Prop,
       (allowed ↔ (s.mc.mode = .inCharge .leading ∨ s.mc.mode = .inCharge .inStep)
           ∧ s.gt.inbound.station = none ∧ s.gt.outbound.station = none ∧ s.pa.extension = none
                 ∧ s.pa.grantUsed = false) →
       (∀ r, allowed → winner s.pa.queue = some r →
         exec .windowOpening s = .next { s with
           pa := { s.pa with queue := s.pa.queue.filter (fun q => decide (q.line ≠ r.line)), grantUsed := true,
                             cycleGrant := some (.early (s.ct.cRun - (s.ct.position + 1))), windowOpened := true }
           ct := { s.ct with cRun := s.ct.position + 1, earlyGreen := true }
           counters := { s.counters with priorityEarly := min (s.counters.priorityEarly + 1) 65535 } })
       ∧ ((¬ allowed ∨ s.pa.queue = []) →
         exec .windowOpening s = .next { s with pa := { s.pa with windowOpened := true } }))

/-- EXTENSION_LIMIT, with the extension's run at its limit (or past it, and likewise a request's age past P_life: the
model's choice, log entry 17): the extension ends, the cycle grant records EXTENSION with the x reached, and the HELD
marks wait again, those at or before the position coming due in the same step with any other mark that waits there (the
model's choice, log entry 16): their output lines are SET and the greens they end are ENDED, and nothing else changes
(R50, R55, R66, R152, R161). REQUEST_EXPIRY: the line's request is removed, the others keep their places
and ages, PRIORITY_EXPIRED is counted and flagged (R148). -/
def Obligations.ExtensionsAndRequestsEnd : Prop :=
  (∀ (s : State) (c : Configuration) (p : Plan) (e : Extension), s.powered = true → s.setup = some (c, p) →
     s.pa.extension = some e → e.limit ≤ s.ct.x →
     ∃ t, exec .extensionLimit s = .next t ∧ ExtensionEnded c p s t)
  ∧ (∀ (s : State) (p : Plan) (before after : List Request) (r : Request), s.powered = true → s.planInForce = some p →
       s.pa.queue = before ++ r :: after → (∀ q ∈ before, q.line ≠ r.line) → (∀ q ∈ after, q.line ≠ r.line) →
       p.pLife ≤ r.age →
       exec (.requestExpiry r.line) s = .next { s with
         pa := { s.pa with queue := before ++ after }
         counters := { s.counters with priorityExpired := min (s.counters.priorityExpired + 1) 65535 }
         cp := { s.cp with flags := s.cp.flags ||| 0x0200#16 } })

/-- How a direction is judged, and what a report brings (R35, R66, R134 to R139, R161): called for and OFF the direction
becomes ON, with its gate point at the greater of Gg and the position, and where it is reached at once there, the lines
that count are SET and the direction's green is ENDED if there is one; called for and ON it names the station that
calls; no longer called for it becomes OFF, an unreached gate point withdrawn, by loss when the report was the gating
station's removal; and nothing else changes. A report judges both directions in charge and is ignored otherwise. -/
def Obligations.DirectionIsJudged : Prop :=
  (∀ (s : State) (c : Configuration) (p : Plan) (removed : Option Nat) (d : Direction),
     Judged c p removed d s (judgeDirection c p removed d s))
  ∧ ∀ (s : State) (removed : Option Nat), Reported removed s (reportToGating removed s)

/-! ### The laws together -/

/-- Every step keeps the laws of the configuration and plan, of charge, of the clock (R44), of the adjustment (R123), of
the base cycle (R110), of the advertised triple (R109), of the entries, of the snapshot and of gating (R134). -/
def Obligations.EveryStepIsLawful : Prop :=
  ∀ s t : State, s.Lawful → step s = .next t → t.Lawful

/-- The law of the transit requests is kept by every step, and with a checked configuration it allows at most four of
them (R145, R146). A grant is made only in a cycle that has none yet: a step that counts an extension or an early green
starts with grant used clear and leaves it set, and a step that clears it leaves the position at 0 (a wrap, a taking or
leaving of charge or a reset) (R145, R149). -/
def Obligations.QueueLawIsKept : Prop :=
  ((∀ s t : State, s.QueueObeys → step s = .next t → t.QueueObeys)
   ∧ ∀ (s : State) (c : Configuration), c.Checked → QueueLaw c s → s.pa.queue.length ≤ 4)
  ∧ (∀ s t : State, step s = .next t →
       (s.counters.priorityExtended < t.counters.priorityExtended
             ∨ s.counters.priorityEarly < t.counters.priorityEarly →
         t.pa.grantUsed = true ∧ (s.pa.grantUsed = false ∨ t.ct.position = 0))
       ∧ (s.pa.grantUsed = true → t.pa.grantUsed = false → t.ct.position = 0))

/-- The counters never pass their limits, and an event counter falls only at POWER_UP; the wrap count goes from 65 535
to 0 (R2, R172). -/
def Obligations.CountersStopAtTheirLimits : Prop :=
  (∀ s t : State, s.CountsObey → step s = .next t → t.CountsObey)
  ∧ (∀ (c : Instr) (s t : State), s.CountsObey → exec c s = .next t → c ≠ .powerUp →
      List.Forall₂ (· ≤ ·) s.counters.toList t.counters.toList)
  ∧ (∀ (p : Plan) (c : Nat) (t : CT), t.wrapCount.toNat = 65535 → (openCycle p c t).wrapCount = 0)

/-- A sticky flag, once set, stays set until a CLEAR naming it, as a command or as the last byte of its message, or a
power-up (R173). -/
def Obligations.StickyFlagsStaySet : Prop :=
  ∀ (s t : State) (f : Flag), step s = .next t → flagIn f s.cp.flags = true →
    flagIn f t.cp.flags = true
    ∨ s.pending.head? = some .powerUp
    ∨ (∃ w, s.pending.head? = some (.clear w) ∧ w.getLsbD f.bit = true)
    ∨ ∃ b got, s.pending.head? = some (.portByteReceived b false) ∧ s.cp.receiver = .check false 3 got
        ∧ got.getD 0 0 = 0x06#8 ∧ (BitVec.ofNat 16 (u16 (got.drop 1) 0)).getLsbD f.bit = true

/-! ### The detector lines -/

/-- DETECTOR_INPUT_CHANGE: an unused line, and any line without a good configuration, only shows its raw level; a used
line's filter times while the raw level differs from the filtered one and stops where it agrees; with a filter time of 0
the change is the filtered edge at once, in the same step (the model's choice, log entry 18) (R62, R63, R79). -/
def Obligations.DetectorInputIsFiltered : Prop :=
  ∀ (s : State) (k : Num8) (v : Bool) (l : DetectorLine) (u : DetectorLine → State), s.powered = true →
    l = s.di.lines.get k → (∀ x, u x = { s with di := { s.di with lines := s.di.lines.set k x } }) →
    (s.setup = none → exec (.detectorInputChange k v) s = .next (u { l with raw := v }))
    ∧ ∀ c p, s.setup = some (c, p) →
      (c.role k = .unused → exec (.detectorInputChange k v) s = .next (u { l with raw := v }))
      ∧ (c.role k ≠ .unused → v = l.occupied →
          exec (.detectorInputChange k v) s = .next (u { l with raw := v, timing := false }))
      ∧ (c.role k ≠ .unused → v ≠ l.occupied → (c.detectors.get k).filter ≠ 0 →
          exec (.detectorInputChange k v) s = .next (u { l with raw := v, timing := true }))
      ∧ (c.role k ≠ .unused → v ≠ l.occupied → (c.detectors.get k).filter = 0 →
          exec (.detectorInputChange k v) s
            = exec (if v then .filteredRisingEdge k else .filteredFallingEdge k)
                  (u { l with raw := v, timing := true }))

/-- FILTERED_RISING_EDGE of a line without a transit role: OCCUPIED with both runs at 0; one vehicle more, on green or
on red by the direction's green state for an advance line and up to 255; a STUCK_OFF fault ends, with a zero run of 0,
and its direction moves from UNKNOWN to CLEAR; nothing else changes (R63 to R65, R67, R72, R76). -/
def Obligations.RisingEdgeIsCounted : Prop :=
  ∀ (s : State) (c : Configuration) (p : Plan) (k : Num8) (l : DetectorLine), s.powered = true →
    s.setup = some (c, p) → l = s.di.lines.get k → l.timing = true → l.raw = true → l.occupied = false →
    c.role k ≠ .unused → c.role k ≠ .transitHigh → c.role k ≠ .transitLow →
    ∃ t, exec (.filteredRisingEdge k) s = .next t
      ∧ t = { s with di := { s.di with lines := s.di.lines.set k (t.di.lines.get k), storage := t.di.storage } }
      ∧ t.di.lines.get k = { l with
          occupied := true, timing := false, occupiedRun := 0, vacantRun := 0
          fault := if l.fault = .stuckOff then .good else l.fault
          zeroRun := if l.fault = .stuckOff then 0 else l.zeroRun
          counts := (t.di.lines.get k).counts }
      ∧ (∀ d, c.role k = advanceRole d → (t.di.lines.get k).counts =
          if s.di.green.get d then { l.counts with onGreen := min (l.counts.onGreen + 1) 255 }
          else { l.counts with onRed := min (l.counts.onRed + 1) 255 })
      ∧ ((∀ d, c.role k ≠ advanceRole d) →
          (t.di.lines.get k).counts = { l.counts with count := min (l.counts.count + 1) 255 })
      ∧ ∀ d, t.di.storage.get d =
          if c.role k = advanceRole d ∧ l.fault = .stuckOff ∧ s.di.storage.get d = .unknown then .clear
          else s.di.storage.get d

/-- FILTERED_RISING_EDGE of a good transit line: in charge its request joins the queue at the end with age 0, and inside
the early window it may take an early green at once; out of charge, or on a FAULTY line, no request is raised (R73, R78,
R146, R153, R154). -/
def Obligations.TransitRiseRaisesRequest : Prop :=
  ∀ (s : State) (c : Configuration) (p : Plan) (k : Num8) (g : TransitGroup) (l : DetectorLine) (u : State),
    s.powered = true → s.setup = some (c, p) → l = s.di.lines.get k → l.timing = true → l.raw = true →
    l.occupied = false → roleTransit (c.role k) = some g → l.fault ≠ .stuckOff →
    u = setLine k { l with occupied := true, timing := false, occupiedRun := 0, vacantRun := 0 } s →
    (l.fault = .stuckOn ∨ s.inCharge = false → exec (.filteredRisingEdge k) s = .next u)
    ∧ (l.fault = .good → s.inCharge = true →
        (s.ct.running = false ∨ inWindow p s.ct = false
          ∨ s.pa.grantUsed = true ∨ s.mc.mode = .inCharge .seeking ∨ gated s = true ∨ s.pa.extension ≠ none) →
        exec (.filteredRisingEdge k) s
          = .next { u with pa := { s.pa with queue := s.pa.queue ++ [Request.mk k g 0] } })
    ∧ (l.fault = .good → (s.mc.mode = .inCharge .leading ∨ s.mc.mode = .inCharge .inStep) → s.ct.running = true →
        inWindow p s.ct = true → s.pa.grantUsed = false → gated s = false → s.pa.extension = none →
        ∀ r, winner (s.pa.queue ++ [Request.mk k g 0]) = some r →
        exec (.filteredRisingEdge k) s = .next { u with
          pa := { s.pa with
            queue := (s.pa.queue ++ [Request.mk k g 0]).filter (fun q => decide (q.line ≠ r.line)), grantUsed := true
            cycleGrant := some (.early (s.ct.cRun - (s.ct.position + 1))) }
          ct := { s.ct with cRun := s.ct.position + 1, earlyGreen := true }
          counters := { s.counters with priorityEarly := min (s.counters.priorityEarly + 1) 65535 } })

/-- FILTERED_FALLING_EDGE: VACANT with both runs at 0, a STUCK_ON fault ends and its direction moves from UNKNOWN to
CLEAR; on a transit line it withdraws the line's queued request, or ends the line's extension, whose HELD marks wait
again or come due, setting their output lines and ending their greens (with any other mark that waits at or before the
position, in the same step: the model's choice, log entry 16), or is ignored (R50, R55, R63, R64, R66, R72, R76, R78,
R147, R152, R161). -/
def Obligations.FallingEdgeVacatesAndWithdraws : Prop :=
  ∀ (s : State) (c : Configuration) (p : Plan) (k : Num8) (l : DetectorLine) (u : State), s.powered = true →
    s.setup = some (c, p) → l = s.di.lines.get k → l.timing = true → l.raw = false → l.occupied = true →
    c.role k ≠ .unused →
    u = { s with di := { s.di with
      lines := s.di.lines.set k { l with occupied := false, timing := false, occupiedRun := 0, vacantRun := 0,
                                         fault := if l.fault = .stuckOn then .good else l.fault }
      storage := u.di.storage } } →
    (∀ d, u.di.storage.get d =
        if c.role k = advanceRole d ∧ l.fault = .stuckOn ∧ s.di.storage.get d = .unknown then .clear
        else s.di.storage.get d) →
    (roleTransit (c.role k) = none → exec (.filteredFallingEdge k) s = .next u)
    ∧ (∀ g, roleTransit (c.role k) = some g →
      ((∃ r ∈ s.pa.queue, r.line = k) → exec (.filteredFallingEdge k) s
        = .next { u with pa := { s.pa with queue := s.pa.queue.filter (fun r => decide (r.line ≠ k)) } })
      ∧ ((∀ r ∈ s.pa.queue, r.line ≠ k) →
          ((∀ e, s.pa.extension = some e → e.line ≠ k) → exec (.filteredFallingEdge k) s = .next u)
          ∧ (∀ e, s.pa.extension = some e → e.line = k →
              ∃ t, exec (.filteredFallingEdge k) s = .next t ∧ ExtensionEnded c p u t)))

/-- STUCK_ON of a used line whose occupied run has reached its limit (or passed it: the model's choice for this and the
two events below, log entry 17): FAULTY, counted and flagged; the direction of an advance line becomes UNKNOWN, with a
STORAGE request where it leaves FULL in charge (R70, R73, R76, R77). FULL_ENTRY and FULL_RELEASE: a CLEAR or FILLING
direction enters FULL at F_full, a FULL one leaves it for CLEAR at F_rel, and either requests a STORAGE frame in charge
only; nothing else changes (R74, R75, R77). -/
def Obligations.FaultsAndFullEntries : Prop :=
  (∀ (s : State) (c : Configuration) (k : Num8) (l : DetectorLine), s.powered = true → s.cl = .good c →
     l = s.di.lines.get k → c.role k ≠ .unused → l.occupied = true →
     10 * (c.detectors.get k).stuckOn ≤ l.occupiedRun → l.fault ≠ .stuckOn →
     ∃ t, exec (.stuckOn k) s = .next t
       ∧ t = { s with
           di := { s.di with lines := s.di.lines.set k { l with fault := .stuckOn }, storage := t.di.storage }
           counters := { s.counters with detectorFault := min (s.counters.detectorFault + 1) 65535 }
           cp := { s.cp with flags := s.cp.flags ||| 0x0080#16 }
           lc := t.lc }
       ∧ (∀ d, t.di.storage.get d = if c.role k = advanceRole d then .unknown else s.di.storage.get d)
       ∧ (t.lc = if s.inCharge = true ∧ ((c.role k = .advIn ∧ s.di.storage.inbound = .full)
             ∨ (c.role k = .advOut ∧ s.di.storage.outbound = .full)) then fillStorage s.lc else s.lc))
  ∧ (∀ (s : State) (c : Configuration) (p : Plan) (d : Direction) (k : Num8), s.powered = true →
       s.setup = some (c, p) → c.advanceLine d = some k →
       ((s.di.storage.get d = .clear ∨ s.di.storage.get d = .filling) → (s.di.lines.get k).occupied = true →
         p.fFull ≤ (s.di.lines.get k).occupiedRun →
         exec (.fullEntry d) s = .next { s with
           di := { s.di with storage := s.di.storage.set d .full }
           lc := if s.inCharge then fillStorage s.lc else s.lc })
       ∧ (s.di.storage.get d = .full → (s.di.lines.get k).occupied = false →
         p.fRel ≤ (s.di.lines.get k).vacantRun →
         exec (.fullRelease d) s = .next { s with
           di := { s.di with storage := s.di.storage.set d .clear }
           lc := if s.inCharge then fillStorage s.lc else s.lc }))

/-! ### The cabinet inputs, the modes and the plans -/

/-- CABINET_INPUT_CHANGE and SYNC_FALLING_EDGE: the input's filter times while its raw level differs from the filtered
one, whatever the mode and configuration; a falling sync edge only takes the level (R81). -/
def Obligations.CabinetInputsAreFiltered : Prop :=
  ∀ (s : State) (v : Bool), s.powered = true →
    exec (.cabinetInputChange .sync v) s = .next { s with mc := { s.mc with
      sync := ⟨v, s.mc.sync.active, decide (v ≠ s.mc.sync.active)⟩ } }
    ∧ exec (.cabinetInputChange .preempt v) s = .next { s with mc := { s.mc with
      preempt := ⟨v, s.mc.preempt.active, decide (v ≠ s.mc.preempt.active)⟩ } }
    ∧ (s.mc.sync = ⟨false, true, true⟩ →
        exec .syncFallingEdge s = .next { s with mc := { s.mc with sync := ⟨false, false, false⟩ } })

/-- SYNC_RISING_EDGE: in PICKUP, where the sync input is used, the unit takes charge at the edge with PICKUP_TIMEOUT as
it was; in every other mode, or where the input is not used, only the level is taken (R81, R84, R86). PICKUP_TIMEOUT at
C_base + 100 or past it (the latter the model's choice, log entry 17): the flag is set and the unit takes charge (R85,
R86). PREEMPT_FALLING_EDGE: in PREEMPTED the unit takes charge at the edge; in every other mode only the level is taken
(R81, R86, R89). An UNUSED mark's position 0 is the model's choice (log entry 36). -/
def Obligations.UnitTakesCharge : Prop :=
  (∀ (s u : State), s.powered = true → s.mc.sync = ⟨true, false, true⟩ →
     u = { s with mc := { s.mc with sync := ⟨true, true, false⟩ } } →
     (∀ c p, s.setup = some (c, p) → c.Checked → s.StandsAside → s.mc.mode = .pickup → c.syncUsed = true →
       ∃ t, exec .syncRisingEdge s = .next t ∧ TookCharge c p u t)
     ∧ ((s.mc.mode ≠ .pickup ∨ ∀ c, s.cl = .good c → c.syncUsed = false) → exec .syncRisingEdge s = .next u))
  ∧ (∀ (s : State) (c : Configuration) (p : Plan), s.powered = true → s.setup = some (c, p) → c.Checked →
       s.StandsAside → s.mc.mode = .pickup → p.cBase + 100 ≤ s.mc.pickupElapsed →
       ∃ t, exec .pickupTimeout s = .next t
         ∧ TookCharge c p { s with cp := { s.cp with flags := s.cp.flags ||| 0x0800#16 } } t)
  ∧ (∀ (s u : State), s.powered = true → s.mc.preempt = ⟨false, true, true⟩ →
       u = { s with mc := { s.mc with preempt := ⟨false, false, false⟩ } } →
       (∀ c p, s.setup = some (c, p) → c.Checked → s.StandsAside → s.mc.mode = .preempted →
         ∃ t, exec .preemptFallingEdge s = .next t ∧ TookCharge c p u t)
       ∧ (s.mc.mode ≠ .preempted → exec .preemptFallingEdge s = .next u))

/-- PREEMPT_RISING_EDGE: in charge the unit leaves charge for PREEMPTED and a DEPART with reason PREEMPT fills its slot,
and a plan pending takes effect at once, with C clamped into its limits, D_f its C_base, its marks on the standing
clock, and the FULL entries its F_full brings (an UNUSED mark's position 0 is the model's choice, log entry 36); from
PICKUP it enters PREEMPTED with no DEPART; both are counted and flagged; in PASS and PREEMPTED only the level is taken
(R13, R74, R81, R87, R88, R93, R94). -/
def Obligations.PreemptRiseEntersPreempted : Prop :=
  ∀ (s u : State), s.powered = true → s.mc.preempt = ⟨true, false, true⟩ →
    u = { s with mc := { s.mc with preempt := ⟨true, true, false⟩ } } →
    (∀ c p m, s.setup = some (c, p) → s.mc.mode = .inCharge m → s.mc.pendingPlan = none → s.mc.pickupElapsed = 0 →
      ∃ t, exec .preemptRisingEdge s = .next t ∧ LeftCharge p .preempted u t ∧ t.lc.depart = some .preempt
        ∧ t.counters = { s.counters with preempted := min (s.counters.preempted + 1) 65535 }
        ∧ t.cp = { s.cp with flags := s.cp.flags ||| 0x0400#16 })
    ∧ (∀ c p q m n, s.setup = some (c, p) → s.mc.mode = .inCharge m → s.mc.pendingPlan = some n →
        c.plans.get n = some q → s.mc.pickupElapsed = 0 →
        ∃ t, exec .preemptRisingEdge s = .next t ∧ LeftChargeToPlan c n q .preempted u t ∧ t.lc.depart = some .preempt
          ∧ t.counters = { s.counters with preempted := min (s.counters.preempted + 1) 65535 }
          ∧ t.cp = { s.cp with flags := s.cp.flags ||| 0x0400#16 })
    ∧ (s.mc.mode = .pickup → exec .preemptRisingEdge s = .next { u with
        mc := { u.mc with mode := .preempted, pickupElapsed := 0 }
        counters := { s.counters with preempted := min (s.counters.preempted + 1) 65535 }
        cp := { s.cp with flags := s.cp.flags ||| 0x0400#16 } })
    ∧ (s.mc.mode = .pass ∨ s.mc.mode = .preempted → exec .preemptRisingEdge s = .next u)

/-- HOLD is answered OK in every state: in charge the unit leaves charge for PASS and a DEPART with reason HOLD fills
its slot; from PICKUP and PREEMPTED it enters PASS with its DEPART slot as it was; in PASS nothing else changes (R90). A
plan pending when the unit leaves charge takes effect at once: it is in force, C is clamped into its limits, D_f is its
C_base, the standing clock has its C and its marks (an UNUSED mark's position 0 is the model's choice, log entry 36),
and a direction whose occupied run has reached its F_full is FULL (R74, R87, R93, R94, R101). -/
def Obligations.HoldMovesToPass : Prop :=
  (∀ (s u : State), s.powered = true → s.cp.inHand = none →
     u = (s.answers (.accepted .hold) (responseBytes 0x80 0x0B [])) →
     (∀ c p m, s.setup = some (c, p) → s.mc.mode = .inCharge m → s.mc.pendingPlan = none →
       ∃ t, exec .hold s = .next t ∧ LeftCharge p .pass u t ∧ t.lc.depart = some .hold ∧ t.counters = s.counters
         ∧ t.cp = u.cp)
     ∧ (s.mc.mode = .pickup → exec .hold s = .next { u with mc := { s.mc with mode := .pass, pickupElapsed := 0 } })
     ∧ (s.mc.mode = .preempted → exec .hold s = .next { u with mc := { s.mc with mode := .pass } })
     ∧ (s.mc.mode = .pass → exec .hold s = .next u))
  ∧ (∀ (s : State) (c : Configuration) (p q : Plan) (m : ChargeMode) (n : Num4), s.powered = true →
       s.setup = some (c, p) → s.mc.mode = .inCharge m → s.cp.inHand = none → s.mc.pendingPlan = some n →
       c.plans.get n = some q →
       ∀ u, u = (s.answers (.accepted .hold) (responseBytes 0x80 0x0B [])) →
       ∃ t, exec .hold s = .next t ∧ LeftChargeToPlan c n q .pass u t ∧ t.lc.depart = some .hold
         ∧ t.counters = s.counters ∧ t.cp = u.cp)

/-- RESUME in PASS with a good configuration acts as the end of a good load does and is answered OK; in any other mode,
or without a good configuration, it is refused with BAD_STATE and changes nothing (an UNUSED mark's position 0 is the
model's choice, log entry 36) (R82, R83, R86). -/
def Obligations.ResumeLeavesPass : Prop :=
  ∀ (s : State), s.powered = true → s.cp.inHand = none →
    (s.mc.mode ≠ .pass ∨ (∀ c, s.cl ≠ .good c) →
      exec .resume s = .next (s.answers .refused (responseBytes 0x82 0x0C [3])))
    ∧ ∀ c u, s.mc.mode = .pass → s.cl = .good c →
      u = (s.answers (.accepted .resume) (responseBytes 0x80 0x0C [])) →
      (s.mc.preempt.active = true → exec .resume s = .next { u with
        mc := { s.mc with mode := .preempted, pickupElapsed := 0 }
        counters := { s.counters with preempted := min (s.counters.preempted + 1) 65535 }
        cp := { u.cp with flags := s.cp.flags ||| 0x0400#16 } })
      ∧ (s.mc.preempt.active = false → c.syncUsed = true →
          exec .resume s = .next { u with mc := { s.mc with mode := .pickup, pickupElapsed := 0 } })
      ∧ (∀ p, s.mc.preempt.active = false → c.syncUsed = false → s.setup = some (c, p) → c.Checked →
          s.StandsAside → ∃ t, exec .resume s = .next t ∧ TookCharge c p u t)

/-- PLAN: refused with BAD_STATE without a good configuration, and with BAD_ARGUMENT for a number outside 1 to 4 or a
plan not present; in charge it becomes the pending plan, taken since the snapshot where a computation is in flight; out
of charge it takes effect at once, in every block, with the FULL entries its F_full brings (an UNUSED mark's position 0
is the model's choice, log entry 36). In PICKUP with the new limit at or below the elapsed time the timer expires at
once: PICKUP_TIMEOUT is set and the unit takes charge, after the FULL entries, which therefore request no STORAGE frame
(that order is the model's choice, log entry 40) (R46, R74, R77, R85, R86, R91, R93). -/
def Obligations.PlanIsChosen : Prop :=
  ∀ (s : State) (b : Byte), s.powered = true → s.cp.inHand = none →
    ((∀ c, s.cl ≠ .good c) → exec (.plan b) s = .next (s.answers .refused (responseBytes 0x82 0x08 [3])))
    ∧ ∀ c, s.cl = .good c →
      ((∀ n : Num4, n.toNat = b.toNat → c.plans.get n = none) → exec (.plan b) s =
            .next (s.answers .refused (responseBytes 0x82 0x08 [2])))
      ∧ ∀ n q cp, n.toNat = b.toNat → c.plans.get n = some q →
        cp = (s.answers (.accepted .plan) (responseBytes 0x80 0x08 [])).cp →
        (s.inCharge = true → exec (.plan b) s = .next { s with
          mc := { s.mc with pendingPlan := some n, pendingTaken := s.mc.pendingTaken || s.cau.snapshot.isSome }
          cp := cp })
        ∧ (s.inCharge = false → s.StandsAside → (s.mc.mode = .pickup → s.mc.pickupElapsed < q.cBase + 100) →
          ∃ t v, exec (.plan b) s = .next t ∧ PlanStands c n q s v ∧ t = { v with cp := cp })
        ∧ (s.mc.mode = .pickup → q.cBase + 100 ≤ s.mc.pickupElapsed → s.StandsAside →
          ∃ t, exec (.plan b) s = .next t ∧ t.mc.mode = .inCharge .leading ∧ t.mc.plan = some n
            ∧ flagIn .pickupTimeout t.cp.flags = true
            ∧ (c.Checked → ∃ v, PlanStands c n q s v
                ∧ TookCharge c q { v with cp := { cp with flags := cp.flags ||| 0x0800#16 } } t))

/-! ### The output lines -/

/-- PASS_THROUGH_CHANGE and the law of pass-through: output line k takes each change of its input at once, and in PASS
and PICKUP every output line of a working unit equals its paired input, whatever its mark, polarity, gate direction or
manual level (R160). The sources of an output line by rank, and the level of each: pass-through in PASS and PICKUP,
inactive in PREEMPTED, the manual level in charge where one is set, and otherwise mark drive by state and polarity,
inactive on no mark or an unused one (R159, R162). -/
def Obligations.OutputLinesTakeTheirSources : Prop :=
  ((∀ (s : State) (k : Num8) (v : Bool),
     exec (.passThroughChange k v) s = .next { s with olu := s.olu.set k { s.olu.get k with passThrough := v } })
   ∧ ∀ (s : State) (k : Num8), s.powered = true → s.mc.mode = .pass ∨ s.mc.mode = .pickup →
       s.outputLevel k = (s.olu.get k).passThrough)
  ∧ (∀ (s : State) (k : Num8), s.powered = true →
       ((s.mc.mode = .pass ∨ s.mc.mode = .pickup) →
         s.source k = .passThrough ∧ s.outputLevel k = (s.olu.get k).passThrough)
       ∧ (s.mc.mode = .preempted → s.source k = .inactive ∧ s.outputLevel k = false)
       ∧ ∀ m, s.mc.mode = .inCharge m →
         (∀ v, (s.olu.get k).manual = some v → s.source k = .manual ∧ s.outputLevel k = v)
         ∧ ((s.olu.get k).manual = none → s.source k = .markDrive
           ∧ ∀ c p, s.setup = some (c, p) →
             (∀ j, (c.outputs.get k).mark = some j → p.base j ≠ 0 →
               s.outputLevel k = (match (c.outputs.get k).polarity with
                 | .direct => (s.olu.get k).drive
                 | .inverted => !(s.olu.get k).drive))
             ∧ ((∀ j, (c.outputs.get k).mark = some j → p.base j = 0) → s.outputLevel k = false)))

/-- MANUAL and RELEASE: the named line's manual level is set or cleared and the answer is OK; a line outside 1 to 8, or
a level other than 0 or 1, is refused with BAD_ARGUMENT and nothing else changes (R165, R166). -/
def Obligations.ManualAndReleasePinLines : Prop :=
  ∀ (s : State) (line level : Byte), s.powered = true → s.cp.inHand = none →
    (∀ k : Num8, k.toNat = line.toNat →
      (∀ v : Bool, level.toNat = (if v then 1 else 0) → exec (.manual line level) s
        = .next { s.answers (.accepted .manual) (responseBytes 0x80 0x09 []) with
            olu := s.olu.set k { s.olu.get k with manual := some v } })
      ∧ exec (.release line) s = .next { s.answers (.accepted .release) (responseBytes 0x80 0x0A []) with
          olu := s.olu.set k { s.olu.get k with manual := none } })
    ∧ ((line.toNat = 0 ∨ 8 < line.toNat ∨ 1 < level.toNat) → exec (.manual line level) s =
          .next (s.answers .refused (responseBytes 0x82 0x09 [2])))
    ∧ ((line.toNat = 0 ∨ 8 < line.toNat) → exec (.release line) s =
          .next (s.answers .refused (responseBytes 0x82 0x0A [2])))

/-! ### The cabinet port -/

/-- STATUS, TABLE, COUNTERS and FLAGS read the unit as it stands and change nothing but what the port has in hand (R42,
R170, R172, R173; the row is the whole message, log entry 12). RESTART is answered OK and abandons a computation in
flight, so that a COMPLETION after it changes nothing (R101); that all else RESTART does waits for the OK to be sent,
and the unit otherwise goes on, is the model's reading of R101 beside R180 (log entry 35).
LOG removes the oldest record and answers it, and answers EMPTY on an empty log; the removal is not counted (R176).
CLEAR clears the named flags and MASK replaces the alert mask, each answered OK; a word with bit 14 or 15 is refused
with BAD_ARGUMENT; and the alert output of a working unit is active exactly while a set flag is selected (R167, R173).
-/
def Obligations.HostReadsAndFlags : Prop :=
  (∀ (s : State), s.powered = true → s.cp.inHand = none →
     exec .status s = .next (s.answers (.accepted .status) (responseBytes 0x80 0x01 (statusData s)))
     ∧ exec .table s = .next (s.answers (.accepted .table)
         (responseBytes 0x80 0x02 (put8 s.nt.entries.length ++ s.nt.entries.flatMap entryData)))
     ∧ exec .counters s =
           .next (s.answers (.accepted .counters) (responseBytes 0x80 0x03 (s.counters.toList.flatMap put16)))
     ∧ exec .flags s = .next (s.answers (.accepted .flags) (responseBytes 0x80 0x05 (putWord s.cp.flags)))
     ∧ ∃ t, exec .restart s = .next t
         ∧ t = { s.answers (.accepted .restart) (responseBytes 0x80 0x0D []) with cau := { s.cau with snapshot := none } }
         ∧ exec .completion t = .next t)
  ∧ (∀ (s : State), s.powered = true → s.cp.inHand = none →
       (s.cp.log = [] → exec .log s = .next (s.answers (.accepted .log) (responseBytes 0x81 0x04 [])))
       ∧ ∀ r rest u, s.cp.log = r :: rest → u = s.answers (.accepted .log) (responseBytes 0x80 0x04 (recordData r)) →
           exec .log s = .next { u with cp := { u.cp with log := rest } })
  ∧ (∀ (s : State) (w : Word16), s.powered = true → s.cp.inHand = none →
       (w.toNat < 16384 →
         (∀ u, u = s.answers (.accepted .clear) (responseBytes 0x80 0x06 []) →
           exec (.clear w) s = .next { u with cp := { u.cp with flags := s.cp.flags &&& ~~~w } })
         ∧ ∀ u, u = s.answers (.accepted .mask) (responseBytes 0x80 0x07 []) →
           exec (.mask w) s = .next { u with cp := { u.cp with mask := w } })
       ∧ (16384 ≤ w.toNat →
         exec (.clear w) s = .next (s.answers .refused (responseBytes 0x82 0x06 [2]))
         ∧ exec (.mask w) s = .next (s.answers .refused (responseBytes 0x82 0x07 [2])))
       ∧ (s.alertOutput = true ↔ ∃ i, s.cp.flags.getLsbD i = true ∧ s.cp.mask.getLsbD i = true))

/-- The bytes of a response: start byte, length byte, response kind, echoed kind, data and check byte (R171). STATUS, 82
bytes, a TABLE entry, 24, and a LOG record, 35, have their fields in the stated order and coding, two-byte fields high
byte first, signed ones in two's complement, optional ones behind a presence byte; COUNTERS has the fourteen counters in
the order of R172, two bytes each; and the sum that a check byte brings to 0 is that of the bytes modulo 256 (R169,
R172, R182). -/
def Obligations.PortLayouts : Prop :=
  (∀ (kind echo : Byte) (data : List Byte), data.length ≤ 200 →
     ∃ check, responseBytes kind echo data = [0x5A, BitVec.ofNat 8 (data.length + 2), kind, echo] ++ data ++ [check]
       ∧ byteSum ((responseBytes kind echo data).drop 1) = 0)
  ∧ (∀ (two : Nat → List Byte) (signed : Int → List Byte) (triple : Triple → List Byte) (mode : Mode → Byte)
       (dir : Direction → Byte) (stor : Storage → Byte) (bit : Bool → Byte) (number : Option Nat → Byte)
       (plan : Option Num4 → Byte) (marks : GatingMarks → Byte),
     (∀ x, two x = [BitVec.ofNat 8 (x / 256), BitVec.ofNat 8 x]) → (∀ x, signed x = two (x % 65536).toNat) →
     (∀ x, triple x = two x.value ++ [BitVec.ofNat 8 x.origin, BitVec.ofNat 8 x.hops]) →
     (mode (.inCharge .leading) = 1 ∧ mode (.inCharge .seeking) = 2 ∧ mode (.inCharge .inStep) = 3 ∧ mode .pass = 4
       ∧ mode .pickup = 5 ∧ mode .preempted = 6) →
     (dir .inbound = 1 ∧ dir .outbound = 2) →
     (stor .clear = 0 ∧ stor .filling = 1 ∧ stor .full = 2 ∧ stor .unknown = 3) →
     (bit false = 0 ∧ bit true = 1) → (number none = 0 ∧ ∀ x, number (some x) = BitVec.ofNat 8 x) →
     (plan none = 0 ∧ plan (some .n1) = 1 ∧ plan (some .n2) = 2 ∧ plan (some .n3) = 3 ∧ plan (some .n4) = 4) →
     (∀ g, (marks g).getLsbD 0 = g.active ∧ (marks g).getLsbD 1 = g.entered ∧ (marks g).getLsbD 2 = g.endedByLoss
       ∧ (marks g).toNat < 8) →
     (∀ (s : State) (through : Byte), (∀ k : Num8, through.getLsbD (k.toNat - 1) = (s.olu.get k).passThrough) →
       statusData s
         = [(match s.cl with | .loading => 0 | .good _ => 1 | .bad _ => 2 : Byte)]
           ++ two (match s.cl with | .bad i => i | _ => 0)
           ++ [mode s.mc.mode, plan s.mc.plan, plan s.mc.pendingPlan,
               match s.planInForce with | some p => dir p.direction | none => 0]
           ++ two (if s.mc.mode = .pickup then s.mc.pickupElapsed else 0)
           ++ two s.cau.cycle ++ two s.ct.cRun ++ two s.ct.position ++ [number s.nt.lastReference]
           ++ (match s.cau.lastError with | some e => 1 :: signed e | none => [0, 0, 0])
           ++ signed s.cau.lastAdjustment ++ triple s.cau.triple
           ++ [stor s.di.storage.inbound, stor s.di.storage.outbound, number s.gt.inbound.station,
               number s.gt.outbound.station, bit s.mc.sync.active, bit s.mc.preempt.active]
           ++ Num8.all.flatMap (fun k => [bit (s.di.lines.get k).occupied,
                match (s.di.lines.get k).fault with | .good => 0 | .stuckOn => 1 | .stuckOff => 2])
           ++ Num8.all.flatMap (fun k => [
                (match s.source k with | .passThrough => 0 | .inactive => 1 | .manual => 2 | .markDrive => 3),
                (match (s.olu.get k).manual with | some v => bit v | none => 255),
                bit (s.olu.get k).drive, bit (s.outputLevel k)])
           ++ [through, bit s.alertOutput, bit s.chargeOutput]
       ∧ (statusData s).length = 82)
     ∧ (∀ e : Entry, (entryData e).length = 24 ∧ entryData e
         = [BitVec.ofNat 8 e.station] ++ two e.beacon.position
           ++ [BitVec.ofNat 8 e.beacon.period, mode (.inCharge e.beacon.mode), dir e.beacon.direction]
           ++ two e.beacon.cycle ++ two e.beacon.stamped ++ two e.capture.position ++ two e.capture.wrapCount.toNat
           ++ triple e.beacon.triple
           ++ [stor e.approaches.inbound.storage, BitVec.ofNat 8 e.approaches.inbound.fedBy,
               stor e.approaches.outbound.storage, BitVec.ofNat 8 e.approaches.outbound.fedBy,
               BitVec.ofNat 8 e.silence, match e.state with | .live => 1 | .quiet => 2])
     ∧ ∀ r : LogRecord, (recordData r).length = 35 ∧ recordData r
         = two r.wrapCount.toNat
           ++ [plan r.plan, match r.direction with | some d => dir d | none => 0, mode r.mode]
           ++ two r.cycle ++ two r.running ++ signed r.adjustment
           ++ (match r.error with | some e => 1 :: signed e | none => [0, 0, 0])
           ++ (match r.reference with | some x => [1, BitVec.ofNat 8 x] | none => [0, 0])
           ++ [BitVec.ofNat 8 r.closed.stop.inbound, BitVec.ofNat 8 r.closed.stop.outbound,
               BitVec.ofNat 8 r.closed.cross, BitVec.ofNat 8 r.closed.onRed.inbound,
               BitVec.ofNat 8 r.closed.onGreen.inbound, BitVec.ofNat 8 r.closed.onRed.outbound,
               BitVec.ofNat 8 r.closed.onGreen.outbound, stor r.storage.inbound, stor r.storage.outbound,
               marks r.gating.inbound, marks r.gating.outbound]
           ++ (match r.grant with
               | some (.extension x) => 1 :: 1 :: two x | some (.early x) => 1 :: 2 :: two x | none => [0, 0, 0, 0])
           ++ triple r.triple)
  ∧ (∀ (s : State) (two : Nat → List Byte), (∀ x, two x = [BitVec.ofNat 8 (x / 256), BitVec.ofNat 8 x]) →
       s.counters.toList = [s.counters.goodRx, s.counters.rxError, s.counters.foreign, s.counters.sent,
         s.counters.collision, s.counters.txAbandoned, s.counters.tableRefused, s.counters.detectorFault,
         s.counters.preempted, s.counters.priorityExtended, s.counters.priorityEarly, s.counters.priorityExpired,
         s.counters.portOverrun, s.counters.logTimeout]
       ∧ countersData s = s.counters.toList.flatMap two ∧ (countersData s).length = 28)
  ∧ byteSum [] = 0 ∧ ∀ (b : Byte) (bytes : List Byte), byteSum (b :: bytes) = b + byteSum bytes

/-- PORT_BYTE_RECEIVED before a message ends, and PORT_OVERRUN: how the receiver moves; a start byte while a command is
in hand is an overrun, counted and flagged, and its message is dropped without an answer however it ends (R169, R170).
-/
def Obligations.PortReceiverMovesByteByByte : Prop :=
  ∀ (s : State) (b : Byte) (e : Bool) (u : PortReceiver → State), s.powered = true →
    (∀ x, u x = { s with cp := { s.cp with receiver := x } }) →
    (s.cp.receiver = .wait →
      (b ≠ 0x5A ∨ e = true → exec (.portByteReceived b e) s = .next s)
      ∧ (b = 0x5A → e = false → s.cp.inHand = none → exec (.portByteReceived b e) s = .next (u (.length false)))
      ∧ (s.cp.inHand ≠ none →
        ∀ t, t = { s with
            cp := { s.cp with receiver := .length true, flags := s.cp.flags ||| 0x2000#16 }
            counters := { s.counters with portOverrun := min (s.counters.portOverrun + 1) 65535 } } →
          exec .portOverrun s = .next t ∧ (b = 0x5A → e = false → exec (.portByteReceived b e) s = .next t)))
    ∧ (∀ o, s.cp.receiver = .length o → e = false → 1 ≤ b.toNat → b.toNat ≤ 3 →
        exec (.portByteReceived b e) s = .next (u (.body o b.toNat [])))
    ∧ (∀ o n got, s.cp.receiver = .body o n got → e = false →
        exec (.portByteReceived b e) s = .next (u (if got.length + 1 < n then .body o n (got ++ [b])
          else .check o n (got ++ [b]))))
    ∧ (∀ n got, s.cp.receiver = .check true n got → exec (.portByteReceived b e) s = .next (u .wait))
    ∧ (∀ n got, (s.cp.receiver = .length true ∨ s.cp.receiver = .body true n got ∨ s.cp.receiver = .check true n got) →
        exec .messageTimeout s = .next (u .wait) ∧ exec (.portByteReceived b true) s = .next (u .wait))
    ∧ (s.cp.receiver = .length true → (b.toNat = 0 ∨ 3 < b.toNat) → exec (.portByteReceived b e) s = .next (u .wait))

/-- A message whose bytes arrive one by one, of one of the thirteen kinds with its length and check byte right, is the
command of its row: the last byte of each does what the row does (the model's reading, log entry 12) (R169 to R171). -/
def Obligations.MessageIsItsCommand : Prop :=
  ∀ (s : State) (check hi lo : Byte) (n : Nat) (args : List Byte) (kind : Byte) (i : Instr), s.powered = true →
    s.cp.inHand = none → s.cp.receiver = .check false n (kind :: args) → n = args.length + 1 →
    byteSum (BitVec.ofNat 8 n :: kind :: args ++ [check]) = 0 →
    (kind = 0x01 ∧ args = [] ∧ i = .status ∨ kind = 0x02 ∧ args = [] ∧ i = .table
      ∨ kind = 0x03 ∧ args = [] ∧ i = .counters ∨ kind = 0x04 ∧ args = [] ∧ i = .log
      ∨ kind = 0x05 ∧ args = [] ∧ i = .flags ∨ kind = 0x06 ∧ args = [hi, lo] ∧ i = .clear (hi ++ lo)
      ∨ kind = 0x07 ∧ args = [hi, lo] ∧ i = .mask (hi ++ lo) ∨ kind = 0x08 ∧ args = [hi] ∧ i = .plan hi
      ∨ kind = 0x09 ∧ args = [hi, lo] ∧ i = .manual hi lo ∨ kind = 0x0A ∧ args = [hi] ∧ i = .release hi
      ∨ kind = 0x0B ∧ args = [] ∧ i = .hold ∨ kind = 0x0C ∧ args = [] ∧ i = .resume
      ∨ kind = 0x0D ∧ args = [] ∧ i = .restart) →
    exec (.portByteReceived check false) s = exec i s

/-- MALFORMED_MESSAGE (the whole message at once, log entry 12), MESSAGE_TIMEOUT and a byte that ends a message
malformed: REFUSED BAD_MESSAGE with the message's kind byte, or 00 when it ended before it (as a message does whose kind
byte itself has a framing error: the model's choice, log entry 37), and nothing else changes; a byte that does so, and
the 20 byte times, return the receiver to WAIT (R169, R171). RESPONSE_SENT of any command but an accepted RESTART: the
port has nothing in hand, and nothing else changes (R170). -/
def Obligations.MalformedMessageIsRefused : Prop :=
  (∀ (s : State) (b : Byte) (u : Byte → State), s.powered = true → s.cp.inHand = none →
     (∀ x, u x = (s.answers .refused (responseBytes 0x82 x [1]))) →
     (∀ kind, exec (.malformedMessage kind) s = .next (u kind))
     ∧ (s.cp.receiver = .length false →
         exec .messageTimeout s = .next (u 0) ∧ exec (.portByteReceived b true) s = .next (u 0)
         ∧ (b.toNat = 0 ∨ 3 < b.toNat → exec (.portByteReceived b false) s = .next (u 0)))
     ∧ (∀ n got, (s.cp.receiver = .body false n got ∨ s.cp.receiver = .check false n got) →
         exec .messageTimeout s = .next (u (got.getD 0 0)) ∧
               exec (.portByteReceived b true) s = .next (u (got.getD 0 0)))
     ∧ (∀ n got, s.cp.receiver = .check false n got →
         (byteSum (BitVec.ofNat 8 n :: got ++ [b]) ≠ 0 ∨ hostKindOf (got.getD 0 0) = none
           ∨ (∀ k, hostKindOf (got.getD 0 0) = some k → n ≠ hostKindLength k)) →
         exec (.portByteReceived b false) s = .next (u (got.getD 0 0))))
  ∧ (∀ (s : State) (h : InHand), s.powered = true → s.cp.inHand = some h → h ≠ .accepted .restart →
       exec .responseSent s = .next { s with cp := { s.cp with inHand := none, response := [] } })
end

