-- ==== Sys2Proof/Laws/Bytes.lean ====
section
/-! SUPPORT. Bytes on the wire: lengths of the fields, and reading back what was written. -/

namespace Sys2Proof.Machine

@[simp] theorem put8_length (n : Nat) : (put8 n).length = 1 := rfl
@[simp] theorem putWord_length (w : Word16) : (putWord w).length = 2 := rfl
@[simp] theorem put16_length (n : Nat) : (put16 n).length = 2 := rfl
@[simp] theorem putInt_length (n : Int) : (putInt n).length = 2 := rfl

/-- A word is its high byte times 256 and its low byte. -/
theorem word_of_bytes (w : Word16) : (w.extractLsb' 8 8).toNat * 256 + (w.extractLsb' 0 8).toNat = w.toNat := by
  have h := w.isLt
  simp only [BitVec.extractLsb'_toNat, Nat.shiftRight_eq_div_pow]
  omega

/-- Two bytes in a list are read as the word they were written from. -/
theorem u16_putWord (w : Word16) (before after : List Byte) :
    u16 (before ++ putWord w ++ after) before.length = w.toNat := by
  rw [← word_of_bytes w]
  simp [u16, u8, putWord]

/-- A number below 65 536 is read back from its two bytes. -/
theorem u16_put16 (n : Nat) (h : n < 65536) (before after : List Byte) :
    u16 (before ++ put16 n ++ after) before.length = n := by
  rw [put16, u16_putWord]; simp; omega

/-- A number below 256 is read back from its byte. -/
theorem u8_put8 (n : Nat) (h : n < 256) (before after : List Byte) :
    u8 (before ++ put8 n ++ after) before.length = n := by
  simp [u8, put8]; omega

/-- Two bytes are those of a word exactly when they read as it. -/
theorem putWord_eq_iff (w : Word16) (f b : Byte) : putWord w = [f, b] ↔ u16 [f, b] 0 = w.toNat := by
  constructor
  · intro h; rw [← h]; exact u16_putWord w [] []
  · intro h
    have hf := f.isLt; have hb := b.isLt
    simp only [u16, u8, List.getD_cons_zero, List.getD_cons_succ] at h
    rw [← word_of_bytes w] at h
    have h1 := (w.extractLsb' 8 8).isLt; have h2 := (w.extractLsb' 0 8).isLt
    simp only [putWord, List.cons.injEq, and_true]
    constructor <;> apply BitVec.eq_of_toNat_eq <;> omega

/-- The sum modulo 256 over a list, from a start value. -/
theorem byteSum_from (l : List Byte) (x : Byte) : l.foldl (· + ·) x = x + byteSum l := by
  induction l generalizing x with
  | nil => simp [byteSum]
  | cons a l ih =>
    have h : byteSum (a :: l) = (0 + a) + byteSum l := ih (0 + a)
    rw [List.foldl_cons, ih, h]
    simp [BitVec.add_assoc]

/-- The sum of two lists. -/
theorem byteSum_append (l m : List Byte) : byteSum (l ++ m) = byteSum l + byteSum m := by
  rw [byteSum, List.foldl_append, byteSum_from]; rfl

/-- The check byte makes the sum 0 (R169). -/
theorem byteSum_checkByte (l : List Byte) : byteSum (l ++ [checkByte l]) = 0 := by
  rw [byteSum_append]
  simp [byteSum, checkByte]

end Sys2Proof.Machine
end

