-- ==== Sys2Proof/Laws/State.lean ====
section
/-! SUPPORT. What each update of the state leaves alone: for every operation that only updates fields, one lemma per field
of State it does not change, true by rfl; and reading and writing of the small tables. -/

namespace Sys2Proof

/-! ### Tables of eight and of two -/

@[simp] theorem Eight.get_make {α : Type} (f : Num8 → α) (k : Num8) : (Eight.make f).get k = f k := by cases k <;> rfl

@[simp] theorem Eight.get_mapNum {α β : Type} (f : Num8 → α → β) (v : Eight α) (k : Num8) :
    (v.mapNum f).get k = f k (v.get k) := by cases k <;> rfl

@[simp] theorem Eight.get_set_same {α : Type} (v : Eight α) (k : Num8) (x : α) : (v.set k x).get k = x := by
  cases k <;> rfl

theorem Eight.get_set {α : Type} (v : Eight α) (k j : Num8) (x : α) :
    (v.set k x).get j = if j = k then x else v.get j := by cases k <;> cases j <;> rfl

/-- Two tables with the same value at every number are the same. -/
theorem Eight.ext_get {α : Type} {v w : Eight α} (h : ∀ k, v.get k = w.get k) : v = w := by
  cases v; cases w
  have h1 := h .n1; have h2 := h .n2; have h3 := h .n3; have h4 := h .n4
  have h5 := h .n5; have h6 := h .n6; have h7 := h .n7; have h8 := h .n8
  simp only [Eight.get] at *; simp [*]

@[simp] theorem PerDir.get_set_same {α : Type} (v : PerDir α) (d : Direction) (x : α) : (v.set d x).get d = x := by
  cases d <;> rfl

theorem PerDir.get_set {α : Type} (v : PerDir α) (d e : Direction) (x : α) :
    (v.set d x).get e = if e = d then x else v.get e := by cases d <;> cases e <;> rfl

/-- Every number is in the list of the eight. -/
theorem Num8.mem_all (k : Num8) : k ∈ Num8.all := by cases k <;> decide

/-- Every plan number is in the list of the four. -/
theorem Num4.mem_all (n : Num4) : n ∈ Num4.all := by cases n <;> decide

end Sys2Proof

namespace Sys2Proof.Machine

/-! ### setFlag -/

@[simp] theorem setFlag_lc (f : Flag) (s : State) : (setFlag f s).lc = s.lc := rfl
@[simp] theorem setFlag_nt (f : Flag) (s : State) : (setFlag f s).nt = s.nt := rfl
@[simp] theorem setFlag_ct (f : Flag) (s : State) : (setFlag f s).ct = s.ct := rfl
@[simp] theorem setFlag_di (f : Flag) (s : State) : (setFlag f s).di = s.di := rfl
@[simp] theorem setFlag_cau (f : Flag) (s : State) : (setFlag f s).cau = s.cau := rfl
@[simp] theorem setFlag_mc (f : Flag) (s : State) : (setFlag f s).mc = s.mc := rfl
@[simp] theorem setFlag_gt (f : Flag) (s : State) : (setFlag f s).gt = s.gt := rfl
@[simp] theorem setFlag_pa (f : Flag) (s : State) : (setFlag f s).pa = s.pa := rfl
@[simp] theorem setFlag_olu (f : Flag) (s : State) : (setFlag f s).olu = s.olu := rfl
@[simp] theorem setFlag_cl (f : Flag) (s : State) : (setFlag f s).cl = s.cl := rfl
@[simp] theorem setFlag_counters (f : Flag) (s : State) : (setFlag f s).counters = s.counters := rfl
@[simp] theorem setFlag_resetHeld (f : Flag) (s : State) : (setFlag f s).resetHeld = s.resetHeld := rfl
@[simp] theorem setFlag_supplyOut (f : Flag) (s : State) : (setFlag f s).supplyOut = s.supplyOut := rfl
@[simp] theorem setFlag_computations (f : Flag) (s : State) : (setFlag f s).computations = s.computations := rfl
@[simp] theorem setFlag_pending (f : Flag) (s : State) : (setFlag f s).pending = s.pending := rfl

/-! ### count -/

@[simp] theorem count_lc (c : Counter) (s : State) : (count c s).lc = s.lc := rfl
@[simp] theorem count_nt (c : Counter) (s : State) : (count c s).nt = s.nt := rfl
@[simp] theorem count_ct (c : Counter) (s : State) : (count c s).ct = s.ct := rfl
@[simp] theorem count_di (c : Counter) (s : State) : (count c s).di = s.di := rfl
@[simp] theorem count_cau (c : Counter) (s : State) : (count c s).cau = s.cau := rfl
@[simp] theorem count_mc (c : Counter) (s : State) : (count c s).mc = s.mc := rfl
@[simp] theorem count_gt (c : Counter) (s : State) : (count c s).gt = s.gt := rfl
@[simp] theorem count_pa (c : Counter) (s : State) : (count c s).pa = s.pa := rfl
@[simp] theorem count_olu (c : Counter) (s : State) : (count c s).olu = s.olu := rfl
@[simp] theorem count_cp (c : Counter) (s : State) : (count c s).cp = s.cp := rfl
@[simp] theorem count_cl (c : Counter) (s : State) : (count c s).cl = s.cl := rfl
@[simp] theorem count_resetHeld (c : Counter) (s : State) : (count c s).resetHeld = s.resetHeld := rfl
@[simp] theorem count_supplyOut (c : Counter) (s : State) : (count c s).supplyOut = s.supplyOut := rfl
@[simp] theorem count_computations (c : Counter) (s : State) : (count c s).computations = s.computations := rfl
@[simp] theorem count_pending (c : Counter) (s : State) : (count c s).pending = s.pending := rfl

/-! ### setReceiver -/

@[simp] theorem setReceiver_nt (r : Receiver) (s : State) : (setReceiver r s).nt = s.nt := rfl
@[simp] theorem setReceiver_ct (r : Receiver) (s : State) : (setReceiver r s).ct = s.ct := rfl
@[simp] theorem setReceiver_di (r : Receiver) (s : State) : (setReceiver r s).di = s.di := rfl
@[simp] theorem setReceiver_cau (r : Receiver) (s : State) : (setReceiver r s).cau = s.cau := rfl
@[simp] theorem setReceiver_mc (r : Receiver) (s : State) : (setReceiver r s).mc = s.mc := rfl
@[simp] theorem setReceiver_gt (r : Receiver) (s : State) : (setReceiver r s).gt = s.gt := rfl
@[simp] theorem setReceiver_pa (r : Receiver) (s : State) : (setReceiver r s).pa = s.pa := rfl
@[simp] theorem setReceiver_olu (r : Receiver) (s : State) : (setReceiver r s).olu = s.olu := rfl
@[simp] theorem setReceiver_cp (r : Receiver) (s : State) : (setReceiver r s).cp = s.cp := rfl
@[simp] theorem setReceiver_cl (r : Receiver) (s : State) : (setReceiver r s).cl = s.cl := rfl
@[simp] theorem setReceiver_counters (r : Receiver) (s : State) : (setReceiver r s).counters = s.counters := rfl
@[simp] theorem setReceiver_resetHeld (r : Receiver) (s : State) : (setReceiver r s).resetHeld = s.resetHeld := rfl
@[simp] theorem setReceiver_supplyOut (r : Receiver) (s : State) : (setReceiver r s).supplyOut = s.supplyOut := rfl
@[simp] theorem setReceiver_computations (r : Receiver) (s : State) :
    (setReceiver r s).computations = s.computations := rfl
@[simp] theorem setReceiver_pending (r : Receiver) (s : State) : (setReceiver r s).pending = s.pending := rfl

/-! ### setLine -/

@[simp] theorem setLine_lc (k : Num8) (l : DetectorLine) (s : State) : (setLine k l s).lc = s.lc := rfl
@[simp] theorem setLine_nt (k : Num8) (l : DetectorLine) (s : State) : (setLine k l s).nt = s.nt := rfl
@[simp] theorem setLine_ct (k : Num8) (l : DetectorLine) (s : State) : (setLine k l s).ct = s.ct := rfl
@[simp] theorem setLine_cau (k : Num8) (l : DetectorLine) (s : State) : (setLine k l s).cau = s.cau := rfl
@[simp] theorem setLine_mc (k : Num8) (l : DetectorLine) (s : State) : (setLine k l s).mc = s.mc := rfl
@[simp] theorem setLine_gt (k : Num8) (l : DetectorLine) (s : State) : (setLine k l s).gt = s.gt := rfl
@[simp] theorem setLine_pa (k : Num8) (l : DetectorLine) (s : State) : (setLine k l s).pa = s.pa := rfl
@[simp] theorem setLine_olu (k : Num8) (l : DetectorLine) (s : State) : (setLine k l s).olu = s.olu := rfl
@[simp] theorem setLine_cp (k : Num8) (l : DetectorLine) (s : State) : (setLine k l s).cp = s.cp := rfl
@[simp] theorem setLine_cl (k : Num8) (l : DetectorLine) (s : State) : (setLine k l s).cl = s.cl := rfl
@[simp] theorem setLine_counters (k : Num8) (l : DetectorLine) (s : State) :
    (setLine k l s).counters = s.counters := rfl
@[simp] theorem setLine_resetHeld (k : Num8) (l : DetectorLine) (s : State) :
    (setLine k l s).resetHeld = s.resetHeld := rfl
@[simp] theorem setLine_supplyOut (k : Num8) (l : DetectorLine) (s : State) :
    (setLine k l s).supplyOut = s.supplyOut := rfl
@[simp] theorem setLine_computations (k : Num8) (l : DetectorLine) (s : State) :
    (setLine k l s).computations = s.computations := rfl
@[simp] theorem setLine_pending (k : Num8) (l : DetectorLine) (s : State) : (setLine k l s).pending = s.pending := rfl

/-! ### endGreen -/

@[simp] theorem endGreen_lc (d : Direction) (s : State) : (endGreen d s).lc = s.lc := rfl
@[simp] theorem endGreen_nt (d : Direction) (s : State) : (endGreen d s).nt = s.nt := rfl
@[simp] theorem endGreen_ct (d : Direction) (s : State) : (endGreen d s).ct = s.ct := rfl
@[simp] theorem endGreen_cau (d : Direction) (s : State) : (endGreen d s).cau = s.cau := rfl
@[simp] theorem endGreen_mc (d : Direction) (s : State) : (endGreen d s).mc = s.mc := rfl
@[simp] theorem endGreen_gt (d : Direction) (s : State) : (endGreen d s).gt = s.gt := rfl
@[simp] theorem endGreen_pa (d : Direction) (s : State) : (endGreen d s).pa = s.pa := rfl
@[simp] theorem endGreen_olu (d : Direction) (s : State) : (endGreen d s).olu = s.olu := rfl
@[simp] theorem endGreen_cp (d : Direction) (s : State) : (endGreen d s).cp = s.cp := rfl
@[simp] theorem endGreen_cl (d : Direction) (s : State) : (endGreen d s).cl = s.cl := rfl
@[simp] theorem endGreen_counters (d : Direction) (s : State) : (endGreen d s).counters = s.counters := rfl
@[simp] theorem endGreen_resetHeld (d : Direction) (s : State) : (endGreen d s).resetHeld = s.resetHeld := rfl
@[simp] theorem endGreen_supplyOut (d : Direction) (s : State) : (endGreen d s).supplyOut = s.supplyOut := rfl
@[simp] theorem endGreen_computations (d : Direction) (s : State) : (endGreen d s).computations = s.computations := rfl
@[simp] theorem endGreen_pending (d : Direction) (s : State) : (endGreen d s).pending = s.pending := rfl

/-! ### setGreens -/

@[simp] theorem setGreens_lc (b : Bool) (s : State) : (setGreens b s).lc = s.lc := rfl
@[simp] theorem setGreens_nt (b : Bool) (s : State) : (setGreens b s).nt = s.nt := rfl
@[simp] theorem setGreens_ct (b : Bool) (s : State) : (setGreens b s).ct = s.ct := rfl
@[simp] theorem setGreens_cau (b : Bool) (s : State) : (setGreens b s).cau = s.cau := rfl
@[simp] theorem setGreens_mc (b : Bool) (s : State) : (setGreens b s).mc = s.mc := rfl
@[simp] theorem setGreens_gt (b : Bool) (s : State) : (setGreens b s).gt = s.gt := rfl
@[simp] theorem setGreens_pa (b : Bool) (s : State) : (setGreens b s).pa = s.pa := rfl
@[simp] theorem setGreens_olu (b : Bool) (s : State) : (setGreens b s).olu = s.olu := rfl
@[simp] theorem setGreens_cp (b : Bool) (s : State) : (setGreens b s).cp = s.cp := rfl
@[simp] theorem setGreens_cl (b : Bool) (s : State) : (setGreens b s).cl = s.cl := rfl
@[simp] theorem setGreens_counters (b : Bool) (s : State) : (setGreens b s).counters = s.counters := rfl
@[simp] theorem setGreens_resetHeld (b : Bool) (s : State) : (setGreens b s).resetHeld = s.resetHeld := rfl
@[simp] theorem setGreens_supplyOut (b : Bool) (s : State) : (setGreens b s).supplyOut = s.supplyOut := rfl
@[simp] theorem setGreens_computations (b : Bool) (s : State) : (setGreens b s).computations = s.computations := rfl
@[simp] theorem setGreens_pending (b : Bool) (s : State) : (setGreens b s).pending = s.pending := rfl

/-! ### zeroCounts -/

@[simp] theorem zeroCounts_lc (s : State) : (zeroCounts s).lc = s.lc := rfl
@[simp] theorem zeroCounts_nt (s : State) : (zeroCounts s).nt = s.nt := rfl
@[simp] theorem zeroCounts_ct (s : State) : (zeroCounts s).ct = s.ct := rfl
@[simp] theorem zeroCounts_cau (s : State) : (zeroCounts s).cau = s.cau := rfl
@[simp] theorem zeroCounts_mc (s : State) : (zeroCounts s).mc = s.mc := rfl
@[simp] theorem zeroCounts_gt (s : State) : (zeroCounts s).gt = s.gt := rfl
@[simp] theorem zeroCounts_pa (s : State) : (zeroCounts s).pa = s.pa := rfl
@[simp] theorem zeroCounts_olu (s : State) : (zeroCounts s).olu = s.olu := rfl
@[simp] theorem zeroCounts_cp (s : State) : (zeroCounts s).cp = s.cp := rfl
@[simp] theorem zeroCounts_cl (s : State) : (zeroCounts s).cl = s.cl := rfl
@[simp] theorem zeroCounts_counters (s : State) : (zeroCounts s).counters = s.counters := rfl
@[simp] theorem zeroCounts_resetHeld (s : State) : (zeroCounts s).resetHeld = s.resetHeld := rfl
@[simp] theorem zeroCounts_supplyOut (s : State) : (zeroCounts s).supplyOut = s.supplyOut := rfl
@[simp] theorem zeroCounts_computations (s : State) : (zeroCounts s).computations = s.computations := rfl
@[simp] theorem zeroCounts_pending (s : State) : (zeroCounts s).pending = s.pending := rfl

/-! ### setLines -/

@[simp] theorem setLines_lc (t : Num8 → Bool) (s : State) : (setLines t s).lc = s.lc := rfl
@[simp] theorem setLines_nt (t : Num8 → Bool) (s : State) : (setLines t s).nt = s.nt := rfl
@[simp] theorem setLines_ct (t : Num8 → Bool) (s : State) : (setLines t s).ct = s.ct := rfl
@[simp] theorem setLines_di (t : Num8 → Bool) (s : State) : (setLines t s).di = s.di := rfl
@[simp] theorem setLines_cau (t : Num8 → Bool) (s : State) : (setLines t s).cau = s.cau := rfl
@[simp] theorem setLines_mc (t : Num8 → Bool) (s : State) : (setLines t s).mc = s.mc := rfl
@[simp] theorem setLines_gt (t : Num8 → Bool) (s : State) : (setLines t s).gt = s.gt := rfl
@[simp] theorem setLines_pa (t : Num8 → Bool) (s : State) : (setLines t s).pa = s.pa := rfl
@[simp] theorem setLines_cp (t : Num8 → Bool) (s : State) : (setLines t s).cp = s.cp := rfl
@[simp] theorem setLines_cl (t : Num8 → Bool) (s : State) : (setLines t s).cl = s.cl := rfl
@[simp] theorem setLines_counters (t : Num8 → Bool) (s : State) : (setLines t s).counters = s.counters := rfl
@[simp] theorem setLines_resetHeld (t : Num8 → Bool) (s : State) : (setLines t s).resetHeld = s.resetHeld := rfl
@[simp] theorem setLines_supplyOut (t : Num8 → Bool) (s : State) : (setLines t s).supplyOut = s.supplyOut := rfl
@[simp] theorem setLines_computations (t : Num8 → Bool) (s : State) :
    (setLines t s).computations = s.computations := rfl
@[simp] theorem setLines_pending (t : Num8 → Bool) (s : State) : (setLines t s).pending = s.pending := rfl

/-! ### clearLines -/

@[simp] theorem clearLines_lc (s : State) : (clearLines s).lc = s.lc := rfl
@[simp] theorem clearLines_nt (s : State) : (clearLines s).nt = s.nt := rfl
@[simp] theorem clearLines_ct (s : State) : (clearLines s).ct = s.ct := rfl
@[simp] theorem clearLines_di (s : State) : (clearLines s).di = s.di := rfl
@[simp] theorem clearLines_cau (s : State) : (clearLines s).cau = s.cau := rfl
@[simp] theorem clearLines_mc (s : State) : (clearLines s).mc = s.mc := rfl
@[simp] theorem clearLines_gt (s : State) : (clearLines s).gt = s.gt := rfl
@[simp] theorem clearLines_pa (s : State) : (clearLines s).pa = s.pa := rfl
@[simp] theorem clearLines_cp (s : State) : (clearLines s).cp = s.cp := rfl
@[simp] theorem clearLines_cl (s : State) : (clearLines s).cl = s.cl := rfl
@[simp] theorem clearLines_counters (s : State) : (clearLines s).counters = s.counters := rfl
@[simp] theorem clearLines_resetHeld (s : State) : (clearLines s).resetHeld = s.resetHeld := rfl
@[simp] theorem clearLines_supplyOut (s : State) : (clearLines s).supplyOut = s.supplyOut := rfl
@[simp] theorem clearLines_computations (s : State) : (clearLines s).computations = s.computations := rfl
@[simp] theorem clearLines_pending (s : State) : (clearLines s).pending = s.pending := rfl

/-! ### setGate -/

@[simp] theorem setGate_lc (d : Direction) (g : Gate) (s : State) : (setGate d g s).lc = s.lc := rfl
@[simp] theorem setGate_nt (d : Direction) (g : Gate) (s : State) : (setGate d g s).nt = s.nt := rfl
@[simp] theorem setGate_ct (d : Direction) (g : Gate) (s : State) : (setGate d g s).ct = s.ct := rfl
@[simp] theorem setGate_di (d : Direction) (g : Gate) (s : State) : (setGate d g s).di = s.di := rfl
@[simp] theorem setGate_cau (d : Direction) (g : Gate) (s : State) : (setGate d g s).cau = s.cau := rfl
@[simp] theorem setGate_mc (d : Direction) (g : Gate) (s : State) : (setGate d g s).mc = s.mc := rfl
@[simp] theorem setGate_pa (d : Direction) (g : Gate) (s : State) : (setGate d g s).pa = s.pa := rfl
@[simp] theorem setGate_olu (d : Direction) (g : Gate) (s : State) : (setGate d g s).olu = s.olu := rfl
@[simp] theorem setGate_cp (d : Direction) (g : Gate) (s : State) : (setGate d g s).cp = s.cp := rfl
@[simp] theorem setGate_cl (d : Direction) (g : Gate) (s : State) : (setGate d g s).cl = s.cl := rfl
@[simp] theorem setGate_counters (d : Direction) (g : Gate) (s : State) : (setGate d g s).counters = s.counters := rfl
@[simp] theorem setGate_resetHeld (d : Direction) (g : Gate) (s : State) :
    (setGate d g s).resetHeld = s.resetHeld := rfl
@[simp] theorem setGate_supplyOut (d : Direction) (g : Gate) (s : State) :
    (setGate d g s).supplyOut = s.supplyOut := rfl
@[simp] theorem setGate_computations (d : Direction) (g : Gate) (s : State) :
    (setGate d g s).computations = s.computations := rfl
@[simp] theorem setGate_pending (d : Direction) (g : Gate) (s : State) : (setGate d g s).pending = s.pending := rfl

/-! ### endGating -/

@[simp] theorem endGating_lc (d : Direction) (b : Bool) (s : State) : (endGating d b s).lc = s.lc := rfl
@[simp] theorem endGating_nt (d : Direction) (b : Bool) (s : State) : (endGating d b s).nt = s.nt := rfl
@[simp] theorem endGating_ct (d : Direction) (b : Bool) (s : State) : (endGating d b s).ct = s.ct := rfl
@[simp] theorem endGating_di (d : Direction) (b : Bool) (s : State) : (endGating d b s).di = s.di := rfl
@[simp] theorem endGating_cau (d : Direction) (b : Bool) (s : State) : (endGating d b s).cau = s.cau := rfl
@[simp] theorem endGating_mc (d : Direction) (b : Bool) (s : State) : (endGating d b s).mc = s.mc := rfl
@[simp] theorem endGating_pa (d : Direction) (b : Bool) (s : State) : (endGating d b s).pa = s.pa := rfl
@[simp] theorem endGating_olu (d : Direction) (b : Bool) (s : State) : (endGating d b s).olu = s.olu := rfl
@[simp] theorem endGating_cp (d : Direction) (b : Bool) (s : State) : (endGating d b s).cp = s.cp := rfl
@[simp] theorem endGating_cl (d : Direction) (b : Bool) (s : State) : (endGating d b s).cl = s.cl := rfl
@[simp] theorem endGating_counters (d : Direction) (b : Bool) (s : State) :
    (endGating d b s).counters = s.counters := rfl
@[simp] theorem endGating_resetHeld (d : Direction) (b : Bool) (s : State) :
    (endGating d b s).resetHeld = s.resetHeld := rfl
@[simp] theorem endGating_supplyOut (d : Direction) (b : Bool) (s : State) :
    (endGating d b s).supplyOut = s.supplyOut := rfl
@[simp] theorem endGating_computations (d : Direction) (b : Bool) (s : State) :
    (endGating d b s).computations = s.computations := rfl
@[simp] theorem endGating_pending (d : Direction) (b : Bool) (s : State) : (endGating d b s).pending = s.pending := rfl

/-! ### setEntries -/

@[simp] theorem setEntries_lc (e : List Entry) (s : State) : (setEntries e s).lc = s.lc := rfl
@[simp] theorem setEntries_ct (e : List Entry) (s : State) : (setEntries e s).ct = s.ct := rfl
@[simp] theorem setEntries_di (e : List Entry) (s : State) : (setEntries e s).di = s.di := rfl
@[simp] theorem setEntries_cau (e : List Entry) (s : State) : (setEntries e s).cau = s.cau := rfl
@[simp] theorem setEntries_mc (e : List Entry) (s : State) : (setEntries e s).mc = s.mc := rfl
@[simp] theorem setEntries_gt (e : List Entry) (s : State) : (setEntries e s).gt = s.gt := rfl
@[simp] theorem setEntries_pa (e : List Entry) (s : State) : (setEntries e s).pa = s.pa := rfl
@[simp] theorem setEntries_olu (e : List Entry) (s : State) : (setEntries e s).olu = s.olu := rfl
@[simp] theorem setEntries_cp (e : List Entry) (s : State) : (setEntries e s).cp = s.cp := rfl
@[simp] theorem setEntries_cl (e : List Entry) (s : State) : (setEntries e s).cl = s.cl := rfl
@[simp] theorem setEntries_counters (e : List Entry) (s : State) : (setEntries e s).counters = s.counters := rfl
@[simp] theorem setEntries_resetHeld (e : List Entry) (s : State) : (setEntries e s).resetHeld = s.resetHeld := rfl
@[simp] theorem setEntries_supplyOut (e : List Entry) (s : State) : (setEntries e s).supplyOut = s.supplyOut := rfl
@[simp] theorem setEntries_computations (e : List Entry) (s : State) :
    (setEntries e s).computations = s.computations := rfl
@[simp] theorem setEntries_pending (e : List Entry) (s : State) : (setEntries e s).pending = s.pending := rfl

/-! ### makeQuiet -/

@[simp] theorem makeQuiet_lc (n : Nat) (s : State) : (makeQuiet n s).lc = s.lc := rfl
@[simp] theorem makeQuiet_ct (n : Nat) (s : State) : (makeQuiet n s).ct = s.ct := rfl
@[simp] theorem makeQuiet_di (n : Nat) (s : State) : (makeQuiet n s).di = s.di := rfl
@[simp] theorem makeQuiet_cau (n : Nat) (s : State) : (makeQuiet n s).cau = s.cau := rfl
@[simp] theorem makeQuiet_mc (n : Nat) (s : State) : (makeQuiet n s).mc = s.mc := rfl
@[simp] theorem makeQuiet_gt (n : Nat) (s : State) : (makeQuiet n s).gt = s.gt := rfl
@[simp] theorem makeQuiet_pa (n : Nat) (s : State) : (makeQuiet n s).pa = s.pa := rfl
@[simp] theorem makeQuiet_olu (n : Nat) (s : State) : (makeQuiet n s).olu = s.olu := rfl
@[simp] theorem makeQuiet_cp (n : Nat) (s : State) : (makeQuiet n s).cp = s.cp := rfl
@[simp] theorem makeQuiet_cl (n : Nat) (s : State) : (makeQuiet n s).cl = s.cl := rfl
@[simp] theorem makeQuiet_counters (n : Nat) (s : State) : (makeQuiet n s).counters = s.counters := rfl
@[simp] theorem makeQuiet_resetHeld (n : Nat) (s : State) : (makeQuiet n s).resetHeld = s.resetHeld := rfl
@[simp] theorem makeQuiet_supplyOut (n : Nat) (s : State) : (makeQuiet n s).supplyOut = s.supplyOut := rfl
@[simp] theorem makeQuiet_computations (n : Nat) (s : State) : (makeQuiet n s).computations = s.computations := rfl
@[simp] theorem makeQuiet_pending (n : Nat) (s : State) : (makeQuiet n s).pending = s.pending := rfl

/-! ### grantExtension -/

@[simp] theorem grantExtension_lc (p : Plan) (r : Request) (s : State) : (grantExtension p r s).lc = s.lc := rfl
@[simp] theorem grantExtension_nt (p : Plan) (r : Request) (s : State) : (grantExtension p r s).nt = s.nt := rfl
@[simp] theorem grantExtension_di (p : Plan) (r : Request) (s : State) : (grantExtension p r s).di = s.di := rfl
@[simp] theorem grantExtension_cau (p : Plan) (r : Request) (s : State) : (grantExtension p r s).cau = s.cau := rfl
@[simp] theorem grantExtension_mc (p : Plan) (r : Request) (s : State) : (grantExtension p r s).mc = s.mc := rfl
@[simp] theorem grantExtension_gt (p : Plan) (r : Request) (s : State) : (grantExtension p r s).gt = s.gt := rfl
@[simp] theorem grantExtension_olu (p : Plan) (r : Request) (s : State) : (grantExtension p r s).olu = s.olu := rfl
@[simp] theorem grantExtension_cp (p : Plan) (r : Request) (s : State) : (grantExtension p r s).cp = s.cp := rfl
@[simp] theorem grantExtension_cl (p : Plan) (r : Request) (s : State) : (grantExtension p r s).cl = s.cl := rfl
@[simp] theorem grantExtension_resetHeld (p : Plan) (r : Request) (s : State) :
    (grantExtension p r s).resetHeld = s.resetHeld := rfl
@[simp] theorem grantExtension_supplyOut (p : Plan) (r : Request) (s : State) :
    (grantExtension p r s).supplyOut = s.supplyOut := rfl
@[simp] theorem grantExtension_computations (p : Plan) (r : Request) (s : State) :
    (grantExtension p r s).computations = s.computations := rfl
@[simp] theorem grantExtension_pending (p : Plan) (r : Request) (s : State) :
    (grantExtension p r s).pending = s.pending := rfl

/-! ### grantEarly -/

@[simp] theorem grantEarly_lc (r : Request) (s : State) : (grantEarly r s).lc = s.lc := rfl
@[simp] theorem grantEarly_nt (r : Request) (s : State) : (grantEarly r s).nt = s.nt := rfl
@[simp] theorem grantEarly_di (r : Request) (s : State) : (grantEarly r s).di = s.di := rfl
@[simp] theorem grantEarly_cau (r : Request) (s : State) : (grantEarly r s).cau = s.cau := rfl
@[simp] theorem grantEarly_mc (r : Request) (s : State) : (grantEarly r s).mc = s.mc := rfl
@[simp] theorem grantEarly_gt (r : Request) (s : State) : (grantEarly r s).gt = s.gt := rfl
@[simp] theorem grantEarly_olu (r : Request) (s : State) : (grantEarly r s).olu = s.olu := rfl
@[simp] theorem grantEarly_cp (r : Request) (s : State) : (grantEarly r s).cp = s.cp := rfl
@[simp] theorem grantEarly_cl (r : Request) (s : State) : (grantEarly r s).cl = s.cl := rfl
@[simp] theorem grantEarly_resetHeld (r : Request) (s : State) : (grantEarly r s).resetHeld = s.resetHeld := rfl
@[simp] theorem grantEarly_supplyOut (r : Request) (s : State) : (grantEarly r s).supplyOut = s.supplyOut := rfl
@[simp] theorem grantEarly_computations (r : Request) (s : State) :
    (grantEarly r s).computations = s.computations := rfl
@[simp] theorem grantEarly_pending (r : Request) (s : State) : (grantEarly r s).pending = s.pending := rfl

/-! ### expireRequest -/

@[simp] theorem expireRequest_lc (k : Num8) (s : State) : (expireRequest k s).lc = s.lc := rfl
@[simp] theorem expireRequest_nt (k : Num8) (s : State) : (expireRequest k s).nt = s.nt := rfl
@[simp] theorem expireRequest_ct (k : Num8) (s : State) : (expireRequest k s).ct = s.ct := rfl
@[simp] theorem expireRequest_di (k : Num8) (s : State) : (expireRequest k s).di = s.di := rfl
@[simp] theorem expireRequest_cau (k : Num8) (s : State) : (expireRequest k s).cau = s.cau := rfl
@[simp] theorem expireRequest_mc (k : Num8) (s : State) : (expireRequest k s).mc = s.mc := rfl
@[simp] theorem expireRequest_gt (k : Num8) (s : State) : (expireRequest k s).gt = s.gt := rfl
@[simp] theorem expireRequest_olu (k : Num8) (s : State) : (expireRequest k s).olu = s.olu := rfl
@[simp] theorem expireRequest_cl (k : Num8) (s : State) : (expireRequest k s).cl = s.cl := rfl
@[simp] theorem expireRequest_resetHeld (k : Num8) (s : State) : (expireRequest k s).resetHeld = s.resetHeld := rfl
@[simp] theorem expireRequest_supplyOut (k : Num8) (s : State) : (expireRequest k s).supplyOut = s.supplyOut := rfl
@[simp] theorem expireRequest_computations (k : Num8) (s : State) :
    (expireRequest k s).computations = s.computations := rfl
@[simp] theorem expireRequest_pending (k : Num8) (s : State) : (expireRequest k s).pending = s.pending := rfl

/-! ### setMode -/

@[simp] theorem setMode_lc (m : Mode) (s : State) : (setMode m s).lc = s.lc := rfl
@[simp] theorem setMode_nt (m : Mode) (s : State) : (setMode m s).nt = s.nt := rfl
@[simp] theorem setMode_ct (m : Mode) (s : State) : (setMode m s).ct = s.ct := rfl
@[simp] theorem setMode_di (m : Mode) (s : State) : (setMode m s).di = s.di := rfl
@[simp] theorem setMode_cau (m : Mode) (s : State) : (setMode m s).cau = s.cau := rfl
@[simp] theorem setMode_gt (m : Mode) (s : State) : (setMode m s).gt = s.gt := rfl
@[simp] theorem setMode_pa (m : Mode) (s : State) : (setMode m s).pa = s.pa := rfl
@[simp] theorem setMode_olu (m : Mode) (s : State) : (setMode m s).olu = s.olu := rfl
@[simp] theorem setMode_cp (m : Mode) (s : State) : (setMode m s).cp = s.cp := rfl
@[simp] theorem setMode_cl (m : Mode) (s : State) : (setMode m s).cl = s.cl := rfl
@[simp] theorem setMode_counters (m : Mode) (s : State) : (setMode m s).counters = s.counters := rfl
@[simp] theorem setMode_resetHeld (m : Mode) (s : State) : (setMode m s).resetHeld = s.resetHeld := rfl
@[simp] theorem setMode_supplyOut (m : Mode) (s : State) : (setMode m s).supplyOut = s.supplyOut := rfl
@[simp] theorem setMode_computations (m : Mode) (s : State) : (setMode m s).computations = s.computations := rfl
@[simp] theorem setMode_pending (m : Mode) (s : State) : (setMode m s).pending = s.pending := rfl

/-! ### refuseEntry -/

@[simp] theorem refuseEntry_lc (s : State) : (refuseEntry s).lc = s.lc := rfl
@[simp] theorem refuseEntry_nt (s : State) : (refuseEntry s).nt = s.nt := rfl
@[simp] theorem refuseEntry_ct (s : State) : (refuseEntry s).ct = s.ct := rfl
@[simp] theorem refuseEntry_di (s : State) : (refuseEntry s).di = s.di := rfl
@[simp] theorem refuseEntry_cau (s : State) : (refuseEntry s).cau = s.cau := rfl
@[simp] theorem refuseEntry_mc (s : State) : (refuseEntry s).mc = s.mc := rfl
@[simp] theorem refuseEntry_gt (s : State) : (refuseEntry s).gt = s.gt := rfl
@[simp] theorem refuseEntry_pa (s : State) : (refuseEntry s).pa = s.pa := rfl
@[simp] theorem refuseEntry_olu (s : State) : (refuseEntry s).olu = s.olu := rfl
@[simp] theorem refuseEntry_cl (s : State) : (refuseEntry s).cl = s.cl := rfl
@[simp] theorem refuseEntry_resetHeld (s : State) : (refuseEntry s).resetHeld = s.resetHeld := rfl
@[simp] theorem refuseEntry_supplyOut (s : State) : (refuseEntry s).supplyOut = s.supplyOut := rfl
@[simp] theorem refuseEntry_computations (s : State) : (refuseEntry s).computations = s.computations := rfl
@[simp] theorem refuseEntry_pending (s : State) : (refuseEntry s).pending = s.pending := rfl

/-! ### discardFrame -/

@[simp] theorem discardFrame_nt (s : State) : (discardFrame s).nt = s.nt := rfl
@[simp] theorem discardFrame_ct (s : State) : (discardFrame s).ct = s.ct := rfl
@[simp] theorem discardFrame_di (s : State) : (discardFrame s).di = s.di := rfl
@[simp] theorem discardFrame_cau (s : State) : (discardFrame s).cau = s.cau := rfl
@[simp] theorem discardFrame_mc (s : State) : (discardFrame s).mc = s.mc := rfl
@[simp] theorem discardFrame_gt (s : State) : (discardFrame s).gt = s.gt := rfl
@[simp] theorem discardFrame_pa (s : State) : (discardFrame s).pa = s.pa := rfl
@[simp] theorem discardFrame_olu (s : State) : (discardFrame s).olu = s.olu := rfl
@[simp] theorem discardFrame_cl (s : State) : (discardFrame s).cl = s.cl := rfl
@[simp] theorem discardFrame_resetHeld (s : State) : (discardFrame s).resetHeld = s.resetHeld := rfl
@[simp] theorem discardFrame_supplyOut (s : State) : (discardFrame s).supplyOut = s.supplyOut := rfl
@[simp] theorem discardFrame_computations (s : State) : (discardFrame s).computations = s.computations := rfl
@[simp] theorem discardFrame_pending (s : State) : (discardFrame s).pending = s.pending := rfl

/-! ### receivedMark -/

@[simp] theorem receivedMark_nt (s : State) : (receivedMark s).nt = s.nt := rfl
@[simp] theorem receivedMark_ct (s : State) : (receivedMark s).ct = s.ct := rfl
@[simp] theorem receivedMark_di (s : State) : (receivedMark s).di = s.di := rfl
@[simp] theorem receivedMark_cau (s : State) : (receivedMark s).cau = s.cau := rfl
@[simp] theorem receivedMark_mc (s : State) : (receivedMark s).mc = s.mc := rfl
@[simp] theorem receivedMark_gt (s : State) : (receivedMark s).gt = s.gt := rfl
@[simp] theorem receivedMark_pa (s : State) : (receivedMark s).pa = s.pa := rfl
@[simp] theorem receivedMark_olu (s : State) : (receivedMark s).olu = s.olu := rfl
@[simp] theorem receivedMark_cp (s : State) : (receivedMark s).cp = s.cp := rfl
@[simp] theorem receivedMark_cl (s : State) : (receivedMark s).cl = s.cl := rfl
@[simp] theorem receivedMark_counters (s : State) : (receivedMark s).counters = s.counters := rfl
@[simp] theorem receivedMark_resetHeld (s : State) : (receivedMark s).resetHeld = s.resetHeld := rfl
@[simp] theorem receivedMark_supplyOut (s : State) : (receivedMark s).supplyOut = s.supplyOut := rfl
@[simp] theorem receivedMark_computations (s : State) : (receivedMark s).computations = s.computations := rfl
@[simp] theorem receivedMark_pending (s : State) : (receivedMark s).pending = s.pending := rfl

/-! ### countAged -/

@[simp] theorem countAged_lc (s : State) : (countAged s).lc = s.lc := rfl
@[simp] theorem countAged_nt (s : State) : (countAged s).nt = s.nt := rfl
@[simp] theorem countAged_ct (s : State) : (countAged s).ct = s.ct := rfl
@[simp] theorem countAged_di (s : State) : (countAged s).di = s.di := rfl
@[simp] theorem countAged_cau (s : State) : (countAged s).cau = s.cau := rfl
@[simp] theorem countAged_mc (s : State) : (countAged s).mc = s.mc := rfl
@[simp] theorem countAged_gt (s : State) : (countAged s).gt = s.gt := rfl
@[simp] theorem countAged_pa (s : State) : (countAged s).pa = s.pa := rfl
@[simp] theorem countAged_olu (s : State) : (countAged s).olu = s.olu := rfl
@[simp] theorem countAged_cl (s : State) : (countAged s).cl = s.cl := rfl
@[simp] theorem countAged_resetHeld (s : State) : (countAged s).resetHeld = s.resetHeld := rfl
@[simp] theorem countAged_supplyOut (s : State) : (countAged s).supplyOut = s.supplyOut := rfl
@[simp] theorem countAged_computations (s : State) : (countAged s).computations = s.computations := rfl
@[simp] theorem countAged_pending (s : State) : (countAged s).pending = s.pending := rfl

/-! ### startComputation -/

@[simp] theorem startComputation_lc (c : Configuration) (p : Plan) (m : ChargeMode) (t : CT) (s : State) :
    (startComputation c p m t s).lc = s.lc := rfl
@[simp] theorem startComputation_nt (c : Configuration) (p : Plan) (m : ChargeMode) (t : CT) (s : State) :
    (startComputation c p m t s).nt = s.nt := rfl
@[simp] theorem startComputation_ct (c : Configuration) (p : Plan) (m : ChargeMode) (t : CT) (s : State) :
    (startComputation c p m t s).ct = s.ct := rfl
@[simp] theorem startComputation_di (c : Configuration) (p : Plan) (m : ChargeMode) (t : CT) (s : State) :
    (startComputation c p m t s).di = s.di := rfl
@[simp] theorem startComputation_gt (c : Configuration) (p : Plan) (m : ChargeMode) (t : CT) (s : State) :
    (startComputation c p m t s).gt = s.gt := rfl
@[simp] theorem startComputation_pa (c : Configuration) (p : Plan) (m : ChargeMode) (t : CT) (s : State) :
    (startComputation c p m t s).pa = s.pa := rfl
@[simp] theorem startComputation_olu (c : Configuration) (p : Plan) (m : ChargeMode) (t : CT) (s : State) :
    (startComputation c p m t s).olu = s.olu := rfl
@[simp] theorem startComputation_cp (c : Configuration) (p : Plan) (m : ChargeMode) (t : CT) (s : State) :
    (startComputation c p m t s).cp = s.cp := rfl
@[simp] theorem startComputation_cl (c : Configuration) (p : Plan) (m : ChargeMode) (t : CT) (s : State) :
    (startComputation c p m t s).cl = s.cl := rfl
@[simp] theorem startComputation_counters (c : Configuration) (p : Plan) (m : ChargeMode) (t : CT) (s : State) :
    (startComputation c p m t s).counters = s.counters := rfl
@[simp] theorem startComputation_resetHeld (c : Configuration) (p : Plan) (m : ChargeMode) (t : CT) (s : State) :
    (startComputation c p m t s).resetHeld = s.resetHeld := rfl
@[simp] theorem startComputation_supplyOut (c : Configuration) (p : Plan) (m : ChargeMode) (t : CT) (s : State) :
    (startComputation c p m t s).supplyOut = s.supplyOut := rfl
@[simp] theorem startComputation_pending (c : Configuration) (p : Plan) (m : ChargeMode) (t : CT) (s : State) :
    (startComputation c p m t s).pending = s.pending := rfl

/-! ### abandoned -/

@[simp] theorem abandoned_snapshot (u : CAU) : (abandoned u).snapshot = none := rfl
@[simp] theorem abandoned_smoothed (u : CAU) : (abandoned u).smoothed = u.smoothed := rfl
@[simp] theorem abandoned_cycle (u : CAU) : (abandoned u).cycle = u.cycle := rfl
@[simp] theorem abandoned_triple (u : CAU) : (abandoned u).triple = u.triple := rfl
@[simp] theorem abandoned_lastError (u : CAU) : (abandoned u).lastError = u.lastError := rfl
@[simp] theorem abandoned_lastAdjustment (u : CAU) : (abandoned u).lastAdjustment = u.lastAdjustment := rfl

/-! ### enterPreempted -/

@[simp] theorem enterPreempted_lc (s : State) : (enterPreempted s).lc = s.lc := rfl
@[simp] theorem enterPreempted_nt (s : State) : (enterPreempted s).nt = s.nt := rfl
@[simp] theorem enterPreempted_ct (s : State) : (enterPreempted s).ct = s.ct := rfl
@[simp] theorem enterPreempted_di (s : State) : (enterPreempted s).di = s.di := rfl
@[simp] theorem enterPreempted_cau (s : State) : (enterPreempted s).cau = s.cau := rfl
@[simp] theorem enterPreempted_gt (s : State) : (enterPreempted s).gt = s.gt := rfl
@[simp] theorem enterPreempted_pa (s : State) : (enterPreempted s).pa = s.pa := rfl
@[simp] theorem enterPreempted_olu (s : State) : (enterPreempted s).olu = s.olu := rfl
@[simp] theorem enterPreempted_cl (s : State) : (enterPreempted s).cl = s.cl := rfl
@[simp] theorem enterPreempted_resetHeld (s : State) : (enterPreempted s).resetHeld = s.resetHeld := rfl
@[simp] theorem enterPreempted_supplyOut (s : State) : (enterPreempted s).supplyOut = s.supplyOut := rfl
@[simp] theorem enterPreempted_computations (s : State) : (enterPreempted s).computations = s.computations := rfl
@[simp] theorem enterPreempted_pending (s : State) : (enterPreempted s).pending = s.pending := rfl

/-! ### clearUnusedLines -/

@[simp] theorem clearUnusedLines_lc (c : Configuration) (p : Plan) (s : State) :
    (clearUnusedLines c p s).lc = s.lc := rfl
@[simp] theorem clearUnusedLines_nt (c : Configuration) (p : Plan) (s : State) :
    (clearUnusedLines c p s).nt = s.nt := rfl
@[simp] theorem clearUnusedLines_ct (c : Configuration) (p : Plan) (s : State) :
    (clearUnusedLines c p s).ct = s.ct := rfl
@[simp] theorem clearUnusedLines_di (c : Configuration) (p : Plan) (s : State) :
    (clearUnusedLines c p s).di = s.di := rfl
@[simp] theorem clearUnusedLines_cau (c : Configuration) (p : Plan) (s : State) :
    (clearUnusedLines c p s).cau = s.cau := rfl
@[simp] theorem clearUnusedLines_mc (c : Configuration) (p : Plan) (s : State) :
    (clearUnusedLines c p s).mc = s.mc := rfl
@[simp] theorem clearUnusedLines_gt (c : Configuration) (p : Plan) (s : State) :
    (clearUnusedLines c p s).gt = s.gt := rfl
@[simp] theorem clearUnusedLines_pa (c : Configuration) (p : Plan) (s : State) :
    (clearUnusedLines c p s).pa = s.pa := rfl
@[simp] theorem clearUnusedLines_cp (c : Configuration) (p : Plan) (s : State) :
    (clearUnusedLines c p s).cp = s.cp := rfl
@[simp] theorem clearUnusedLines_cl (c : Configuration) (p : Plan) (s : State) :
    (clearUnusedLines c p s).cl = s.cl := rfl
@[simp] theorem clearUnusedLines_counters (c : Configuration) (p : Plan) (s : State) :
    (clearUnusedLines c p s).counters = s.counters := rfl
@[simp] theorem clearUnusedLines_resetHeld (c : Configuration) (p : Plan) (s : State) :
    (clearUnusedLines c p s).resetHeld = s.resetHeld := rfl
@[simp] theorem clearUnusedLines_supplyOut (c : Configuration) (p : Plan) (s : State) :
    (clearUnusedLines c p s).supplyOut = s.supplyOut := rfl
@[simp] theorem clearUnusedLines_computations (c : Configuration) (p : Plan) (s : State) :
    (clearUnusedLines c p s).computations = s.computations := rfl
@[simp] theorem clearUnusedLines_pending (c : Configuration) (p : Plan) (s : State) :
    (clearUnusedLines c p s).pending = s.pending := rfl

/-! ### applyResults -/

@[simp] theorem applyResults_lc (n : Snapshot) (p : Plan) (r : Computed) (s : State) :
    (applyResults n p r s).lc = s.lc := rfl
@[simp] theorem applyResults_di (n : Snapshot) (p : Plan) (r : Computed) (s : State) :
    (applyResults n p r s).di = s.di := rfl
@[simp] theorem applyResults_gt (n : Snapshot) (p : Plan) (r : Computed) (s : State) :
    (applyResults n p r s).gt = s.gt := rfl
@[simp] theorem applyResults_pa (n : Snapshot) (p : Plan) (r : Computed) (s : State) :
    (applyResults n p r s).pa = s.pa := rfl
@[simp] theorem applyResults_olu (n : Snapshot) (p : Plan) (r : Computed) (s : State) :
    (applyResults n p r s).olu = s.olu := rfl
@[simp] theorem applyResults_cl (n : Snapshot) (p : Plan) (r : Computed) (s : State) :
    (applyResults n p r s).cl = s.cl := rfl
@[simp] theorem applyResults_counters (n : Snapshot) (p : Plan) (r : Computed) (s : State) :
    (applyResults n p r s).counters = s.counters := rfl
@[simp] theorem applyResults_resetHeld (n : Snapshot) (p : Plan) (r : Computed) (s : State) :
    (applyResults n p r s).resetHeld = s.resetHeld := rfl
@[simp] theorem applyResults_supplyOut (n : Snapshot) (p : Plan) (r : Computed) (s : State) :
    (applyResults n p r s).supplyOut = s.supplyOut := rfl
@[simp] theorem applyResults_computations (n : Snapshot) (p : Plan) (r : Computed) (s : State) :
    (applyResults n p r s).computations = s.computations := rfl
@[simp] theorem applyResults_pending (n : Snapshot) (p : Plan) (r : Computed) (s : State) :
    (applyResults n p r s).pending = s.pending := rfl

/-! ### resetBlocks -/

@[simp] theorem resetBlocks_resetHeld (f m : Word16) (n : Counters) (s : State) :
    (resetBlocks f m n s).resetHeld = s.resetHeld := rfl
@[simp] theorem resetBlocks_supplyOut (f m : Word16) (n : Counters) (s : State) :
    (resetBlocks f m n s).supplyOut = s.supplyOut := rfl
@[simp] theorem resetBlocks_computations (f m : Word16) (n : Counters) (s : State) :
    (resetBlocks f m n s).computations = s.computations := rfl
@[simp] theorem resetBlocks_pending (f m : Word16) (n : Counters) (s : State) :
    (resetBlocks f m n s).pending = s.pending := rfl

/-! ### respond -/

@[simp] theorem respond_lc (h : InHand) (b : List Byte) (s : State) : (respond h b s).lc = s.lc := rfl
@[simp] theorem respond_nt (h : InHand) (b : List Byte) (s : State) : (respond h b s).nt = s.nt := rfl
@[simp] theorem respond_ct (h : InHand) (b : List Byte) (s : State) : (respond h b s).ct = s.ct := rfl
@[simp] theorem respond_di (h : InHand) (b : List Byte) (s : State) : (respond h b s).di = s.di := rfl
@[simp] theorem respond_cau (h : InHand) (b : List Byte) (s : State) : (respond h b s).cau = s.cau := rfl
@[simp] theorem respond_mc (h : InHand) (b : List Byte) (s : State) : (respond h b s).mc = s.mc := rfl
@[simp] theorem respond_gt (h : InHand) (b : List Byte) (s : State) : (respond h b s).gt = s.gt := rfl
@[simp] theorem respond_pa (h : InHand) (b : List Byte) (s : State) : (respond h b s).pa = s.pa := rfl
@[simp] theorem respond_olu (h : InHand) (b : List Byte) (s : State) : (respond h b s).olu = s.olu := rfl
@[simp] theorem respond_cl (h : InHand) (b : List Byte) (s : State) : (respond h b s).cl = s.cl := rfl
@[simp] theorem respond_counters (h : InHand) (b : List Byte) (s : State) : (respond h b s).counters = s.counters := rfl
@[simp] theorem respond_resetHeld (h : InHand) (b : List Byte) (s : State) :
    (respond h b s).resetHeld = s.resetHeld := rfl
@[simp] theorem respond_supplyOut (h : InHand) (b : List Byte) (s : State) :
    (respond h b s).supplyOut = s.supplyOut := rfl
@[simp] theorem respond_computations (h : InHand) (b : List Byte) (s : State) :
    (respond h b s).computations = s.computations := rfl
@[simp] theorem respond_pending (h : InHand) (b : List Byte) (s : State) : (respond h b s).pending = s.pending := rfl

/-! ### setPort -/

@[simp] theorem setPort_lc (r : PortReceiver) (s : State) : (setPort r s).lc = s.lc := rfl
@[simp] theorem setPort_nt (r : PortReceiver) (s : State) : (setPort r s).nt = s.nt := rfl
@[simp] theorem setPort_ct (r : PortReceiver) (s : State) : (setPort r s).ct = s.ct := rfl
@[simp] theorem setPort_di (r : PortReceiver) (s : State) : (setPort r s).di = s.di := rfl
@[simp] theorem setPort_cau (r : PortReceiver) (s : State) : (setPort r s).cau = s.cau := rfl
@[simp] theorem setPort_mc (r : PortReceiver) (s : State) : (setPort r s).mc = s.mc := rfl
@[simp] theorem setPort_gt (r : PortReceiver) (s : State) : (setPort r s).gt = s.gt := rfl
@[simp] theorem setPort_pa (r : PortReceiver) (s : State) : (setPort r s).pa = s.pa := rfl
@[simp] theorem setPort_olu (r : PortReceiver) (s : State) : (setPort r s).olu = s.olu := rfl
@[simp] theorem setPort_cl (r : PortReceiver) (s : State) : (setPort r s).cl = s.cl := rfl
@[simp] theorem setPort_counters (r : PortReceiver) (s : State) : (setPort r s).counters = s.counters := rfl
@[simp] theorem setPort_resetHeld (r : PortReceiver) (s : State) : (setPort r s).resetHeld = s.resetHeld := rfl
@[simp] theorem setPort_supplyOut (r : PortReceiver) (s : State) : (setPort r s).supplyOut = s.supplyOut := rfl
@[simp] theorem setPort_computations (r : PortReceiver) (s : State) : (setPort r s).computations = s.computations := rfl
@[simp] theorem setPort_pending (r : PortReceiver) (s : State) : (setPort r s).pending = s.pending := rfl

/-! ### setManual -/

@[simp] theorem setManual_lc (k : Num8) (v : Option Bool) (s : State) : (setManual k v s).lc = s.lc := rfl
@[simp] theorem setManual_nt (k : Num8) (v : Option Bool) (s : State) : (setManual k v s).nt = s.nt := rfl
@[simp] theorem setManual_ct (k : Num8) (v : Option Bool) (s : State) : (setManual k v s).ct = s.ct := rfl
@[simp] theorem setManual_di (k : Num8) (v : Option Bool) (s : State) : (setManual k v s).di = s.di := rfl
@[simp] theorem setManual_cau (k : Num8) (v : Option Bool) (s : State) : (setManual k v s).cau = s.cau := rfl
@[simp] theorem setManual_mc (k : Num8) (v : Option Bool) (s : State) : (setManual k v s).mc = s.mc := rfl
@[simp] theorem setManual_gt (k : Num8) (v : Option Bool) (s : State) : (setManual k v s).gt = s.gt := rfl
@[simp] theorem setManual_pa (k : Num8) (v : Option Bool) (s : State) : (setManual k v s).pa = s.pa := rfl
@[simp] theorem setManual_cp (k : Num8) (v : Option Bool) (s : State) : (setManual k v s).cp = s.cp := rfl
@[simp] theorem setManual_cl (k : Num8) (v : Option Bool) (s : State) : (setManual k v s).cl = s.cl := rfl
@[simp] theorem setManual_counters (k : Num8) (v : Option Bool) (s : State) :
    (setManual k v s).counters = s.counters := rfl
@[simp] theorem setManual_resetHeld (k : Num8) (v : Option Bool) (s : State) :
    (setManual k v s).resetHeld = s.resetHeld := rfl
@[simp] theorem setManual_supplyOut (k : Num8) (v : Option Bool) (s : State) :
    (setManual k v s).supplyOut = s.supplyOut := rfl
@[simp] theorem setManual_computations (k : Num8) (v : Option Bool) (s : State) :
    (setManual k v s).computations = s.computations := rfl
@[simp] theorem setManual_pending (k : Num8) (v : Option Bool) (s : State) :
    (setManual k v s).pending = s.pending := rfl

/-! ### setPassThrough -/

@[simp] theorem setPassThrough_lc (k : Num8) (v : Bool) (s : State) : (setPassThrough k v s).lc = s.lc := rfl
@[simp] theorem setPassThrough_nt (k : Num8) (v : Bool) (s : State) : (setPassThrough k v s).nt = s.nt := rfl
@[simp] theorem setPassThrough_ct (k : Num8) (v : Bool) (s : State) : (setPassThrough k v s).ct = s.ct := rfl
@[simp] theorem setPassThrough_di (k : Num8) (v : Bool) (s : State) : (setPassThrough k v s).di = s.di := rfl
@[simp] theorem setPassThrough_cau (k : Num8) (v : Bool) (s : State) : (setPassThrough k v s).cau = s.cau := rfl
@[simp] theorem setPassThrough_mc (k : Num8) (v : Bool) (s : State) : (setPassThrough k v s).mc = s.mc := rfl
@[simp] theorem setPassThrough_gt (k : Num8) (v : Bool) (s : State) : (setPassThrough k v s).gt = s.gt := rfl
@[simp] theorem setPassThrough_pa (k : Num8) (v : Bool) (s : State) : (setPassThrough k v s).pa = s.pa := rfl
@[simp] theorem setPassThrough_cp (k : Num8) (v : Bool) (s : State) : (setPassThrough k v s).cp = s.cp := rfl
@[simp] theorem setPassThrough_cl (k : Num8) (v : Bool) (s : State) : (setPassThrough k v s).cl = s.cl := rfl
@[simp] theorem setPassThrough_counters (k : Num8) (v : Bool) (s : State) :
    (setPassThrough k v s).counters = s.counters := rfl
@[simp] theorem setPassThrough_resetHeld (k : Num8) (v : Bool) (s : State) :
    (setPassThrough k v s).resetHeld = s.resetHeld := rfl
@[simp] theorem setPassThrough_supplyOut (k : Num8) (v : Bool) (s : State) :
    (setPassThrough k v s).supplyOut = s.supplyOut := rfl
@[simp] theorem setPassThrough_computations (k : Num8) (v : Bool) (s : State) :
    (setPassThrough k v s).computations = s.computations := rfl
@[simp] theorem setPassThrough_pending (k : Num8) (v : Bool) (s : State) :
    (setPassThrough k v s).pending = s.pending := rfl

/-! ### setRaw -/

@[simp] theorem setRaw_lc (k : Num8) (v : Bool) (s : State) : (setRaw k v s).lc = s.lc := rfl
@[simp] theorem setRaw_nt (k : Num8) (v : Bool) (s : State) : (setRaw k v s).nt = s.nt := rfl
@[simp] theorem setRaw_ct (k : Num8) (v : Bool) (s : State) : (setRaw k v s).ct = s.ct := rfl
@[simp] theorem setRaw_cau (k : Num8) (v : Bool) (s : State) : (setRaw k v s).cau = s.cau := rfl
@[simp] theorem setRaw_mc (k : Num8) (v : Bool) (s : State) : (setRaw k v s).mc = s.mc := rfl
@[simp] theorem setRaw_gt (k : Num8) (v : Bool) (s : State) : (setRaw k v s).gt = s.gt := rfl
@[simp] theorem setRaw_pa (k : Num8) (v : Bool) (s : State) : (setRaw k v s).pa = s.pa := rfl
@[simp] theorem setRaw_olu (k : Num8) (v : Bool) (s : State) : (setRaw k v s).olu = s.olu := rfl
@[simp] theorem setRaw_cp (k : Num8) (v : Bool) (s : State) : (setRaw k v s).cp = s.cp := rfl
@[simp] theorem setRaw_cl (k : Num8) (v : Bool) (s : State) : (setRaw k v s).cl = s.cl := rfl
@[simp] theorem setRaw_counters (k : Num8) (v : Bool) (s : State) : (setRaw k v s).counters = s.counters := rfl
@[simp] theorem setRaw_resetHeld (k : Num8) (v : Bool) (s : State) : (setRaw k v s).resetHeld = s.resetHeld := rfl
@[simp] theorem setRaw_supplyOut (k : Num8) (v : Bool) (s : State) : (setRaw k v s).supplyOut = s.supplyOut := rfl
@[simp] theorem setRaw_computations (k : Num8) (v : Bool) (s : State) :
    (setRaw k v s).computations = s.computations := rfl
@[simp] theorem setRaw_pending (k : Num8) (v : Bool) (s : State) : (setRaw k v s).pending = s.pending := rfl

/-! ### startBit -/

@[simp] theorem startBit_nt (s : State) : (startBit s).nt = s.nt := rfl
@[simp] theorem startBit_ct (s : State) : (startBit s).ct = s.ct := rfl
@[simp] theorem startBit_di (s : State) : (startBit s).di = s.di := rfl
@[simp] theorem startBit_cau (s : State) : (startBit s).cau = s.cau := rfl
@[simp] theorem startBit_mc (s : State) : (startBit s).mc = s.mc := rfl
@[simp] theorem startBit_gt (s : State) : (startBit s).gt = s.gt := rfl
@[simp] theorem startBit_pa (s : State) : (startBit s).pa = s.pa := rfl
@[simp] theorem startBit_olu (s : State) : (startBit s).olu = s.olu := rfl
@[simp] theorem startBit_cp (s : State) : (startBit s).cp = s.cp := rfl
@[simp] theorem startBit_cl (s : State) : (startBit s).cl = s.cl := rfl
@[simp] theorem startBit_counters (s : State) : (startBit s).counters = s.counters := rfl
@[simp] theorem startBit_resetHeld (s : State) : (startBit s).resetHeld = s.resetHeld := rfl
@[simp] theorem startBit_supplyOut (s : State) : (startBit s).supplyOut = s.supplyOut := rfl
@[simp] theorem startBit_computations (s : State) : (startBit s).computations = s.computations := rfl
@[simp] theorem startBit_pending (s : State) : (startBit s).pending = s.pending := rfl

/-! ### loadBad -/

@[simp] theorem loadBad_lc (i : Nat) (s : State) : (loadBad i s).lc = s.lc := rfl
@[simp] theorem loadBad_nt (i : Nat) (s : State) : (loadBad i s).nt = s.nt := rfl
@[simp] theorem loadBad_ct (i : Nat) (s : State) : (loadBad i s).ct = s.ct := rfl
@[simp] theorem loadBad_di (i : Nat) (s : State) : (loadBad i s).di = s.di := rfl
@[simp] theorem loadBad_cau (i : Nat) (s : State) : (loadBad i s).cau = s.cau := rfl
@[simp] theorem loadBad_mc (i : Nat) (s : State) : (loadBad i s).mc = s.mc := rfl
@[simp] theorem loadBad_gt (i : Nat) (s : State) : (loadBad i s).gt = s.gt := rfl
@[simp] theorem loadBad_pa (i : Nat) (s : State) : (loadBad i s).pa = s.pa := rfl
@[simp] theorem loadBad_olu (i : Nat) (s : State) : (loadBad i s).olu = s.olu := rfl
@[simp] theorem loadBad_counters (i : Nat) (s : State) : (loadBad i s).counters = s.counters := rfl
@[simp] theorem loadBad_resetHeld (i : Nat) (s : State) : (loadBad i s).resetHeld = s.resetHeld := rfl
@[simp] theorem loadBad_supplyOut (i : Nat) (s : State) : (loadBad i s).supplyOut = s.supplyOut := rfl
@[simp] theorem loadBad_computations (i : Nat) (s : State) : (loadBad i s).computations = s.computations := rfl
@[simp] theorem loadBad_pending (i : Nat) (s : State) : (loadBad i s).pending = s.pending := rfl

/-! ### takeConfiguration -/

@[simp] theorem takeConfiguration_nt (c : Configuration) (p : Plan) (s : State) :
    (takeConfiguration c p s).nt = s.nt := rfl
@[simp] theorem takeConfiguration_gt (c : Configuration) (p : Plan) (s : State) :
    (takeConfiguration c p s).gt = s.gt := rfl
@[simp] theorem takeConfiguration_pa (c : Configuration) (p : Plan) (s : State) :
    (takeConfiguration c p s).pa = s.pa := rfl
@[simp] theorem takeConfiguration_olu (c : Configuration) (p : Plan) (s : State) :
    (takeConfiguration c p s).olu = s.olu := rfl
@[simp] theorem takeConfiguration_cp (c : Configuration) (p : Plan) (s : State) :
    (takeConfiguration c p s).cp = s.cp := rfl
@[simp] theorem takeConfiguration_counters (c : Configuration) (p : Plan) (s : State) :
    (takeConfiguration c p s).counters = s.counters := rfl
@[simp] theorem takeConfiguration_resetHeld (c : Configuration) (p : Plan) (s : State) :
    (takeConfiguration c p s).resetHeld = s.resetHeld := rfl
@[simp] theorem takeConfiguration_supplyOut (c : Configuration) (p : Plan) (s : State) :
    (takeConfiguration c p s).supplyOut = s.supplyOut := rfl
@[simp] theorem takeConfiguration_computations (c : Configuration) (p : Plan) (s : State) :
    (takeConfiguration c p s).computations = s.computations := rfl
@[simp] theorem takeConfiguration_pending (c : Configuration) (p : Plan) (s : State) :
    (takeConfiguration c p s).pending = s.pending := rfl

/-! ### What the updates set -/

@[simp] theorem setFlag_cp (f : Flag) (s : State) :
    (setFlag f s).cp = { s.cp with flags := s.cp.flags ||| f.word } := rfl

@[simp] theorem count_counters (c : Counter) (s : State) : (count c s).counters = s.counters.bump c := rfl

@[simp] theorem setReceiver_lc (r : Receiver) (s : State) : (setReceiver r s).lc = { s.lc with receiver := r } := rfl

@[simp] theorem setLine_di (k : Num8) (l : DetectorLine) (s : State) :
    (setLine k l s).di = { s.di with lines := s.di.lines.set k l } := rfl

@[simp] theorem endGreen_di (d : Direction) (s : State) :
    (endGreen d s).di = { s.di with green := s.di.green.set d false } := rfl

@[simp] theorem setGate_gt (d : Direction) (g : Gate) (s : State) : (setGate d g s).gt = s.gt.set d g := rfl

@[simp] theorem setEntries_nt (e : List Entry) (s : State) : (setEntries e s).nt = { s.nt with entries := e } := rfl

@[simp] theorem setMode_mc (m : Mode) (s : State) : (setMode m s).mc = { s.mc with mode := m } := rfl

@[simp] theorem setPort_cp (r : PortReceiver) (s : State) : (setPort r s).cp = { s.cp with receiver := r } := rfl

@[simp] theorem respond_cp (h : InHand) (b : List Byte) (s : State) :
    (respond h b s).cp = { s.cp with inHand := some h, response := b } := rfl

@[simp] theorem setManual_olu (k : Num8) (v : Option Bool) (s : State) :
    (setManual k v s).olu = s.olu.set k { s.olu.get k with manual := v } := rfl

@[simp] theorem setPassThrough_olu (k : Num8) (v : Bool) (s : State) :
    (setPassThrough k v s).olu = s.olu.set k { s.olu.get k with passThrough := v } := rfl

@[simp] theorem setLines_get (t : Num8 → Bool) (s : State) (k : Num8) :
    (setLines t s).olu.get k = if t k then { s.olu.get k with drive := true } else s.olu.get k := by
  simp [setLines]

@[simp] theorem clearLines_get (s : State) (k : Num8) :
    (clearLines s).olu.get k = { s.olu.get k with drive := false } := by simp [clearLines]

/-! ### Reading through updates -/

theorem config_eq {s t : State} (h : t.cl = s.cl) : t.config = s.config := by simp [State.config, h]

theorem setup_eq {s t : State} (h : t.cl = s.cl) (hp : t.mc.plan = s.mc.plan) : t.setup = s.setup := by
  simp [State.setup, State.planInForce, State.config, h, hp]

theorem powered_eq {s t : State} (h : t.resetHeld = s.resetHeld) (hs : t.supplyOut = s.supplyOut) :
    t.powered = s.powered := by simp [State.powered, h, hs]

/-- A unit with a configuration and a plan in force has that configuration, that plan number and that plan. -/
theorem setup_some {s : State} {c : Configuration} {p : Plan} (h : s.setup = some (c, p)) :
    s.cl = .good c ∧ s.config = some c ∧ s.planInForce = some p
      ∧ ∃ n, s.mc.plan = some n ∧ c.plans.get n = some p := by
  simp only [State.setup, State.planInForce, State.config] at h ⊢
  cases hc : s.cl with
  | loading => simp [hc] at h
  | bad i => simp [hc] at h
  | good d =>
    cases hp : s.mc.plan with
    | none => simp [hc, hp] at h
    | some n =>
      simp only [hc, hp] at h ⊢
      cases hq : d.plans.get n with
      | none => simp [hq] at h
      | some q => simp [hq] at h; obtain ⟨rfl, rfl⟩ := h; simp [hq]

/-- On a working unit a meaning is its operation, and on another it is nothing. -/
theorem onUnit_powered {f : State → State} {s : State} (h : s.powered = true) : onUnit f s = .next (f s) := by
  simp [onUnit, h]

theorem onUnit_unpowered {f : State → State} {s : State} (h : s.powered = false) : onUnit f s = .next s := by
  simp [onUnit, h]

end Sys2Proof.Machine
end

