-- ==== Sys2Proof/Laws/Frames.lean ====
section
/-! SUPPORT. What each shared operation leaves alone: for every operation that reaches across blocks, one lemma per field of
State it does not change. -/

namespace Sys2Proof.Machine

/-- A field that every turn of a fold leaves alone is left alone by the fold. -/
theorem foldl_keeps {α β : Type} (g : State → β) (f : State → α → State) (h : ∀ s a, g (f s a) = g s) (l : List α)
    (s : State) : g (l.foldl f s) = g s := by
  induction l generalizing s with
  | nil => rfl
  | cons a l ih => rw [List.foldl_cons, ih, h]

/-! ### requestBeacon -/

@[simp] theorem requestBeacon_nt (s : State) : (requestBeacon s).nt = s.nt := by
  simp only [requestBeacon]; repeat' split
  all_goals simp
@[simp] theorem requestBeacon_ct (s : State) : (requestBeacon s).ct = s.ct := by
  simp only [requestBeacon]; repeat' split
  all_goals simp
@[simp] theorem requestBeacon_di (s : State) : (requestBeacon s).di = s.di := by
  simp only [requestBeacon]; repeat' split
  all_goals simp
@[simp] theorem requestBeacon_cau (s : State) : (requestBeacon s).cau = s.cau := by
  simp only [requestBeacon]; repeat' split
  all_goals simp
@[simp] theorem requestBeacon_mc (s : State) : (requestBeacon s).mc = s.mc := by
  simp only [requestBeacon]; repeat' split
  all_goals simp
@[simp] theorem requestBeacon_gt (s : State) : (requestBeacon s).gt = s.gt := by
  simp only [requestBeacon]; repeat' split
  all_goals simp
@[simp] theorem requestBeacon_pa (s : State) : (requestBeacon s).pa = s.pa := by
  simp only [requestBeacon]; repeat' split
  all_goals simp
@[simp] theorem requestBeacon_olu (s : State) : (requestBeacon s).olu = s.olu := by
  simp only [requestBeacon]; repeat' split
  all_goals simp
@[simp] theorem requestBeacon_cp (s : State) : (requestBeacon s).cp = s.cp := by
  simp only [requestBeacon]; repeat' split
  all_goals simp
@[simp] theorem requestBeacon_cl (s : State) : (requestBeacon s).cl = s.cl := by
  simp only [requestBeacon]; repeat' split
  all_goals simp
@[simp] theorem requestBeacon_counters (s : State) : (requestBeacon s).counters = s.counters := by
  simp only [requestBeacon]; repeat' split
  all_goals simp
@[simp] theorem requestBeacon_resetHeld (s : State) : (requestBeacon s).resetHeld = s.resetHeld := by
  simp only [requestBeacon]; repeat' split
  all_goals simp
@[simp] theorem requestBeacon_supplyOut (s : State) : (requestBeacon s).supplyOut = s.supplyOut := by
  simp only [requestBeacon]; repeat' split
  all_goals simp
@[simp] theorem requestBeacon_computations (s : State) : (requestBeacon s).computations = s.computations := by
  simp only [requestBeacon]; repeat' split
  all_goals simp
@[simp] theorem requestBeacon_pending (s : State) : (requestBeacon s).pending = s.pending := by
  simp only [requestBeacon]; repeat' split
  all_goals simp

/-! ### requestStorage -/

@[simp] theorem requestStorage_nt (s : State) : (requestStorage s).nt = s.nt := by
  simp only [requestStorage]; repeat' split
  all_goals simp
@[simp] theorem requestStorage_ct (s : State) : (requestStorage s).ct = s.ct := by
  simp only [requestStorage]; repeat' split
  all_goals simp
@[simp] theorem requestStorage_di (s : State) : (requestStorage s).di = s.di := by
  simp only [requestStorage]; repeat' split
  all_goals simp
@[simp] theorem requestStorage_cau (s : State) : (requestStorage s).cau = s.cau := by
  simp only [requestStorage]; repeat' split
  all_goals simp
@[simp] theorem requestStorage_mc (s : State) : (requestStorage s).mc = s.mc := by
  simp only [requestStorage]; repeat' split
  all_goals simp
@[simp] theorem requestStorage_gt (s : State) : (requestStorage s).gt = s.gt := by
  simp only [requestStorage]; repeat' split
  all_goals simp
@[simp] theorem requestStorage_pa (s : State) : (requestStorage s).pa = s.pa := by
  simp only [requestStorage]; repeat' split
  all_goals simp
@[simp] theorem requestStorage_olu (s : State) : (requestStorage s).olu = s.olu := by
  simp only [requestStorage]; repeat' split
  all_goals simp
@[simp] theorem requestStorage_cp (s : State) : (requestStorage s).cp = s.cp := by
  simp only [requestStorage]; repeat' split
  all_goals simp
@[simp] theorem requestStorage_cl (s : State) : (requestStorage s).cl = s.cl := by
  simp only [requestStorage]; repeat' split
  all_goals simp
@[simp] theorem requestStorage_counters (s : State) : (requestStorage s).counters = s.counters := by
  simp only [requestStorage]; repeat' split
  all_goals simp
@[simp] theorem requestStorage_resetHeld (s : State) : (requestStorage s).resetHeld = s.resetHeld := by
  simp only [requestStorage]; repeat' split
  all_goals simp
@[simp] theorem requestStorage_supplyOut (s : State) : (requestStorage s).supplyOut = s.supplyOut := by
  simp only [requestStorage]; repeat' split
  all_goals simp
@[simp] theorem requestStorage_computations (s : State) : (requestStorage s).computations = s.computations := by
  simp only [requestStorage]; repeat' split
  all_goals simp
@[simp] theorem requestStorage_pending (s : State) : (requestStorage s).pending = s.pending := by
  simp only [requestStorage]; repeat' split
  all_goals simp

/-! ### requestDepart -/

@[simp] theorem requestDepart_nt (r : DepartReason) (s : State) : (requestDepart r s).nt = s.nt := by simp [requestDepart]
@[simp] theorem requestDepart_ct (r : DepartReason) (s : State) : (requestDepart r s).ct = s.ct := by simp [requestDepart]
@[simp] theorem requestDepart_di (r : DepartReason) (s : State) : (requestDepart r s).di = s.di := by simp [requestDepart]
@[simp] theorem requestDepart_cau (r : DepartReason) (s : State) : (requestDepart r s).cau = s.cau := by simp [requestDepart]
@[simp] theorem requestDepart_mc (r : DepartReason) (s : State) : (requestDepart r s).mc = s.mc := by simp [requestDepart]
@[simp] theorem requestDepart_gt (r : DepartReason) (s : State) : (requestDepart r s).gt = s.gt := by simp [requestDepart]
@[simp] theorem requestDepart_pa (r : DepartReason) (s : State) : (requestDepart r s).pa = s.pa := by simp [requestDepart]
@[simp] theorem requestDepart_olu (r : DepartReason) (s : State) : (requestDepart r s).olu = s.olu := by simp [requestDepart]
@[simp] theorem requestDepart_cp (r : DepartReason) (s : State) : (requestDepart r s).cp = s.cp := by simp [requestDepart]
@[simp] theorem requestDepart_cl (r : DepartReason) (s : State) : (requestDepart r s).cl = s.cl := by simp [requestDepart]
@[simp] theorem requestDepart_counters (r : DepartReason) (s : State) : (requestDepart r s).counters = s.counters := by simp [requestDepart]
@[simp] theorem requestDepart_resetHeld (r : DepartReason) (s : State) :
    (requestDepart r s).resetHeld = s.resetHeld := by simp [requestDepart]
@[simp] theorem requestDepart_supplyOut (r : DepartReason) (s : State) :
    (requestDepart r s).supplyOut = s.supplyOut := by simp [requestDepart]
@[simp] theorem requestDepart_computations (r : DepartReason) (s : State) :
    (requestDepart r s).computations = s.computations := by simp [requestDepart]
@[simp] theorem requestDepart_pending (r : DepartReason) (s : State) : (requestDepart r s).pending = s.pending := by simp [requestDepart]

/-! ### setStorage -/

@[simp] theorem setStorage_nt (d : Direction) (v : Storage) (s : State) : (setStorage d v s).nt = s.nt := by
  simp only [setStorage]; repeat' split
  all_goals simp
@[simp] theorem setStorage_ct (d : Direction) (v : Storage) (s : State) : (setStorage d v s).ct = s.ct := by
  simp only [setStorage]; repeat' split
  all_goals simp
@[simp] theorem setStorage_cau (d : Direction) (v : Storage) (s : State) : (setStorage d v s).cau = s.cau := by
  simp only [setStorage]; repeat' split
  all_goals simp
@[simp] theorem setStorage_mc (d : Direction) (v : Storage) (s : State) : (setStorage d v s).mc = s.mc := by
  simp only [setStorage]; repeat' split
  all_goals simp
@[simp] theorem setStorage_gt (d : Direction) (v : Storage) (s : State) : (setStorage d v s).gt = s.gt := by
  simp only [setStorage]; repeat' split
  all_goals simp
@[simp] theorem setStorage_pa (d : Direction) (v : Storage) (s : State) : (setStorage d v s).pa = s.pa := by
  simp only [setStorage]; repeat' split
  all_goals simp
@[simp] theorem setStorage_olu (d : Direction) (v : Storage) (s : State) : (setStorage d v s).olu = s.olu := by
  simp only [setStorage]; repeat' split
  all_goals simp
@[simp] theorem setStorage_cp (d : Direction) (v : Storage) (s : State) : (setStorage d v s).cp = s.cp := by
  simp only [setStorage]; repeat' split
  all_goals simp
@[simp] theorem setStorage_cl (d : Direction) (v : Storage) (s : State) : (setStorage d v s).cl = s.cl := by
  simp only [setStorage]; repeat' split
  all_goals simp
@[simp] theorem setStorage_counters (d : Direction) (v : Storage) (s : State) :
    (setStorage d v s).counters = s.counters := by
  simp only [setStorage]; repeat' split
  all_goals simp
@[simp] theorem setStorage_resetHeld (d : Direction) (v : Storage) (s : State) :
    (setStorage d v s).resetHeld = s.resetHeld := by
  simp only [setStorage]; repeat' split
  all_goals simp
@[simp] theorem setStorage_supplyOut (d : Direction) (v : Storage) (s : State) :
    (setStorage d v s).supplyOut = s.supplyOut := by
  simp only [setStorage]; repeat' split
  all_goals simp
@[simp] theorem setStorage_computations (d : Direction) (v : Storage) (s : State) :
    (setStorage d v s).computations = s.computations := by
  simp only [setStorage]; repeat' split
  all_goals simp
@[simp] theorem setStorage_pending (d : Direction) (v : Storage) (s : State) :
    (setStorage d v s).pending = s.pending := by
  simp only [setStorage]; repeat' split
  all_goals simp

/-! ### enterFault -/

@[simp] theorem enterFault_nt (c : Configuration) (k : Num8) (v : FaultState) (s : State) :
    (enterFault c k v s).nt = s.nt := by
  simp only [enterFault]; repeat' split
  all_goals simp
@[simp] theorem enterFault_ct (c : Configuration) (k : Num8) (v : FaultState) (s : State) :
    (enterFault c k v s).ct = s.ct := by
  simp only [enterFault]; repeat' split
  all_goals simp
@[simp] theorem enterFault_cau (c : Configuration) (k : Num8) (v : FaultState) (s : State) :
    (enterFault c k v s).cau = s.cau := by
  simp only [enterFault]; repeat' split
  all_goals simp
@[simp] theorem enterFault_mc (c : Configuration) (k : Num8) (v : FaultState) (s : State) :
    (enterFault c k v s).mc = s.mc := by
  simp only [enterFault]; repeat' split
  all_goals simp
@[simp] theorem enterFault_gt (c : Configuration) (k : Num8) (v : FaultState) (s : State) :
    (enterFault c k v s).gt = s.gt := by
  simp only [enterFault]; repeat' split
  all_goals simp
@[simp] theorem enterFault_pa (c : Configuration) (k : Num8) (v : FaultState) (s : State) :
    (enterFault c k v s).pa = s.pa := by
  simp only [enterFault]; repeat' split
  all_goals simp
@[simp] theorem enterFault_olu (c : Configuration) (k : Num8) (v : FaultState) (s : State) :
    (enterFault c k v s).olu = s.olu := by
  simp only [enterFault]; repeat' split
  all_goals simp
@[simp] theorem enterFault_cl (c : Configuration) (k : Num8) (v : FaultState) (s : State) :
    (enterFault c k v s).cl = s.cl := by
  simp only [enterFault]; repeat' split
  all_goals simp
@[simp] theorem enterFault_resetHeld (c : Configuration) (k : Num8) (v : FaultState) (s : State) :
    (enterFault c k v s).resetHeld = s.resetHeld := by
  simp only [enterFault]; repeat' split
  all_goals simp
@[simp] theorem enterFault_supplyOut (c : Configuration) (k : Num8) (v : FaultState) (s : State) :
    (enterFault c k v s).supplyOut = s.supplyOut := by
  simp only [enterFault]; repeat' split
  all_goals simp
@[simp] theorem enterFault_computations (c : Configuration) (k : Num8) (v : FaultState) (s : State) :
    (enterFault c k v s).computations = s.computations := by
  simp only [enterFault]; repeat' split
  all_goals simp
@[simp] theorem enterFault_pending (c : Configuration) (k : Num8) (v : FaultState) (s : State) :
    (enterFault c k v s).pending = s.pending := by
  simp only [enterFault]; repeat' split
  all_goals simp

/-! ### storageRecovers -/

@[simp] theorem storageRecovers_nt (c : Configuration) (k : Num8) (s : State) : (storageRecovers c k s).nt = s.nt := by
  simp only [storageRecovers]; repeat' split
  all_goals simp
@[simp] theorem storageRecovers_ct (c : Configuration) (k : Num8) (s : State) : (storageRecovers c k s).ct = s.ct := by
  simp only [storageRecovers]; repeat' split
  all_goals simp
@[simp] theorem storageRecovers_cau (c : Configuration) (k : Num8) (s : State) :
    (storageRecovers c k s).cau = s.cau := by
  simp only [storageRecovers]; repeat' split
  all_goals simp
@[simp] theorem storageRecovers_mc (c : Configuration) (k : Num8) (s : State) : (storageRecovers c k s).mc = s.mc := by
  simp only [storageRecovers]; repeat' split
  all_goals simp
@[simp] theorem storageRecovers_gt (c : Configuration) (k : Num8) (s : State) : (storageRecovers c k s).gt = s.gt := by
  simp only [storageRecovers]; repeat' split
  all_goals simp
@[simp] theorem storageRecovers_pa (c : Configuration) (k : Num8) (s : State) : (storageRecovers c k s).pa = s.pa := by
  simp only [storageRecovers]; repeat' split
  all_goals simp
@[simp] theorem storageRecovers_olu (c : Configuration) (k : Num8) (s : State) :
    (storageRecovers c k s).olu = s.olu := by
  simp only [storageRecovers]; repeat' split
  all_goals simp
@[simp] theorem storageRecovers_cp (c : Configuration) (k : Num8) (s : State) : (storageRecovers c k s).cp = s.cp := by
  simp only [storageRecovers]; repeat' split
  all_goals simp
@[simp] theorem storageRecovers_cl (c : Configuration) (k : Num8) (s : State) : (storageRecovers c k s).cl = s.cl := by
  simp only [storageRecovers]; repeat' split
  all_goals simp
@[simp] theorem storageRecovers_counters (c : Configuration) (k : Num8) (s : State) :
    (storageRecovers c k s).counters = s.counters := by
  simp only [storageRecovers]; repeat' split
  all_goals simp
@[simp] theorem storageRecovers_resetHeld (c : Configuration) (k : Num8) (s : State) :
    (storageRecovers c k s).resetHeld = s.resetHeld := by
  simp only [storageRecovers]; repeat' split
  all_goals simp
@[simp] theorem storageRecovers_supplyOut (c : Configuration) (k : Num8) (s : State) :
    (storageRecovers c k s).supplyOut = s.supplyOut := by
  simp only [storageRecovers]; repeat' split
  all_goals simp
@[simp] theorem storageRecovers_computations (c : Configuration) (k : Num8) (s : State) :
    (storageRecovers c k s).computations = s.computations := by
  simp only [storageRecovers]; repeat' split
  all_goals simp
@[simp] theorem storageRecovers_pending (c : Configuration) (k : Num8) (s : State) :
    (storageRecovers c k s).pending = s.pending := by
  simp only [storageRecovers]; repeat' split
  all_goals simp

/-! ### judgeStorage -/

@[simp] theorem judgeStorage_nt (c : Configuration) (p : Plan) (d : Direction) (s : State) :
    (judgeStorage c p d s).nt = s.nt := by
  simp only [judgeStorage]; repeat' split
  all_goals simp
@[simp] theorem judgeStorage_ct (c : Configuration) (p : Plan) (d : Direction) (s : State) :
    (judgeStorage c p d s).ct = s.ct := by
  simp only [judgeStorage]; repeat' split
  all_goals simp
@[simp] theorem judgeStorage_cau (c : Configuration) (p : Plan) (d : Direction) (s : State) :
    (judgeStorage c p d s).cau = s.cau := by
  simp only [judgeStorage]; repeat' split
  all_goals simp
@[simp] theorem judgeStorage_mc (c : Configuration) (p : Plan) (d : Direction) (s : State) :
    (judgeStorage c p d s).mc = s.mc := by
  simp only [judgeStorage]; repeat' split
  all_goals simp
@[simp] theorem judgeStorage_gt (c : Configuration) (p : Plan) (d : Direction) (s : State) :
    (judgeStorage c p d s).gt = s.gt := by
  simp only [judgeStorage]; repeat' split
  all_goals simp
@[simp] theorem judgeStorage_pa (c : Configuration) (p : Plan) (d : Direction) (s : State) :
    (judgeStorage c p d s).pa = s.pa := by
  simp only [judgeStorage]; repeat' split
  all_goals simp
@[simp] theorem judgeStorage_olu (c : Configuration) (p : Plan) (d : Direction) (s : State) :
    (judgeStorage c p d s).olu = s.olu := by
  simp only [judgeStorage]; repeat' split
  all_goals simp
@[simp] theorem judgeStorage_cp (c : Configuration) (p : Plan) (d : Direction) (s : State) :
    (judgeStorage c p d s).cp = s.cp := by
  simp only [judgeStorage]; repeat' split
  all_goals simp
@[simp] theorem judgeStorage_cl (c : Configuration) (p : Plan) (d : Direction) (s : State) :
    (judgeStorage c p d s).cl = s.cl := by
  simp only [judgeStorage]; repeat' split
  all_goals simp
@[simp] theorem judgeStorage_counters (c : Configuration) (p : Plan) (d : Direction) (s : State) :
    (judgeStorage c p d s).counters = s.counters := by
  simp only [judgeStorage]; repeat' split
  all_goals simp
@[simp] theorem judgeStorage_resetHeld (c : Configuration) (p : Plan) (d : Direction) (s : State) :
    (judgeStorage c p d s).resetHeld = s.resetHeld := by
  simp only [judgeStorage]; repeat' split
  all_goals simp
@[simp] theorem judgeStorage_supplyOut (c : Configuration) (p : Plan) (d : Direction) (s : State) :
    (judgeStorage c p d s).supplyOut = s.supplyOut := by
  simp only [judgeStorage]; repeat' split
  all_goals simp
@[simp] theorem judgeStorage_computations (c : Configuration) (p : Plan) (d : Direction) (s : State) :
    (judgeStorage c p d s).computations = s.computations := by
  simp only [judgeStorage]; repeat' split
  all_goals simp
@[simp] theorem judgeStorage_pending (c : Configuration) (p : Plan) (d : Direction) (s : State) :
    (judgeStorage c p d s).pending = s.pending := by
  simp only [judgeStorage]; repeat' split
  all_goals simp

/-! ### closeCycle -/

@[simp] theorem closeCycle_nt (c : Configuration) (p : Plan) (s : State) : (closeCycle c p s).nt = s.nt := by
  simp only [closeCycle, judgeStorage_nt]
  refine (foldl_keeps State.nt _ (fun s _ => ?_) _ _).trans rfl
  split <;> simp
@[simp] theorem closeCycle_ct (c : Configuration) (p : Plan) (s : State) : (closeCycle c p s).ct = s.ct := by
  simp only [closeCycle, judgeStorage_ct]
  refine (foldl_keeps State.ct _ (fun s _ => ?_) _ _).trans rfl
  split <;> simp
@[simp] theorem closeCycle_cau (c : Configuration) (p : Plan) (s : State) : (closeCycle c p s).cau = s.cau := by
  simp only [closeCycle, judgeStorage_cau]
  refine (foldl_keeps State.cau _ (fun s _ => ?_) _ _).trans rfl
  split <;> simp
@[simp] theorem closeCycle_mc (c : Configuration) (p : Plan) (s : State) : (closeCycle c p s).mc = s.mc := by
  simp only [closeCycle, judgeStorage_mc]
  refine (foldl_keeps State.mc _ (fun s _ => ?_) _ _).trans rfl
  split <;> simp
@[simp] theorem closeCycle_gt (c : Configuration) (p : Plan) (s : State) : (closeCycle c p s).gt = s.gt := by
  simp only [closeCycle, judgeStorage_gt]
  refine (foldl_keeps State.gt _ (fun s _ => ?_) _ _).trans rfl
  split <;> simp
@[simp] theorem closeCycle_pa (c : Configuration) (p : Plan) (s : State) : (closeCycle c p s).pa = s.pa := by
  simp only [closeCycle, judgeStorage_pa]
  refine (foldl_keeps State.pa _ (fun s _ => ?_) _ _).trans rfl
  split <;> simp
@[simp] theorem closeCycle_olu (c : Configuration) (p : Plan) (s : State) : (closeCycle c p s).olu = s.olu := by
  simp only [closeCycle, judgeStorage_olu]
  refine (foldl_keeps State.olu _ (fun s _ => ?_) _ _).trans rfl
  split <;> simp
@[simp] theorem closeCycle_cl (c : Configuration) (p : Plan) (s : State) : (closeCycle c p s).cl = s.cl := by
  simp only [closeCycle, judgeStorage_cl]
  refine (foldl_keeps State.cl _ (fun s _ => ?_) _ _).trans rfl
  split <;> simp
@[simp] theorem closeCycle_resetHeld (c : Configuration) (p : Plan) (s : State) :
    (closeCycle c p s).resetHeld = s.resetHeld := by
  simp only [closeCycle, judgeStorage_resetHeld]
  refine (foldl_keeps State.resetHeld _ (fun s _ => ?_) _ _).trans rfl
  split <;> simp
@[simp] theorem closeCycle_supplyOut (c : Configuration) (p : Plan) (s : State) :
    (closeCycle c p s).supplyOut = s.supplyOut := by
  simp only [closeCycle, judgeStorage_supplyOut]
  refine (foldl_keeps State.supplyOut _ (fun s _ => ?_) _ _).trans rfl
  split <;> simp
@[simp] theorem closeCycle_computations (c : Configuration) (p : Plan) (s : State) :
    (closeCycle c p s).computations = s.computations := by
  simp only [closeCycle, judgeStorage_computations]
  refine (foldl_keeps State.computations _ (fun s _ => ?_) _ _).trans rfl
  split <;> simp
@[simp] theorem closeCycle_pending (c : Configuration) (p : Plan) (s : State) :
    (closeCycle c p s).pending = s.pending := by
  simp only [closeCycle, judgeStorage_pending]
  refine (foldl_keeps State.pending _ (fun s _ => ?_) _ _).trans rfl
  split <;> simp

/-! ### enterFullWhenDue -/

@[simp] theorem enterFullWhenDue_nt (c : Configuration) (p : Plan) (d : Direction) (s : State) :
    (enterFullWhenDue c p d s).nt = s.nt := by
  simp only [enterFullWhenDue]; repeat' split
  all_goals simp
@[simp] theorem enterFullWhenDue_ct (c : Configuration) (p : Plan) (d : Direction) (s : State) :
    (enterFullWhenDue c p d s).ct = s.ct := by
  simp only [enterFullWhenDue]; repeat' split
  all_goals simp
@[simp] theorem enterFullWhenDue_cau (c : Configuration) (p : Plan) (d : Direction) (s : State) :
    (enterFullWhenDue c p d s).cau = s.cau := by
  simp only [enterFullWhenDue]; repeat' split
  all_goals simp
@[simp] theorem enterFullWhenDue_mc (c : Configuration) (p : Plan) (d : Direction) (s : State) :
    (enterFullWhenDue c p d s).mc = s.mc := by
  simp only [enterFullWhenDue]; repeat' split
  all_goals simp
@[simp] theorem enterFullWhenDue_gt (c : Configuration) (p : Plan) (d : Direction) (s : State) :
    (enterFullWhenDue c p d s).gt = s.gt := by
  simp only [enterFullWhenDue]; repeat' split
  all_goals simp
@[simp] theorem enterFullWhenDue_pa (c : Configuration) (p : Plan) (d : Direction) (s : State) :
    (enterFullWhenDue c p d s).pa = s.pa := by
  simp only [enterFullWhenDue]; repeat' split
  all_goals simp
@[simp] theorem enterFullWhenDue_olu (c : Configuration) (p : Plan) (d : Direction) (s : State) :
    (enterFullWhenDue c p d s).olu = s.olu := by
  simp only [enterFullWhenDue]; repeat' split
  all_goals simp
@[simp] theorem enterFullWhenDue_cp (c : Configuration) (p : Plan) (d : Direction) (s : State) :
    (enterFullWhenDue c p d s).cp = s.cp := by
  simp only [enterFullWhenDue]; repeat' split
  all_goals simp
@[simp] theorem enterFullWhenDue_cl (c : Configuration) (p : Plan) (d : Direction) (s : State) :
    (enterFullWhenDue c p d s).cl = s.cl := by
  simp only [enterFullWhenDue]; repeat' split
  all_goals simp
@[simp] theorem enterFullWhenDue_counters (c : Configuration) (p : Plan) (d : Direction) (s : State) :
    (enterFullWhenDue c p d s).counters = s.counters := by
  simp only [enterFullWhenDue]; repeat' split
  all_goals simp
@[simp] theorem enterFullWhenDue_resetHeld (c : Configuration) (p : Plan) (d : Direction) (s : State) :
    (enterFullWhenDue c p d s).resetHeld = s.resetHeld := by
  simp only [enterFullWhenDue]; repeat' split
  all_goals simp
@[simp] theorem enterFullWhenDue_supplyOut (c : Configuration) (p : Plan) (d : Direction) (s : State) :
    (enterFullWhenDue c p d s).supplyOut = s.supplyOut := by
  simp only [enterFullWhenDue]; repeat' split
  all_goals simp
@[simp] theorem enterFullWhenDue_computations (c : Configuration) (p : Plan) (d : Direction) (s : State) :
    (enterFullWhenDue c p d s).computations = s.computations := by
  simp only [enterFullWhenDue]; repeat' split
  all_goals simp
@[simp] theorem enterFullWhenDue_pending (c : Configuration) (p : Plan) (d : Direction) (s : State) :
    (enterFullWhenDue c p d s).pending = s.pending := by
  simp only [enterFullWhenDue]; repeat' split
  all_goals simp

/-! ### endGreenIf -/

@[simp] theorem endGreenIf_lc (b : Bool) (d : Direction) (s : State) : (endGreenIf b d s).lc = s.lc := by
  simp only [endGreenIf]; repeat' split
  all_goals simp
@[simp] theorem endGreenIf_nt (b : Bool) (d : Direction) (s : State) : (endGreenIf b d s).nt = s.nt := by
  simp only [endGreenIf]; repeat' split
  all_goals simp
@[simp] theorem endGreenIf_ct (b : Bool) (d : Direction) (s : State) : (endGreenIf b d s).ct = s.ct := by
  simp only [endGreenIf]; repeat' split
  all_goals simp
@[simp] theorem endGreenIf_cau (b : Bool) (d : Direction) (s : State) : (endGreenIf b d s).cau = s.cau := by
  simp only [endGreenIf]; repeat' split
  all_goals simp
@[simp] theorem endGreenIf_mc (b : Bool) (d : Direction) (s : State) : (endGreenIf b d s).mc = s.mc := by
  simp only [endGreenIf]; repeat' split
  all_goals simp
@[simp] theorem endGreenIf_gt (b : Bool) (d : Direction) (s : State) : (endGreenIf b d s).gt = s.gt := by
  simp only [endGreenIf]; repeat' split
  all_goals simp
@[simp] theorem endGreenIf_pa (b : Bool) (d : Direction) (s : State) : (endGreenIf b d s).pa = s.pa := by
  simp only [endGreenIf]; repeat' split
  all_goals simp
@[simp] theorem endGreenIf_olu (b : Bool) (d : Direction) (s : State) : (endGreenIf b d s).olu = s.olu := by
  simp only [endGreenIf]; repeat' split
  all_goals simp
@[simp] theorem endGreenIf_cp (b : Bool) (d : Direction) (s : State) : (endGreenIf b d s).cp = s.cp := by
  simp only [endGreenIf]; repeat' split
  all_goals simp
@[simp] theorem endGreenIf_cl (b : Bool) (d : Direction) (s : State) : (endGreenIf b d s).cl = s.cl := by
  simp only [endGreenIf]; repeat' split
  all_goals simp
@[simp] theorem endGreenIf_counters (b : Bool) (d : Direction) (s : State) :
    (endGreenIf b d s).counters = s.counters := by
  simp only [endGreenIf]; repeat' split
  all_goals simp
@[simp] theorem endGreenIf_resetHeld (b : Bool) (d : Direction) (s : State) :
    (endGreenIf b d s).resetHeld = s.resetHeld := by
  simp only [endGreenIf]; repeat' split
  all_goals simp
@[simp] theorem endGreenIf_supplyOut (b : Bool) (d : Direction) (s : State) :
    (endGreenIf b d s).supplyOut = s.supplyOut := by
  simp only [endGreenIf]; repeat' split
  all_goals simp
@[simp] theorem endGreenIf_computations (b : Bool) (d : Direction) (s : State) :
    (endGreenIf b d s).computations = s.computations := by
  simp only [endGreenIf]; repeat' split
  all_goals simp
@[simp] theorem endGreenIf_pending (b : Bool) (d : Direction) (s : State) : (endGreenIf b d s).pending = s.pending := by
  simp only [endGreenIf]; repeat' split
  all_goals simp

/-! ### takeDue -/

@[simp] theorem takeDue_lc (c : Configuration) (p : Plan) (m : Num8) (s : State) : (takeDue c p m s).lc = s.lc := by simp [takeDue]
@[simp] theorem takeDue_nt (c : Configuration) (p : Plan) (m : Num8) (s : State) : (takeDue c p m s).nt = s.nt := by simp [takeDue]
@[simp] theorem takeDue_cau (c : Configuration) (p : Plan) (m : Num8) (s : State) : (takeDue c p m s).cau = s.cau := by simp [takeDue]
@[simp] theorem takeDue_mc (c : Configuration) (p : Plan) (m : Num8) (s : State) : (takeDue c p m s).mc = s.mc := by simp [takeDue]
@[simp] theorem takeDue_gt (c : Configuration) (p : Plan) (m : Num8) (s : State) : (takeDue c p m s).gt = s.gt := by simp [takeDue]
@[simp] theorem takeDue_pa (c : Configuration) (p : Plan) (m : Num8) (s : State) : (takeDue c p m s).pa = s.pa := by simp [takeDue]
@[simp] theorem takeDue_cp (c : Configuration) (p : Plan) (m : Num8) (s : State) : (takeDue c p m s).cp = s.cp := by simp [takeDue]
@[simp] theorem takeDue_cl (c : Configuration) (p : Plan) (m : Num8) (s : State) : (takeDue c p m s).cl = s.cl := by simp [takeDue]
@[simp] theorem takeDue_counters (c : Configuration) (p : Plan) (m : Num8) (s : State) :
    (takeDue c p m s).counters = s.counters := by simp [takeDue]
@[simp] theorem takeDue_resetHeld (c : Configuration) (p : Plan) (m : Num8) (s : State) :
    (takeDue c p m s).resetHeld = s.resetHeld := by simp [takeDue]
@[simp] theorem takeDue_supplyOut (c : Configuration) (p : Plan) (m : Num8) (s : State) :
    (takeDue c p m s).supplyOut = s.supplyOut := by simp [takeDue]
@[simp] theorem takeDue_computations (c : Configuration) (p : Plan) (m : Num8) (s : State) :
    (takeDue c p m s).computations = s.computations := by simp [takeDue]
@[simp] theorem takeDue_pending (c : Configuration) (p : Plan) (m : Num8) (s : State) :
    (takeDue c p m s).pending = s.pending := by simp [takeDue]

/-! ### takeReached -/

@[simp] theorem takeReached_lc (c : Configuration) (p : Plan) (s : State) : (takeReached c p s).lc = s.lc := by
  unfold takeReached; exact foldl_keeps State.lc _ (fun s _ => by split <;> simp) _ _
@[simp] theorem takeReached_nt (c : Configuration) (p : Plan) (s : State) : (takeReached c p s).nt = s.nt := by
  unfold takeReached; exact foldl_keeps State.nt _ (fun s _ => by split <;> simp) _ _
@[simp] theorem takeReached_cau (c : Configuration) (p : Plan) (s : State) : (takeReached c p s).cau = s.cau := by
  unfold takeReached; exact foldl_keeps State.cau _ (fun s _ => by split <;> simp) _ _
@[simp] theorem takeReached_mc (c : Configuration) (p : Plan) (s : State) : (takeReached c p s).mc = s.mc := by
  unfold takeReached; exact foldl_keeps State.mc _ (fun s _ => by split <;> simp) _ _
@[simp] theorem takeReached_gt (c : Configuration) (p : Plan) (s : State) : (takeReached c p s).gt = s.gt := by
  unfold takeReached; exact foldl_keeps State.gt _ (fun s _ => by split <;> simp) _ _
@[simp] theorem takeReached_pa (c : Configuration) (p : Plan) (s : State) : (takeReached c p s).pa = s.pa := by
  unfold takeReached; exact foldl_keeps State.pa _ (fun s _ => by split <;> simp) _ _
@[simp] theorem takeReached_cp (c : Configuration) (p : Plan) (s : State) : (takeReached c p s).cp = s.cp := by
  unfold takeReached; exact foldl_keeps State.cp _ (fun s _ => by split <;> simp) _ _
@[simp] theorem takeReached_cl (c : Configuration) (p : Plan) (s : State) : (takeReached c p s).cl = s.cl := by
  unfold takeReached; exact foldl_keeps State.cl _ (fun s _ => by split <;> simp) _ _
@[simp] theorem takeReached_counters (c : Configuration) (p : Plan) (s : State) :
    (takeReached c p s).counters = s.counters := by
  unfold takeReached; exact foldl_keeps State.counters _ (fun s _ => by split <;> simp) _ _
@[simp] theorem takeReached_resetHeld (c : Configuration) (p : Plan) (s : State) :
    (takeReached c p s).resetHeld = s.resetHeld := by
  unfold takeReached; exact foldl_keeps State.resetHeld _ (fun s _ => by split <;> simp) _ _
@[simp] theorem takeReached_supplyOut (c : Configuration) (p : Plan) (s : State) :
    (takeReached c p s).supplyOut = s.supplyOut := by
  unfold takeReached; exact foldl_keeps State.supplyOut _ (fun s _ => by split <;> simp) _ _
@[simp] theorem takeReached_computations (c : Configuration) (p : Plan) (s : State) :
    (takeReached c p s).computations = s.computations := by
  unfold takeReached; exact foldl_keeps State.computations _ (fun s _ => by split <;> simp) _ _
@[simp] theorem takeReached_pending (c : Configuration) (p : Plan) (s : State) :
    (takeReached c p s).pending = s.pending := by
  unfold takeReached; exact foldl_keeps State.pending _ (fun s _ => by split <;> simp) _ _

/-! ### gateSetting -/

@[simp] theorem gateSetting_lc (c : Configuration) (p : Plan) (d : Direction) (s : State) :
    (gateSetting c p d s).lc = s.lc := by simp [gateSetting]
@[simp] theorem gateSetting_nt (c : Configuration) (p : Plan) (d : Direction) (s : State) :
    (gateSetting c p d s).nt = s.nt := by simp [gateSetting]
@[simp] theorem gateSetting_ct (c : Configuration) (p : Plan) (d : Direction) (s : State) :
    (gateSetting c p d s).ct = s.ct := by simp [gateSetting]
@[simp] theorem gateSetting_cau (c : Configuration) (p : Plan) (d : Direction) (s : State) :
    (gateSetting c p d s).cau = s.cau := by simp [gateSetting]
@[simp] theorem gateSetting_mc (c : Configuration) (p : Plan) (d : Direction) (s : State) :
    (gateSetting c p d s).mc = s.mc := by simp [gateSetting]
@[simp] theorem gateSetting_gt (c : Configuration) (p : Plan) (d : Direction) (s : State) :
    (gateSetting c p d s).gt = s.gt := by simp [gateSetting]
@[simp] theorem gateSetting_pa (c : Configuration) (p : Plan) (d : Direction) (s : State) :
    (gateSetting c p d s).pa = s.pa := by simp [gateSetting]
@[simp] theorem gateSetting_cp (c : Configuration) (p : Plan) (d : Direction) (s : State) :
    (gateSetting c p d s).cp = s.cp := by simp [gateSetting]
@[simp] theorem gateSetting_cl (c : Configuration) (p : Plan) (d : Direction) (s : State) :
    (gateSetting c p d s).cl = s.cl := by simp [gateSetting]
@[simp] theorem gateSetting_counters (c : Configuration) (p : Plan) (d : Direction) (s : State) :
    (gateSetting c p d s).counters = s.counters := by simp [gateSetting]
@[simp] theorem gateSetting_resetHeld (c : Configuration) (p : Plan) (d : Direction) (s : State) :
    (gateSetting c p d s).resetHeld = s.resetHeld := by simp [gateSetting]
@[simp] theorem gateSetting_supplyOut (c : Configuration) (p : Plan) (d : Direction) (s : State) :
    (gateSetting c p d s).supplyOut = s.supplyOut := by simp [gateSetting]
@[simp] theorem gateSetting_computations (c : Configuration) (p : Plan) (d : Direction) (s : State) :
    (gateSetting c p d s).computations = s.computations := by simp [gateSetting]
@[simp] theorem gateSetting_pending (c : Configuration) (p : Plan) (d : Direction) (s : State) :
    (gateSetting c p d s).pending = s.pending := by simp [gateSetting]

/-! ### reachGate -/

@[simp] theorem reachGate_lc (c : Configuration) (p : Plan) (d : Direction) (s : State) :
    (reachGate c p d s).lc = s.lc := by simp [reachGate]
@[simp] theorem reachGate_nt (c : Configuration) (p : Plan) (d : Direction) (s : State) :
    (reachGate c p d s).nt = s.nt := by simp [reachGate]
@[simp] theorem reachGate_ct (c : Configuration) (p : Plan) (d : Direction) (s : State) :
    (reachGate c p d s).ct = s.ct := by simp [reachGate]
@[simp] theorem reachGate_cau (c : Configuration) (p : Plan) (d : Direction) (s : State) :
    (reachGate c p d s).cau = s.cau := by simp [reachGate]
@[simp] theorem reachGate_mc (c : Configuration) (p : Plan) (d : Direction) (s : State) :
    (reachGate c p d s).mc = s.mc := by simp [reachGate]
@[simp] theorem reachGate_pa (c : Configuration) (p : Plan) (d : Direction) (s : State) :
    (reachGate c p d s).pa = s.pa := by simp [reachGate]
@[simp] theorem reachGate_cp (c : Configuration) (p : Plan) (d : Direction) (s : State) :
    (reachGate c p d s).cp = s.cp := by simp [reachGate]
@[simp] theorem reachGate_cl (c : Configuration) (p : Plan) (d : Direction) (s : State) :
    (reachGate c p d s).cl = s.cl := by simp [reachGate]
@[simp] theorem reachGate_counters (c : Configuration) (p : Plan) (d : Direction) (s : State) :
    (reachGate c p d s).counters = s.counters := by simp [reachGate]
@[simp] theorem reachGate_resetHeld (c : Configuration) (p : Plan) (d : Direction) (s : State) :
    (reachGate c p d s).resetHeld = s.resetHeld := by simp [reachGate]
@[simp] theorem reachGate_supplyOut (c : Configuration) (p : Plan) (d : Direction) (s : State) :
    (reachGate c p d s).supplyOut = s.supplyOut := by simp [reachGate]
@[simp] theorem reachGate_computations (c : Configuration) (p : Plan) (d : Direction) (s : State) :
    (reachGate c p d s).computations = s.computations := by simp [reachGate]
@[simp] theorem reachGate_pending (c : Configuration) (p : Plan) (d : Direction) (s : State) :
    (reachGate c p d s).pending = s.pending := by simp [reachGate]

/-! ### placeGate -/

@[simp] theorem placeGate_lc (c : Configuration) (p : Plan) (d : Direction) (s : State) :
    (placeGate c p d s).lc = s.lc := by
  simp only [placeGate]; repeat' split
  all_goals simp
@[simp] theorem placeGate_nt (c : Configuration) (p : Plan) (d : Direction) (s : State) :
    (placeGate c p d s).nt = s.nt := by
  simp only [placeGate]; repeat' split
  all_goals simp
@[simp] theorem placeGate_ct (c : Configuration) (p : Plan) (d : Direction) (s : State) :
    (placeGate c p d s).ct = s.ct := by
  simp only [placeGate]; repeat' split
  all_goals simp
@[simp] theorem placeGate_cau (c : Configuration) (p : Plan) (d : Direction) (s : State) :
    (placeGate c p d s).cau = s.cau := by
  simp only [placeGate]; repeat' split
  all_goals simp
@[simp] theorem placeGate_mc (c : Configuration) (p : Plan) (d : Direction) (s : State) :
    (placeGate c p d s).mc = s.mc := by
  simp only [placeGate]; repeat' split
  all_goals simp
@[simp] theorem placeGate_pa (c : Configuration) (p : Plan) (d : Direction) (s : State) :
    (placeGate c p d s).pa = s.pa := by
  simp only [placeGate]; repeat' split
  all_goals simp
@[simp] theorem placeGate_cp (c : Configuration) (p : Plan) (d : Direction) (s : State) :
    (placeGate c p d s).cp = s.cp := by
  simp only [placeGate]; repeat' split
  all_goals simp
@[simp] theorem placeGate_cl (c : Configuration) (p : Plan) (d : Direction) (s : State) :
    (placeGate c p d s).cl = s.cl := by
  simp only [placeGate]; repeat' split
  all_goals simp
@[simp] theorem placeGate_counters (c : Configuration) (p : Plan) (d : Direction) (s : State) :
    (placeGate c p d s).counters = s.counters := by
  simp only [placeGate]; repeat' split
  all_goals simp
@[simp] theorem placeGate_resetHeld (c : Configuration) (p : Plan) (d : Direction) (s : State) :
    (placeGate c p d s).resetHeld = s.resetHeld := by
  simp only [placeGate]; repeat' split
  all_goals simp
@[simp] theorem placeGate_supplyOut (c : Configuration) (p : Plan) (d : Direction) (s : State) :
    (placeGate c p d s).supplyOut = s.supplyOut := by
  simp only [placeGate]; repeat' split
  all_goals simp
@[simp] theorem placeGate_computations (c : Configuration) (p : Plan) (d : Direction) (s : State) :
    (placeGate c p d s).computations = s.computations := by
  simp only [placeGate]; repeat' split
  all_goals simp
@[simp] theorem placeGate_pending (c : Configuration) (p : Plan) (d : Direction) (s : State) :
    (placeGate c p d s).pending = s.pending := by
  simp only [placeGate]; repeat' split
  all_goals simp

/-! ### enterGating -/

@[simp] theorem enterGating_lc (c : Configuration) (p : Plan) (d : Direction) (n : Nat) (s : State) :
    (enterGating c p d n s).lc = s.lc := by
  simp only [enterGating]; repeat' split
  all_goals simp
@[simp] theorem enterGating_nt (c : Configuration) (p : Plan) (d : Direction) (n : Nat) (s : State) :
    (enterGating c p d n s).nt = s.nt := by
  simp only [enterGating]; repeat' split
  all_goals simp
@[simp] theorem enterGating_ct (c : Configuration) (p : Plan) (d : Direction) (n : Nat) (s : State) :
    (enterGating c p d n s).ct = s.ct := by
  simp only [enterGating]; repeat' split
  all_goals simp
@[simp] theorem enterGating_cau (c : Configuration) (p : Plan) (d : Direction) (n : Nat) (s : State) :
    (enterGating c p d n s).cau = s.cau := by
  simp only [enterGating]; repeat' split
  all_goals simp
@[simp] theorem enterGating_mc (c : Configuration) (p : Plan) (d : Direction) (n : Nat) (s : State) :
    (enterGating c p d n s).mc = s.mc := by
  simp only [enterGating]; repeat' split
  all_goals simp
@[simp] theorem enterGating_pa (c : Configuration) (p : Plan) (d : Direction) (n : Nat) (s : State) :
    (enterGating c p d n s).pa = s.pa := by
  simp only [enterGating]; repeat' split
  all_goals simp
@[simp] theorem enterGating_cl (c : Configuration) (p : Plan) (d : Direction) (n : Nat) (s : State) :
    (enterGating c p d n s).cl = s.cl := by
  simp only [enterGating]; repeat' split
  all_goals simp
@[simp] theorem enterGating_counters (c : Configuration) (p : Plan) (d : Direction) (n : Nat) (s : State) :
    (enterGating c p d n s).counters = s.counters := by
  simp only [enterGating]; repeat' split
  all_goals simp
@[simp] theorem enterGating_resetHeld (c : Configuration) (p : Plan) (d : Direction) (n : Nat) (s : State) :
    (enterGating c p d n s).resetHeld = s.resetHeld := by
  simp only [enterGating]; repeat' split
  all_goals simp
@[simp] theorem enterGating_supplyOut (c : Configuration) (p : Plan) (d : Direction) (n : Nat) (s : State) :
    (enterGating c p d n s).supplyOut = s.supplyOut := by
  simp only [enterGating]; repeat' split
  all_goals simp
@[simp] theorem enterGating_computations (c : Configuration) (p : Plan) (d : Direction) (n : Nat) (s : State) :
    (enterGating c p d n s).computations = s.computations := by
  simp only [enterGating]; repeat' split
  all_goals simp
@[simp] theorem enterGating_pending (c : Configuration) (p : Plan) (d : Direction) (n : Nat) (s : State) :
    (enterGating c p d n s).pending = s.pending := by
  simp only [enterGating]; repeat' split
  all_goals simp

/-! ### judgeDirection -/

@[simp] theorem judgeDirection_lc (c : Configuration) (p : Plan) (r : Option Nat) (d : Direction) (s : State) :
    (judgeDirection c p r d s).lc = s.lc := by
  simp only [judgeDirection]; repeat' split
  all_goals simp
@[simp] theorem judgeDirection_nt (c : Configuration) (p : Plan) (r : Option Nat) (d : Direction) (s : State) :
    (judgeDirection c p r d s).nt = s.nt := by
  simp only [judgeDirection]; repeat' split
  all_goals simp
@[simp] theorem judgeDirection_ct (c : Configuration) (p : Plan) (r : Option Nat) (d : Direction) (s : State) :
    (judgeDirection c p r d s).ct = s.ct := by
  simp only [judgeDirection]; repeat' split
  all_goals simp
@[simp] theorem judgeDirection_cau (c : Configuration) (p : Plan) (r : Option Nat) (d : Direction) (s : State) :
    (judgeDirection c p r d s).cau = s.cau := by
  simp only [judgeDirection]; repeat' split
  all_goals simp
@[simp] theorem judgeDirection_mc (c : Configuration) (p : Plan) (r : Option Nat) (d : Direction) (s : State) :
    (judgeDirection c p r d s).mc = s.mc := by
  simp only [judgeDirection]; repeat' split
  all_goals simp
@[simp] theorem judgeDirection_pa (c : Configuration) (p : Plan) (r : Option Nat) (d : Direction) (s : State) :
    (judgeDirection c p r d s).pa = s.pa := by
  simp only [judgeDirection]; repeat' split
  all_goals simp
@[simp] theorem judgeDirection_cl (c : Configuration) (p : Plan) (r : Option Nat) (d : Direction) (s : State) :
    (judgeDirection c p r d s).cl = s.cl := by
  simp only [judgeDirection]; repeat' split
  all_goals simp
@[simp] theorem judgeDirection_counters (c : Configuration) (p : Plan) (r : Option Nat) (d : Direction) (s : State) :
    (judgeDirection c p r d s).counters = s.counters := by
  simp only [judgeDirection]; repeat' split
  all_goals simp
@[simp] theorem judgeDirection_resetHeld (c : Configuration) (p : Plan) (r : Option Nat) (d : Direction) (s : State) :
    (judgeDirection c p r d s).resetHeld = s.resetHeld := by
  simp only [judgeDirection]; repeat' split
  all_goals simp
@[simp] theorem judgeDirection_supplyOut (c : Configuration) (p : Plan) (r : Option Nat) (d : Direction) (s : State) :
    (judgeDirection c p r d s).supplyOut = s.supplyOut := by
  simp only [judgeDirection]; repeat' split
  all_goals simp
@[simp] theorem judgeDirection_computations (c : Configuration) (p : Plan) (r : Option Nat) (d : Direction) (s : State) :
    (judgeDirection c p r d s).computations = s.computations := by
  simp only [judgeDirection]; repeat' split
  all_goals simp
@[simp] theorem judgeDirection_pending (c : Configuration) (p : Plan) (r : Option Nat) (d : Direction) (s : State) :
    (judgeDirection c p r d s).pending = s.pending := by
  simp only [judgeDirection]; repeat' split
  all_goals simp

/-! ### judgeGating -/

@[simp] theorem judgeGating_lc (c : Configuration) (p : Plan) (r : Option Nat) (s : State) :
    (judgeGating c p r s).lc = s.lc := by
  simp only [judgeGating]; repeat' split
  all_goals simp
@[simp] theorem judgeGating_nt (c : Configuration) (p : Plan) (r : Option Nat) (s : State) :
    (judgeGating c p r s).nt = s.nt := by
  simp only [judgeGating]; repeat' split
  all_goals simp
@[simp] theorem judgeGating_ct (c : Configuration) (p : Plan) (r : Option Nat) (s : State) :
    (judgeGating c p r s).ct = s.ct := by
  simp only [judgeGating]; repeat' split
  all_goals simp
@[simp] theorem judgeGating_cau (c : Configuration) (p : Plan) (r : Option Nat) (s : State) :
    (judgeGating c p r s).cau = s.cau := by
  simp only [judgeGating]; repeat' split
  all_goals simp
@[simp] theorem judgeGating_mc (c : Configuration) (p : Plan) (r : Option Nat) (s : State) :
    (judgeGating c p r s).mc = s.mc := by
  simp only [judgeGating]; repeat' split
  all_goals simp
@[simp] theorem judgeGating_pa (c : Configuration) (p : Plan) (r : Option Nat) (s : State) :
    (judgeGating c p r s).pa = s.pa := by
  simp only [judgeGating]; repeat' split
  all_goals simp
@[simp] theorem judgeGating_cl (c : Configuration) (p : Plan) (r : Option Nat) (s : State) :
    (judgeGating c p r s).cl = s.cl := by
  simp only [judgeGating]; repeat' split
  all_goals simp
@[simp] theorem judgeGating_counters (c : Configuration) (p : Plan) (r : Option Nat) (s : State) :
    (judgeGating c p r s).counters = s.counters := by
  simp only [judgeGating]; repeat' split
  all_goals simp
@[simp] theorem judgeGating_resetHeld (c : Configuration) (p : Plan) (r : Option Nat) (s : State) :
    (judgeGating c p r s).resetHeld = s.resetHeld := by
  simp only [judgeGating]; repeat' split
  all_goals simp
@[simp] theorem judgeGating_supplyOut (c : Configuration) (p : Plan) (r : Option Nat) (s : State) :
    (judgeGating c p r s).supplyOut = s.supplyOut := by
  simp only [judgeGating]; repeat' split
  all_goals simp
@[simp] theorem judgeGating_computations (c : Configuration) (p : Plan) (r : Option Nat) (s : State) :
    (judgeGating c p r s).computations = s.computations := by
  simp only [judgeGating]; repeat' split
  all_goals simp
@[simp] theorem judgeGating_pending (c : Configuration) (p : Plan) (r : Option Nat) (s : State) :
    (judgeGating c p r s).pending = s.pending := by
  simp only [judgeGating]; repeat' split
  all_goals simp

/-! ### reportToGating -/

@[simp] theorem reportToGating_lc (r : Option Nat) (s : State) : (reportToGating r s).lc = s.lc := by
  simp only [reportToGating]; repeat' split
  all_goals simp
@[simp] theorem reportToGating_nt (r : Option Nat) (s : State) : (reportToGating r s).nt = s.nt := by
  simp only [reportToGating]; repeat' split
  all_goals simp
@[simp] theorem reportToGating_ct (r : Option Nat) (s : State) : (reportToGating r s).ct = s.ct := by
  simp only [reportToGating]; repeat' split
  all_goals simp
@[simp] theorem reportToGating_cau (r : Option Nat) (s : State) : (reportToGating r s).cau = s.cau := by
  simp only [reportToGating]; repeat' split
  all_goals simp
@[simp] theorem reportToGating_mc (r : Option Nat) (s : State) : (reportToGating r s).mc = s.mc := by
  simp only [reportToGating]; repeat' split
  all_goals simp
@[simp] theorem reportToGating_pa (r : Option Nat) (s : State) : (reportToGating r s).pa = s.pa := by
  simp only [reportToGating]; repeat' split
  all_goals simp
@[simp] theorem reportToGating_cl (r : Option Nat) (s : State) : (reportToGating r s).cl = s.cl := by
  simp only [reportToGating]; repeat' split
  all_goals simp
@[simp] theorem reportToGating_counters (r : Option Nat) (s : State) : (reportToGating r s).counters = s.counters := by
  simp only [reportToGating]; repeat' split
  all_goals simp
@[simp] theorem reportToGating_resetHeld (r : Option Nat) (s : State) :
    (reportToGating r s).resetHeld = s.resetHeld := by
  simp only [reportToGating]; repeat' split
  all_goals simp
@[simp] theorem reportToGating_supplyOut (r : Option Nat) (s : State) :
    (reportToGating r s).supplyOut = s.supplyOut := by
  simp only [reportToGating]; repeat' split
  all_goals simp
@[simp] theorem reportToGating_computations (r : Option Nat) (s : State) :
    (reportToGating r s).computations = s.computations := by
  simp only [reportToGating]; repeat' split
  all_goals simp
@[simp] theorem reportToGating_pending (r : Option Nat) (s : State) : (reportToGating r s).pending = s.pending := by
  simp only [reportToGating]; repeat' split
  all_goals simp

/-! ### placeGateIfOn -/

@[simp] theorem placeGateIfOn_lc (c : Configuration) (p : Plan) (d : Direction) (s : State) :
    (placeGateIfOn c p d s).lc = s.lc := by
  simp only [placeGateIfOn]; repeat' split
  all_goals simp
@[simp] theorem placeGateIfOn_nt (c : Configuration) (p : Plan) (d : Direction) (s : State) :
    (placeGateIfOn c p d s).nt = s.nt := by
  simp only [placeGateIfOn]; repeat' split
  all_goals simp
@[simp] theorem placeGateIfOn_ct (c : Configuration) (p : Plan) (d : Direction) (s : State) :
    (placeGateIfOn c p d s).ct = s.ct := by
  simp only [placeGateIfOn]; repeat' split
  all_goals simp
@[simp] theorem placeGateIfOn_cau (c : Configuration) (p : Plan) (d : Direction) (s : State) :
    (placeGateIfOn c p d s).cau = s.cau := by
  simp only [placeGateIfOn]; repeat' split
  all_goals simp
@[simp] theorem placeGateIfOn_mc (c : Configuration) (p : Plan) (d : Direction) (s : State) :
    (placeGateIfOn c p d s).mc = s.mc := by
  simp only [placeGateIfOn]; repeat' split
  all_goals simp
@[simp] theorem placeGateIfOn_pa (c : Configuration) (p : Plan) (d : Direction) (s : State) :
    (placeGateIfOn c p d s).pa = s.pa := by
  simp only [placeGateIfOn]; repeat' split
  all_goals simp
@[simp] theorem placeGateIfOn_cp (c : Configuration) (p : Plan) (d : Direction) (s : State) :
    (placeGateIfOn c p d s).cp = s.cp := by
  simp only [placeGateIfOn]; repeat' split
  all_goals simp
@[simp] theorem placeGateIfOn_cl (c : Configuration) (p : Plan) (d : Direction) (s : State) :
    (placeGateIfOn c p d s).cl = s.cl := by
  simp only [placeGateIfOn]; repeat' split
  all_goals simp
@[simp] theorem placeGateIfOn_counters (c : Configuration) (p : Plan) (d : Direction) (s : State) :
    (placeGateIfOn c p d s).counters = s.counters := by
  simp only [placeGateIfOn]; repeat' split
  all_goals simp
@[simp] theorem placeGateIfOn_resetHeld (c : Configuration) (p : Plan) (d : Direction) (s : State) :
    (placeGateIfOn c p d s).resetHeld = s.resetHeld := by
  simp only [placeGateIfOn]; repeat' split
  all_goals simp
@[simp] theorem placeGateIfOn_supplyOut (c : Configuration) (p : Plan) (d : Direction) (s : State) :
    (placeGateIfOn c p d s).supplyOut = s.supplyOut := by
  simp only [placeGateIfOn]; repeat' split
  all_goals simp
@[simp] theorem placeGateIfOn_computations (c : Configuration) (p : Plan) (d : Direction) (s : State) :
    (placeGateIfOn c p d s).computations = s.computations := by
  simp only [placeGateIfOn]; repeat' split
  all_goals simp
@[simp] theorem placeGateIfOn_pending (c : Configuration) (p : Plan) (d : Direction) (s : State) :
    (placeGateIfOn c p d s).pending = s.pending := by
  simp only [placeGateIfOn]; repeat' split
  all_goals simp

/-! ### gatingWrap -/

@[simp] theorem gatingWrap_lc (c : Configuration) (p : Plan) (s : State) : (gatingWrap c p s).lc = s.lc := by simp [gatingWrap]
@[simp] theorem gatingWrap_nt (c : Configuration) (p : Plan) (s : State) : (gatingWrap c p s).nt = s.nt := by simp [gatingWrap]
@[simp] theorem gatingWrap_ct (c : Configuration) (p : Plan) (s : State) : (gatingWrap c p s).ct = s.ct := by simp [gatingWrap]
@[simp] theorem gatingWrap_cau (c : Configuration) (p : Plan) (s : State) : (gatingWrap c p s).cau = s.cau := by simp [gatingWrap]
@[simp] theorem gatingWrap_mc (c : Configuration) (p : Plan) (s : State) : (gatingWrap c p s).mc = s.mc := by simp [gatingWrap]
@[simp] theorem gatingWrap_pa (c : Configuration) (p : Plan) (s : State) : (gatingWrap c p s).pa = s.pa := by simp [gatingWrap]
@[simp] theorem gatingWrap_cp (c : Configuration) (p : Plan) (s : State) : (gatingWrap c p s).cp = s.cp := by simp [gatingWrap]
@[simp] theorem gatingWrap_cl (c : Configuration) (p : Plan) (s : State) : (gatingWrap c p s).cl = s.cl := by simp [gatingWrap]
@[simp] theorem gatingWrap_counters (c : Configuration) (p : Plan) (s : State) :
    (gatingWrap c p s).counters = s.counters := by simp [gatingWrap]
@[simp] theorem gatingWrap_resetHeld (c : Configuration) (p : Plan) (s : State) :
    (gatingWrap c p s).resetHeld = s.resetHeld := by simp [gatingWrap]
@[simp] theorem gatingWrap_supplyOut (c : Configuration) (p : Plan) (s : State) :
    (gatingWrap c p s).supplyOut = s.supplyOut := by simp [gatingWrap]
@[simp] theorem gatingWrap_computations (c : Configuration) (p : Plan) (s : State) :
    (gatingWrap c p s).computations = s.computations := by simp [gatingWrap]
@[simp] theorem gatingWrap_pending (c : Configuration) (p : Plan) (s : State) :
    (gatingWrap c p s).pending = s.pending := by simp [gatingWrap]

/-! ### replaceGate -/

@[simp] theorem replaceGate_lc (c : Configuration) (p : Plan) (d : Direction) (s : State) :
    (replaceGate c p d s).lc = s.lc := by
  simp only [replaceGate]; repeat' split
  all_goals simp
@[simp] theorem replaceGate_nt (c : Configuration) (p : Plan) (d : Direction) (s : State) :
    (replaceGate c p d s).nt = s.nt := by
  simp only [replaceGate]; repeat' split
  all_goals simp
@[simp] theorem replaceGate_ct (c : Configuration) (p : Plan) (d : Direction) (s : State) :
    (replaceGate c p d s).ct = s.ct := by
  simp only [replaceGate]; repeat' split
  all_goals simp
@[simp] theorem replaceGate_cau (c : Configuration) (p : Plan) (d : Direction) (s : State) :
    (replaceGate c p d s).cau = s.cau := by
  simp only [replaceGate]; repeat' split
  all_goals simp
@[simp] theorem replaceGate_mc (c : Configuration) (p : Plan) (d : Direction) (s : State) :
    (replaceGate c p d s).mc = s.mc := by
  simp only [replaceGate]; repeat' split
  all_goals simp
@[simp] theorem replaceGate_pa (c : Configuration) (p : Plan) (d : Direction) (s : State) :
    (replaceGate c p d s).pa = s.pa := by
  simp only [replaceGate]; repeat' split
  all_goals simp
@[simp] theorem replaceGate_cp (c : Configuration) (p : Plan) (d : Direction) (s : State) :
    (replaceGate c p d s).cp = s.cp := by
  simp only [replaceGate]; repeat' split
  all_goals simp
@[simp] theorem replaceGate_cl (c : Configuration) (p : Plan) (d : Direction) (s : State) :
    (replaceGate c p d s).cl = s.cl := by
  simp only [replaceGate]; repeat' split
  all_goals simp
@[simp] theorem replaceGate_counters (c : Configuration) (p : Plan) (d : Direction) (s : State) :
    (replaceGate c p d s).counters = s.counters := by
  simp only [replaceGate]; repeat' split
  all_goals simp
@[simp] theorem replaceGate_resetHeld (c : Configuration) (p : Plan) (d : Direction) (s : State) :
    (replaceGate c p d s).resetHeld = s.resetHeld := by
  simp only [replaceGate]; repeat' split
  all_goals simp
@[simp] theorem replaceGate_supplyOut (c : Configuration) (p : Plan) (d : Direction) (s : State) :
    (replaceGate c p d s).supplyOut = s.supplyOut := by
  simp only [replaceGate]; repeat' split
  all_goals simp
@[simp] theorem replaceGate_computations (c : Configuration) (p : Plan) (d : Direction) (s : State) :
    (replaceGate c p d s).computations = s.computations := by
  simp only [replaceGate]; repeat' split
  all_goals simp
@[simp] theorem replaceGate_pending (c : Configuration) (p : Plan) (d : Direction) (s : State) :
    (replaceGate c p d s).pending = s.pending := by
  simp only [replaceGate]; repeat' split
  all_goals simp

/-! ### reachStretch -/

@[simp] theorem reachStretch_lc (c : Configuration) (p : Plan) (s : State) : (reachStretch c p s).lc = s.lc := by
  simp only [reachStretch]; repeat' split
  all_goals simp
@[simp] theorem reachStretch_nt (c : Configuration) (p : Plan) (s : State) : (reachStretch c p s).nt = s.nt := by
  simp only [reachStretch]; repeat' split
  all_goals simp
@[simp] theorem reachStretch_cau (c : Configuration) (p : Plan) (s : State) : (reachStretch c p s).cau = s.cau := by
  simp only [reachStretch]; repeat' split
  all_goals simp
@[simp] theorem reachStretch_mc (c : Configuration) (p : Plan) (s : State) : (reachStretch c p s).mc = s.mc := by
  simp only [reachStretch]; repeat' split
  all_goals simp
@[simp] theorem reachStretch_gt (c : Configuration) (p : Plan) (s : State) : (reachStretch c p s).gt = s.gt := by
  simp only [reachStretch]; repeat' split
  all_goals simp
@[simp] theorem reachStretch_cp (c : Configuration) (p : Plan) (s : State) : (reachStretch c p s).cp = s.cp := by
  simp only [reachStretch]; repeat' split
  all_goals simp
@[simp] theorem reachStretch_cl (c : Configuration) (p : Plan) (s : State) : (reachStretch c p s).cl = s.cl := by
  simp only [reachStretch]; repeat' split
  all_goals simp
@[simp] theorem reachStretch_resetHeld (c : Configuration) (p : Plan) (s : State) :
    (reachStretch c p s).resetHeld = s.resetHeld := by
  simp only [reachStretch]; repeat' split
  all_goals simp
@[simp] theorem reachStretch_supplyOut (c : Configuration) (p : Plan) (s : State) :
    (reachStretch c p s).supplyOut = s.supplyOut := by
  simp only [reachStretch]; repeat' split
  all_goals simp
@[simp] theorem reachStretch_computations (c : Configuration) (p : Plan) (s : State) :
    (reachStretch c p s).computations = s.computations := by
  simp only [reachStretch]; repeat' split
  all_goals simp
@[simp] theorem reachStretch_pending (c : Configuration) (p : Plan) (s : State) :
    (reachStretch c p s).pending = s.pending := by
  simp only [reachStretch]; repeat' split
  all_goals simp

/-! ### takeReachedDeciding -/

@[simp] theorem takeReachedDeciding_lc (c : Configuration) (p : Plan) (s : State) :
    (takeReachedDeciding c p s).lc = s.lc := by
  simp only [takeReachedDeciding]; repeat' split
  all_goals simp
@[simp] theorem takeReachedDeciding_nt (c : Configuration) (p : Plan) (s : State) :
    (takeReachedDeciding c p s).nt = s.nt := by
  simp only [takeReachedDeciding]; repeat' split
  all_goals simp
@[simp] theorem takeReachedDeciding_cau (c : Configuration) (p : Plan) (s : State) :
    (takeReachedDeciding c p s).cau = s.cau := by
  simp only [takeReachedDeciding]; repeat' split
  all_goals simp
@[simp] theorem takeReachedDeciding_mc (c : Configuration) (p : Plan) (s : State) :
    (takeReachedDeciding c p s).mc = s.mc := by
  simp only [takeReachedDeciding]; repeat' split
  all_goals simp
@[simp] theorem takeReachedDeciding_gt (c : Configuration) (p : Plan) (s : State) :
    (takeReachedDeciding c p s).gt = s.gt := by
  simp only [takeReachedDeciding]; repeat' split
  all_goals simp
@[simp] theorem takeReachedDeciding_cp (c : Configuration) (p : Plan) (s : State) :
    (takeReachedDeciding c p s).cp = s.cp := by
  simp only [takeReachedDeciding]; repeat' split
  all_goals simp
@[simp] theorem takeReachedDeciding_cl (c : Configuration) (p : Plan) (s : State) :
    (takeReachedDeciding c p s).cl = s.cl := by
  simp only [takeReachedDeciding]; repeat' split
  all_goals simp
@[simp] theorem takeReachedDeciding_resetHeld (c : Configuration) (p : Plan) (s : State) :
    (takeReachedDeciding c p s).resetHeld = s.resetHeld := by
  simp only [takeReachedDeciding]; repeat' split
  all_goals simp
@[simp] theorem takeReachedDeciding_supplyOut (c : Configuration) (p : Plan) (s : State) :
    (takeReachedDeciding c p s).supplyOut = s.supplyOut := by
  simp only [takeReachedDeciding]; repeat' split
  all_goals simp
@[simp] theorem takeReachedDeciding_computations (c : Configuration) (p : Plan) (s : State) :
    (takeReachedDeciding c p s).computations = s.computations := by
  simp only [takeReachedDeciding]; repeat' split
  all_goals simp
@[simp] theorem takeReachedDeciding_pending (c : Configuration) (p : Plan) (s : State) :
    (takeReachedDeciding c p s).pending = s.pending := by
  simp only [takeReachedDeciding]; repeat' split
  all_goals simp

/-! ### endExtension -/

@[simp] theorem endExtension_lc (c : Configuration) (p : Plan) (s : State) : (endExtension c p s).lc = s.lc := by simp [endExtension]
@[simp] theorem endExtension_nt (c : Configuration) (p : Plan) (s : State) : (endExtension c p s).nt = s.nt := by simp [endExtension]
@[simp] theorem endExtension_cau (c : Configuration) (p : Plan) (s : State) : (endExtension c p s).cau = s.cau := by simp [endExtension]
@[simp] theorem endExtension_mc (c : Configuration) (p : Plan) (s : State) : (endExtension c p s).mc = s.mc := by simp [endExtension]
@[simp] theorem endExtension_gt (c : Configuration) (p : Plan) (s : State) : (endExtension c p s).gt = s.gt := by simp [endExtension]
@[simp] theorem endExtension_cp (c : Configuration) (p : Plan) (s : State) : (endExtension c p s).cp = s.cp := by simp [endExtension]
@[simp] theorem endExtension_cl (c : Configuration) (p : Plan) (s : State) : (endExtension c p s).cl = s.cl := by simp [endExtension]
@[simp] theorem endExtension_counters (c : Configuration) (p : Plan) (s : State) :
    (endExtension c p s).counters = s.counters := by simp [endExtension]
@[simp] theorem endExtension_resetHeld (c : Configuration) (p : Plan) (s : State) :
    (endExtension c p s).resetHeld = s.resetHeld := by simp [endExtension]
@[simp] theorem endExtension_supplyOut (c : Configuration) (p : Plan) (s : State) :
    (endExtension c p s).supplyOut = s.supplyOut := by simp [endExtension]
@[simp] theorem endExtension_computations (c : Configuration) (p : Plan) (s : State) :
    (endExtension c p s).computations = s.computations := by simp [endExtension]
@[simp] theorem endExtension_pending (c : Configuration) (p : Plan) (s : State) :
    (endExtension c p s).pending = s.pending := by simp [endExtension]

/-! ### decideEarly -/

@[simp] theorem decideEarly_lc (s : State) : (decideEarly s).lc = s.lc := by
  simp only [decideEarly]; repeat' split
  all_goals simp
@[simp] theorem decideEarly_nt (s : State) : (decideEarly s).nt = s.nt := by
  simp only [decideEarly]; repeat' split
  all_goals simp
@[simp] theorem decideEarly_di (s : State) : (decideEarly s).di = s.di := by
  simp only [decideEarly]; repeat' split
  all_goals simp
@[simp] theorem decideEarly_cau (s : State) : (decideEarly s).cau = s.cau := by
  simp only [decideEarly]; repeat' split
  all_goals simp
@[simp] theorem decideEarly_mc (s : State) : (decideEarly s).mc = s.mc := by
  simp only [decideEarly]; repeat' split
  all_goals simp
@[simp] theorem decideEarly_gt (s : State) : (decideEarly s).gt = s.gt := by
  simp only [decideEarly]; repeat' split
  all_goals simp
@[simp] theorem decideEarly_olu (s : State) : (decideEarly s).olu = s.olu := by
  simp only [decideEarly]; repeat' split
  all_goals simp
@[simp] theorem decideEarly_cp (s : State) : (decideEarly s).cp = s.cp := by
  simp only [decideEarly]; repeat' split
  all_goals simp
@[simp] theorem decideEarly_cl (s : State) : (decideEarly s).cl = s.cl := by
  simp only [decideEarly]; repeat' split
  all_goals simp
@[simp] theorem decideEarly_resetHeld (s : State) : (decideEarly s).resetHeld = s.resetHeld := by
  simp only [decideEarly]; repeat' split
  all_goals simp
@[simp] theorem decideEarly_supplyOut (s : State) : (decideEarly s).supplyOut = s.supplyOut := by
  simp only [decideEarly]; repeat' split
  all_goals simp
@[simp] theorem decideEarly_computations (s : State) : (decideEarly s).computations = s.computations := by
  simp only [decideEarly]; repeat' split
  all_goals simp
@[simp] theorem decideEarly_pending (s : State) : (decideEarly s).pending = s.pending := by
  simp only [decideEarly]; repeat' split
  all_goals simp

/-! ### requestArrives -/

@[simp] theorem requestArrives_lc (p : Plan) (k : Num8) (g : TransitGroup) (s : State) :
    (requestArrives p k g s).lc = s.lc := by
  simp only [requestArrives]; repeat' split
  all_goals simp
@[simp] theorem requestArrives_nt (p : Plan) (k : Num8) (g : TransitGroup) (s : State) :
    (requestArrives p k g s).nt = s.nt := by
  simp only [requestArrives]; repeat' split
  all_goals simp
@[simp] theorem requestArrives_di (p : Plan) (k : Num8) (g : TransitGroup) (s : State) :
    (requestArrives p k g s).di = s.di := by
  simp only [requestArrives]; repeat' split
  all_goals simp
@[simp] theorem requestArrives_cau (p : Plan) (k : Num8) (g : TransitGroup) (s : State) :
    (requestArrives p k g s).cau = s.cau := by
  simp only [requestArrives]; repeat' split
  all_goals simp
@[simp] theorem requestArrives_mc (p : Plan) (k : Num8) (g : TransitGroup) (s : State) :
    (requestArrives p k g s).mc = s.mc := by
  simp only [requestArrives]; repeat' split
  all_goals simp
@[simp] theorem requestArrives_gt (p : Plan) (k : Num8) (g : TransitGroup) (s : State) :
    (requestArrives p k g s).gt = s.gt := by
  simp only [requestArrives]; repeat' split
  all_goals simp
@[simp] theorem requestArrives_olu (p : Plan) (k : Num8) (g : TransitGroup) (s : State) :
    (requestArrives p k g s).olu = s.olu := by
  simp only [requestArrives]; repeat' split
  all_goals simp
@[simp] theorem requestArrives_cp (p : Plan) (k : Num8) (g : TransitGroup) (s : State) :
    (requestArrives p k g s).cp = s.cp := by
  simp only [requestArrives]; repeat' split
  all_goals simp
@[simp] theorem requestArrives_cl (p : Plan) (k : Num8) (g : TransitGroup) (s : State) :
    (requestArrives p k g s).cl = s.cl := by
  simp only [requestArrives]; repeat' split
  all_goals simp
@[simp] theorem requestArrives_resetHeld (p : Plan) (k : Num8) (g : TransitGroup) (s : State) :
    (requestArrives p k g s).resetHeld = s.resetHeld := by
  simp only [requestArrives]; repeat' split
  all_goals simp
@[simp] theorem requestArrives_supplyOut (p : Plan) (k : Num8) (g : TransitGroup) (s : State) :
    (requestArrives p k g s).supplyOut = s.supplyOut := by
  simp only [requestArrives]; repeat' split
  all_goals simp
@[simp] theorem requestArrives_computations (p : Plan) (k : Num8) (g : TransitGroup) (s : State) :
    (requestArrives p k g s).computations = s.computations := by
  simp only [requestArrives]; repeat' split
  all_goals simp
@[simp] theorem requestArrives_pending (p : Plan) (k : Num8) (g : TransitGroup) (s : State) :
    (requestArrives p k g s).pending = s.pending := by
  simp only [requestArrives]; repeat' split
  all_goals simp

/-! ### withdraw -/

@[simp] theorem withdraw_lc (c : Configuration) (p : Plan) (k : Num8) (s : State) : (withdraw c p k s).lc = s.lc := by
  simp only [withdraw]; repeat' split
  all_goals simp
@[simp] theorem withdraw_nt (c : Configuration) (p : Plan) (k : Num8) (s : State) : (withdraw c p k s).nt = s.nt := by
  simp only [withdraw]; repeat' split
  all_goals simp
@[simp] theorem withdraw_cau (c : Configuration) (p : Plan) (k : Num8) (s : State) :
    (withdraw c p k s).cau = s.cau := by
  simp only [withdraw]; repeat' split
  all_goals simp
@[simp] theorem withdraw_mc (c : Configuration) (p : Plan) (k : Num8) (s : State) : (withdraw c p k s).mc = s.mc := by
  simp only [withdraw]; repeat' split
  all_goals simp
@[simp] theorem withdraw_gt (c : Configuration) (p : Plan) (k : Num8) (s : State) : (withdraw c p k s).gt = s.gt := by
  simp only [withdraw]; repeat' split
  all_goals simp
@[simp] theorem withdraw_cp (c : Configuration) (p : Plan) (k : Num8) (s : State) : (withdraw c p k s).cp = s.cp := by
  simp only [withdraw]; repeat' split
  all_goals simp
@[simp] theorem withdraw_cl (c : Configuration) (p : Plan) (k : Num8) (s : State) : (withdraw c p k s).cl = s.cl := by
  simp only [withdraw]; repeat' split
  all_goals simp
@[simp] theorem withdraw_counters (c : Configuration) (p : Plan) (k : Num8) (s : State) :
    (withdraw c p k s).counters = s.counters := by
  simp only [withdraw]; repeat' split
  all_goals simp
@[simp] theorem withdraw_resetHeld (c : Configuration) (p : Plan) (k : Num8) (s : State) :
    (withdraw c p k s).resetHeld = s.resetHeld := by
  simp only [withdraw]; repeat' split
  all_goals simp
@[simp] theorem withdraw_supplyOut (c : Configuration) (p : Plan) (k : Num8) (s : State) :
    (withdraw c p k s).supplyOut = s.supplyOut := by
  simp only [withdraw]; repeat' split
  all_goals simp
@[simp] theorem withdraw_computations (c : Configuration) (p : Plan) (k : Num8) (s : State) :
    (withdraw c p k s).computations = s.computations := by
  simp only [withdraw]; repeat' split
  all_goals simp
@[simp] theorem withdraw_pending (c : Configuration) (p : Plan) (k : Num8) (s : State) :
    (withdraw c p k s).pending = s.pending := by
  simp only [withdraw]; repeat' split
  all_goals simp

/-! ### expireAged -/

@[simp] theorem expireAged_lc (p : Plan) (s : State) : (expireAged p s).lc = s.lc := by
  unfold expireAged; exact foldl_keeps State.lc _ (fun s _ => by split <;> simp) _ _
@[simp] theorem expireAged_nt (p : Plan) (s : State) : (expireAged p s).nt = s.nt := by
  unfold expireAged; exact foldl_keeps State.nt _ (fun s _ => by split <;> simp) _ _
@[simp] theorem expireAged_ct (p : Plan) (s : State) : (expireAged p s).ct = s.ct := by
  unfold expireAged; exact foldl_keeps State.ct _ (fun s _ => by split <;> simp) _ _
@[simp] theorem expireAged_di (p : Plan) (s : State) : (expireAged p s).di = s.di := by
  unfold expireAged; exact foldl_keeps State.di _ (fun s _ => by split <;> simp) _ _
@[simp] theorem expireAged_cau (p : Plan) (s : State) : (expireAged p s).cau = s.cau := by
  unfold expireAged; exact foldl_keeps State.cau _ (fun s _ => by split <;> simp) _ _
@[simp] theorem expireAged_mc (p : Plan) (s : State) : (expireAged p s).mc = s.mc := by
  unfold expireAged; exact foldl_keeps State.mc _ (fun s _ => by split <;> simp) _ _
@[simp] theorem expireAged_gt (p : Plan) (s : State) : (expireAged p s).gt = s.gt := by
  unfold expireAged; exact foldl_keeps State.gt _ (fun s _ => by split <;> simp) _ _
@[simp] theorem expireAged_olu (p : Plan) (s : State) : (expireAged p s).olu = s.olu := by
  unfold expireAged; exact foldl_keeps State.olu _ (fun s _ => by split <;> simp) _ _
@[simp] theorem expireAged_cl (p : Plan) (s : State) : (expireAged p s).cl = s.cl := by
  unfold expireAged; exact foldl_keeps State.cl _ (fun s _ => by split <;> simp) _ _
@[simp] theorem expireAged_resetHeld (p : Plan) (s : State) : (expireAged p s).resetHeld = s.resetHeld := by
  unfold expireAged; exact foldl_keeps State.resetHeld _ (fun s _ => by split <;> simp) _ _
@[simp] theorem expireAged_supplyOut (p : Plan) (s : State) : (expireAged p s).supplyOut = s.supplyOut := by
  unfold expireAged; exact foldl_keeps State.supplyOut _ (fun s _ => by split <;> simp) _ _
@[simp] theorem expireAged_computations (p : Plan) (s : State) : (expireAged p s).computations = s.computations := by
  unfold expireAged; exact foldl_keeps State.computations _ (fun s _ => by split <;> simp) _ _
@[simp] theorem expireAged_pending (p : Plan) (s : State) : (expireAged p s).pending = s.pending := by
  unfold expireAged; exact foldl_keeps State.pending _ (fun s _ => by split <;> simp) _ _

/-! ### removeEntry -/

@[simp] theorem removeEntry_lc (n : Nat) (s : State) : (removeEntry n s).lc = s.lc := by simp [removeEntry]
@[simp] theorem removeEntry_ct (n : Nat) (s : State) : (removeEntry n s).ct = s.ct := by simp [removeEntry]
@[simp] theorem removeEntry_cau (n : Nat) (s : State) : (removeEntry n s).cau = s.cau := by simp [removeEntry]
@[simp] theorem removeEntry_mc (n : Nat) (s : State) : (removeEntry n s).mc = s.mc := by simp [removeEntry]
@[simp] theorem removeEntry_pa (n : Nat) (s : State) : (removeEntry n s).pa = s.pa := by simp [removeEntry]
@[simp] theorem removeEntry_cl (n : Nat) (s : State) : (removeEntry n s).cl = s.cl := by simp [removeEntry]
@[simp] theorem removeEntry_counters (n : Nat) (s : State) : (removeEntry n s).counters = s.counters := by simp [removeEntry]
@[simp] theorem removeEntry_resetHeld (n : Nat) (s : State) : (removeEntry n s).resetHeld = s.resetHeld := by simp [removeEntry]
@[simp] theorem removeEntry_supplyOut (n : Nat) (s : State) : (removeEntry n s).supplyOut = s.supplyOut := by simp [removeEntry]
@[simp] theorem removeEntry_computations (n : Nat) (s : State) : (removeEntry n s).computations = s.computations := by simp [removeEntry]
@[simp] theorem removeEntry_pending (n : Nat) (s : State) : (removeEntry n s).pending = s.pending := by simp [removeEntry]

/-! ### placeEntry -/

@[simp] theorem placeEntry_lc (e : Entry) (s : State) : (placeEntry e s).lc = s.lc := by simp [placeEntry]
@[simp] theorem placeEntry_ct (e : Entry) (s : State) : (placeEntry e s).ct = s.ct := by simp [placeEntry]
@[simp] theorem placeEntry_cau (e : Entry) (s : State) : (placeEntry e s).cau = s.cau := by simp [placeEntry]
@[simp] theorem placeEntry_mc (e : Entry) (s : State) : (placeEntry e s).mc = s.mc := by simp [placeEntry]
@[simp] theorem placeEntry_pa (e : Entry) (s : State) : (placeEntry e s).pa = s.pa := by simp [placeEntry]
@[simp] theorem placeEntry_cl (e : Entry) (s : State) : (placeEntry e s).cl = s.cl := by simp [placeEntry]
@[simp] theorem placeEntry_counters (e : Entry) (s : State) : (placeEntry e s).counters = s.counters := by simp [placeEntry]
@[simp] theorem placeEntry_resetHeld (e : Entry) (s : State) : (placeEntry e s).resetHeld = s.resetHeld := by simp [placeEntry]
@[simp] theorem placeEntry_supplyOut (e : Entry) (s : State) : (placeEntry e s).supplyOut = s.supplyOut := by simp [placeEntry]
@[simp] theorem placeEntry_computations (e : Entry) (s : State) : (placeEntry e s).computations = s.computations := by simp [placeEntry]
@[simp] theorem placeEntry_pending (e : Entry) (s : State) : (placeEntry e s).pending = s.pending := by simp [placeEntry]

/-! ### beaconKnown -/

@[simp] theorem beaconKnown_lc (c : Configuration) (e f : Entry) (s : State) : (beaconKnown c e f s).lc = s.lc := by
  simp only [beaconKnown]; repeat' split
  all_goals simp
@[simp] theorem beaconKnown_ct (c : Configuration) (e f : Entry) (s : State) : (beaconKnown c e f s).ct = s.ct := by
  simp only [beaconKnown]; repeat' split
  all_goals simp
@[simp] theorem beaconKnown_cau (c : Configuration) (e f : Entry) (s : State) : (beaconKnown c e f s).cau = s.cau := by
  simp only [beaconKnown]; repeat' split
  all_goals simp
@[simp] theorem beaconKnown_mc (c : Configuration) (e f : Entry) (s : State) : (beaconKnown c e f s).mc = s.mc := by
  simp only [beaconKnown]; repeat' split
  all_goals simp
@[simp] theorem beaconKnown_pa (c : Configuration) (e f : Entry) (s : State) : (beaconKnown c e f s).pa = s.pa := by
  simp only [beaconKnown]; repeat' split
  all_goals simp
@[simp] theorem beaconKnown_cl (c : Configuration) (e f : Entry) (s : State) : (beaconKnown c e f s).cl = s.cl := by
  simp only [beaconKnown]; repeat' split
  all_goals simp
@[simp] theorem beaconKnown_resetHeld (c : Configuration) (e f : Entry) (s : State) :
    (beaconKnown c e f s).resetHeld = s.resetHeld := by
  simp only [beaconKnown]; repeat' split
  all_goals simp
@[simp] theorem beaconKnown_supplyOut (c : Configuration) (e f : Entry) (s : State) :
    (beaconKnown c e f s).supplyOut = s.supplyOut := by
  simp only [beaconKnown]; repeat' split
  all_goals simp
@[simp] theorem beaconKnown_computations (c : Configuration) (e f : Entry) (s : State) :
    (beaconKnown c e f s).computations = s.computations := by
  simp only [beaconKnown]; repeat' split
  all_goals simp
@[simp] theorem beaconKnown_pending (c : Configuration) (e f : Entry) (s : State) :
    (beaconKnown c e f s).pending = s.pending := by
  simp only [beaconKnown]; repeat' split
  all_goals simp

/-! ### beaconUnknown -/

@[simp] theorem beaconUnknown_lc (c : Configuration) (e : Entry) (s : State) : (beaconUnknown c e s).lc = s.lc := by
  simp only [beaconUnknown]; repeat' split
  all_goals simp
@[simp] theorem beaconUnknown_ct (c : Configuration) (e : Entry) (s : State) : (beaconUnknown c e s).ct = s.ct := by
  simp only [beaconUnknown]; repeat' split
  all_goals simp
@[simp] theorem beaconUnknown_cau (c : Configuration) (e : Entry) (s : State) : (beaconUnknown c e s).cau = s.cau := by
  simp only [beaconUnknown]; repeat' split
  all_goals simp
@[simp] theorem beaconUnknown_mc (c : Configuration) (e : Entry) (s : State) : (beaconUnknown c e s).mc = s.mc := by
  simp only [beaconUnknown]; repeat' split
  all_goals simp
@[simp] theorem beaconUnknown_pa (c : Configuration) (e : Entry) (s : State) : (beaconUnknown c e s).pa = s.pa := by
  simp only [beaconUnknown]; repeat' split
  all_goals simp
@[simp] theorem beaconUnknown_cl (c : Configuration) (e : Entry) (s : State) : (beaconUnknown c e s).cl = s.cl := by
  simp only [beaconUnknown]; repeat' split
  all_goals simp
@[simp] theorem beaconUnknown_resetHeld (c : Configuration) (e : Entry) (s : State) :
    (beaconUnknown c e s).resetHeld = s.resetHeld := by
  simp only [beaconUnknown]; repeat' split
  all_goals simp
@[simp] theorem beaconUnknown_supplyOut (c : Configuration) (e : Entry) (s : State) :
    (beaconUnknown c e s).supplyOut = s.supplyOut := by
  simp only [beaconUnknown]; repeat' split
  all_goals simp
@[simp] theorem beaconUnknown_computations (c : Configuration) (e : Entry) (s : State) :
    (beaconUnknown c e s).computations = s.computations := by
  simp only [beaconUnknown]; repeat' split
  all_goals simp
@[simp] theorem beaconUnknown_pending (c : Configuration) (e : Entry) (s : State) :
    (beaconUnknown c e s).pending = s.pending := by
  simp only [beaconUnknown]; repeat' split
  all_goals simp

/-! ### judgeReference -/

@[simp] theorem judgeReference_lc (n : Nat) (s : State) : (judgeReference n s).lc = s.lc := by
  simp only [judgeReference]; repeat' split
  all_goals simp
@[simp] theorem judgeReference_ct (n : Nat) (s : State) : (judgeReference n s).ct = s.ct := by
  simp only [judgeReference]; repeat' split
  all_goals simp
@[simp] theorem judgeReference_di (n : Nat) (s : State) : (judgeReference n s).di = s.di := by
  simp only [judgeReference]; repeat' split
  all_goals simp
@[simp] theorem judgeReference_cau (n : Nat) (s : State) : (judgeReference n s).cau = s.cau := by
  simp only [judgeReference]; repeat' split
  all_goals simp
@[simp] theorem judgeReference_mc (n : Nat) (s : State) : (judgeReference n s).mc = s.mc := by
  simp only [judgeReference]; repeat' split
  all_goals simp
@[simp] theorem judgeReference_gt (n : Nat) (s : State) : (judgeReference n s).gt = s.gt := by
  simp only [judgeReference]; repeat' split
  all_goals simp
@[simp] theorem judgeReference_pa (n : Nat) (s : State) : (judgeReference n s).pa = s.pa := by
  simp only [judgeReference]; repeat' split
  all_goals simp
@[simp] theorem judgeReference_olu (n : Nat) (s : State) : (judgeReference n s).olu = s.olu := by
  simp only [judgeReference]; repeat' split
  all_goals simp
@[simp] theorem judgeReference_cl (n : Nat) (s : State) : (judgeReference n s).cl = s.cl := by
  simp only [judgeReference]; repeat' split
  all_goals simp
@[simp] theorem judgeReference_counters (n : Nat) (s : State) : (judgeReference n s).counters = s.counters := by
  simp only [judgeReference]; repeat' split
  all_goals simp
@[simp] theorem judgeReference_resetHeld (n : Nat) (s : State) : (judgeReference n s).resetHeld = s.resetHeld := by
  simp only [judgeReference]; repeat' split
  all_goals simp
@[simp] theorem judgeReference_supplyOut (n : Nat) (s : State) : (judgeReference n s).supplyOut = s.supplyOut := by
  simp only [judgeReference]; repeat' split
  all_goals simp
@[simp] theorem judgeReference_computations (n : Nat) (s : State) :
    (judgeReference n s).computations = s.computations := by
  simp only [judgeReference]; repeat' split
  all_goals simp
@[simp] theorem judgeReference_pending (n : Nat) (s : State) : (judgeReference n s).pending = s.pending := by
  simp only [judgeReference]; repeat' split
  all_goals simp

/-! ### loseStation -/

@[simp] theorem loseStation_lc (n : Nat) (s : State) : (loseStation n s).lc = s.lc := by simp [loseStation]
@[simp] theorem loseStation_ct (n : Nat) (s : State) : (loseStation n s).ct = s.ct := by simp [loseStation]
@[simp] theorem loseStation_cau (n : Nat) (s : State) : (loseStation n s).cau = s.cau := by simp [loseStation]
@[simp] theorem loseStation_mc (n : Nat) (s : State) : (loseStation n s).mc = s.mc := by simp [loseStation]
@[simp] theorem loseStation_pa (n : Nat) (s : State) : (loseStation n s).pa = s.pa := by simp [loseStation]
@[simp] theorem loseStation_cl (n : Nat) (s : State) : (loseStation n s).cl = s.cl := by simp [loseStation]
@[simp] theorem loseStation_counters (n : Nat) (s : State) : (loseStation n s).counters = s.counters := by simp [loseStation]
@[simp] theorem loseStation_resetHeld (n : Nat) (s : State) : (loseStation n s).resetHeld = s.resetHeld := by simp [loseStation]
@[simp] theorem loseStation_supplyOut (n : Nat) (s : State) : (loseStation n s).supplyOut = s.supplyOut := by simp [loseStation]
@[simp] theorem loseStation_computations (n : Nat) (s : State) : (loseStation n s).computations = s.computations := by simp [loseStation]
@[simp] theorem loseStation_pending (n : Nat) (s : State) : (loseStation n s).pending = s.pending := by simp [loseStation]

/-! ### storageFrame -/

@[simp] theorem storageFrame_lc (n : Nat) (a : PerDir Approach) (s : State) : (storageFrame n a s).lc = s.lc := by
  simp only [storageFrame]; repeat' split
  all_goals simp
@[simp] theorem storageFrame_ct (n : Nat) (a : PerDir Approach) (s : State) : (storageFrame n a s).ct = s.ct := by
  simp only [storageFrame]; repeat' split
  all_goals simp
@[simp] theorem storageFrame_cau (n : Nat) (a : PerDir Approach) (s : State) : (storageFrame n a s).cau = s.cau := by
  simp only [storageFrame]; repeat' split
  all_goals simp
@[simp] theorem storageFrame_mc (n : Nat) (a : PerDir Approach) (s : State) : (storageFrame n a s).mc = s.mc := by
  simp only [storageFrame]; repeat' split
  all_goals simp
@[simp] theorem storageFrame_pa (n : Nat) (a : PerDir Approach) (s : State) : (storageFrame n a s).pa = s.pa := by
  simp only [storageFrame]; repeat' split
  all_goals simp
@[simp] theorem storageFrame_cl (n : Nat) (a : PerDir Approach) (s : State) : (storageFrame n a s).cl = s.cl := by
  simp only [storageFrame]; repeat' split
  all_goals simp
@[simp] theorem storageFrame_counters (n : Nat) (a : PerDir Approach) (s : State) :
    (storageFrame n a s).counters = s.counters := by
  simp only [storageFrame]; repeat' split
  all_goals simp
@[simp] theorem storageFrame_resetHeld (n : Nat) (a : PerDir Approach) (s : State) :
    (storageFrame n a s).resetHeld = s.resetHeld := by
  simp only [storageFrame]; repeat' split
  all_goals simp
@[simp] theorem storageFrame_supplyOut (n : Nat) (a : PerDir Approach) (s : State) :
    (storageFrame n a s).supplyOut = s.supplyOut := by
  simp only [storageFrame]; repeat' split
  all_goals simp
@[simp] theorem storageFrame_computations (n : Nat) (a : PerDir Approach) (s : State) :
    (storageFrame n a s).computations = s.computations := by
  simp only [storageFrame]; repeat' split
  all_goals simp
@[simp] theorem storageFrame_pending (n : Nat) (a : PerDir Approach) (s : State) :
    (storageFrame n a s).pending = s.pending := by
  simp only [storageFrame]; repeat' split
  all_goals simp

/-! ### tableTakes -/

@[simp] theorem tableTakes_lc (c : Configuration) (k : Capture) (g : Frame) (s : State) :
    (tableTakes c k g s).lc = s.lc := by
  simp only [tableTakes]; repeat' split
  all_goals simp
@[simp] theorem tableTakes_ct (c : Configuration) (k : Capture) (g : Frame) (s : State) :
    (tableTakes c k g s).ct = s.ct := by
  simp only [tableTakes]; repeat' split
  all_goals simp
@[simp] theorem tableTakes_cau (c : Configuration) (k : Capture) (g : Frame) (s : State) :
    (tableTakes c k g s).cau = s.cau := by
  simp only [tableTakes]; repeat' split
  all_goals simp
@[simp] theorem tableTakes_mc (c : Configuration) (k : Capture) (g : Frame) (s : State) :
    (tableTakes c k g s).mc = s.mc := by
  simp only [tableTakes]; repeat' split
  all_goals simp
@[simp] theorem tableTakes_pa (c : Configuration) (k : Capture) (g : Frame) (s : State) :
    (tableTakes c k g s).pa = s.pa := by
  simp only [tableTakes]; repeat' split
  all_goals simp
@[simp] theorem tableTakes_cl (c : Configuration) (k : Capture) (g : Frame) (s : State) :
    (tableTakes c k g s).cl = s.cl := by
  simp only [tableTakes]; repeat' split
  all_goals simp
@[simp] theorem tableTakes_resetHeld (c : Configuration) (k : Capture) (g : Frame) (s : State) :
    (tableTakes c k g s).resetHeld = s.resetHeld := by
  simp only [tableTakes]; repeat' split
  all_goals simp
@[simp] theorem tableTakes_supplyOut (c : Configuration) (k : Capture) (g : Frame) (s : State) :
    (tableTakes c k g s).supplyOut = s.supplyOut := by
  simp only [tableTakes]; repeat' split
  all_goals simp
@[simp] theorem tableTakes_computations (c : Configuration) (k : Capture) (g : Frame) (s : State) :
    (tableTakes c k g s).computations = s.computations := by
  simp only [tableTakes]; repeat' split
  all_goals simp
@[simp] theorem tableTakes_pending (c : Configuration) (k : Capture) (g : Frame) (s : State) :
    (tableTakes c k g s).pending = s.pending := by
  simp only [tableTakes]; repeat' split
  all_goals simp

/-! ### disposeFrame -/

@[simp] theorem disposeFrame_ct (c : Configuration) (k : Capture) (m n : Nat) (g : Frame) (s : State) :
    (disposeFrame c k m n g s).ct = s.ct := by
  simp only [disposeFrame]; repeat' split
  all_goals simp
@[simp] theorem disposeFrame_cau (c : Configuration) (k : Capture) (m n : Nat) (g : Frame) (s : State) :
    (disposeFrame c k m n g s).cau = s.cau := by
  simp only [disposeFrame]; repeat' split
  all_goals simp
@[simp] theorem disposeFrame_mc (c : Configuration) (k : Capture) (m n : Nat) (g : Frame) (s : State) :
    (disposeFrame c k m n g s).mc = s.mc := by
  simp only [disposeFrame]; repeat' split
  all_goals simp
@[simp] theorem disposeFrame_pa (c : Configuration) (k : Capture) (m n : Nat) (g : Frame) (s : State) :
    (disposeFrame c k m n g s).pa = s.pa := by
  simp only [disposeFrame]; repeat' split
  all_goals simp
@[simp] theorem disposeFrame_cl (c : Configuration) (k : Capture) (m n : Nat) (g : Frame) (s : State) :
    (disposeFrame c k m n g s).cl = s.cl := by
  simp only [disposeFrame]; repeat' split
  all_goals simp
@[simp] theorem disposeFrame_resetHeld (c : Configuration) (k : Capture) (m n : Nat) (g : Frame) (s : State) :
    (disposeFrame c k m n g s).resetHeld = s.resetHeld := by
  simp only [disposeFrame]; repeat' split
  all_goals simp
@[simp] theorem disposeFrame_supplyOut (c : Configuration) (k : Capture) (m n : Nat) (g : Frame) (s : State) :
    (disposeFrame c k m n g s).supplyOut = s.supplyOut := by
  simp only [disposeFrame]; repeat' split
  all_goals simp
@[simp] theorem disposeFrame_computations (c : Configuration) (k : Capture) (m n : Nat) (g : Frame) (s : State) :
    (disposeFrame c k m n g s).computations = s.computations := by
  simp only [disposeFrame]; repeat' split
  all_goals simp
@[simp] theorem disposeFrame_pending (c : Configuration) (k : Capture) (m n : Nat) (g : Frame) (s : State) :
    (disposeFrame c k m n g s).pending = s.pending := by
  simp only [disposeFrame]; repeat' split
  all_goals simp

/-! ### completeFrame -/

@[simp] theorem completeFrame_ct (k : Capture) (n : Nat) (l : List Byte) (a b : Byte) (s : State) :
    (completeFrame k n l a b s).ct = s.ct := by
  simp only [completeFrame]; repeat' split
  all_goals simp
@[simp] theorem completeFrame_cau (k : Capture) (n : Nat) (l : List Byte) (a b : Byte) (s : State) :
    (completeFrame k n l a b s).cau = s.cau := by
  simp only [completeFrame]; repeat' split
  all_goals simp
@[simp] theorem completeFrame_mc (k : Capture) (n : Nat) (l : List Byte) (a b : Byte) (s : State) :
    (completeFrame k n l a b s).mc = s.mc := by
  simp only [completeFrame]; repeat' split
  all_goals simp
@[simp] theorem completeFrame_pa (k : Capture) (n : Nat) (l : List Byte) (a b : Byte) (s : State) :
    (completeFrame k n l a b s).pa = s.pa := by
  simp only [completeFrame]; repeat' split
  all_goals simp
@[simp] theorem completeFrame_cl (k : Capture) (n : Nat) (l : List Byte) (a b : Byte) (s : State) :
    (completeFrame k n l a b s).cl = s.cl := by
  simp only [completeFrame]; repeat' split
  all_goals simp
@[simp] theorem completeFrame_resetHeld (k : Capture) (n : Nat) (l : List Byte) (a b : Byte) (s : State) :
    (completeFrame k n l a b s).resetHeld = s.resetHeld := by
  simp only [completeFrame]; repeat' split
  all_goals simp
@[simp] theorem completeFrame_supplyOut (k : Capture) (n : Nat) (l : List Byte) (a b : Byte) (s : State) :
    (completeFrame k n l a b s).supplyOut = s.supplyOut := by
  simp only [completeFrame]; repeat' split
  all_goals simp
@[simp] theorem completeFrame_computations (k : Capture) (n : Nat) (l : List Byte) (a b : Byte) (s : State) :
    (completeFrame k n l a b s).computations = s.computations := by
  simp only [completeFrame]; repeat' split
  all_goals simp
@[simp] theorem completeFrame_pending (k : Capture) (n : Nat) (l : List Byte) (a b : Byte) (s : State) :
    (completeFrame k n l a b s).pending = s.pending := by
  simp only [completeFrame]; repeat' split
  all_goals simp

/-! ### receiveByte -/

@[simp] theorem receiveByte_ct (b : Byte) (e : Bool) (s : State) : (receiveByte b e s).ct = s.ct := by
  simp only [receiveByte]; repeat' split
  all_goals simp
@[simp] theorem receiveByte_cau (b : Byte) (e : Bool) (s : State) : (receiveByte b e s).cau = s.cau := by
  simp only [receiveByte]; repeat' split
  all_goals simp
@[simp] theorem receiveByte_mc (b : Byte) (e : Bool) (s : State) : (receiveByte b e s).mc = s.mc := by
  simp only [receiveByte]; repeat' split
  all_goals simp
@[simp] theorem receiveByte_pa (b : Byte) (e : Bool) (s : State) : (receiveByte b e s).pa = s.pa := by
  simp only [receiveByte]; repeat' split
  all_goals simp
@[simp] theorem receiveByte_cl (b : Byte) (e : Bool) (s : State) : (receiveByte b e s).cl = s.cl := by
  simp only [receiveByte]; repeat' split
  all_goals simp
@[simp] theorem receiveByte_resetHeld (b : Byte) (e : Bool) (s : State) :
    (receiveByte b e s).resetHeld = s.resetHeld := by
  simp only [receiveByte]; repeat' split
  all_goals simp
@[simp] theorem receiveByte_supplyOut (b : Byte) (e : Bool) (s : State) :
    (receiveByte b e s).supplyOut = s.supplyOut := by
  simp only [receiveByte]; repeat' split
  all_goals simp
@[simp] theorem receiveByte_computations (b : Byte) (e : Bool) (s : State) :
    (receiveByte b e s).computations = s.computations := by
  simp only [receiveByte]; repeat' split
  all_goals simp
@[simp] theorem receiveByte_pending (b : Byte) (e : Bool) (s : State) : (receiveByte b e s).pending = s.pending := by
  simp only [receiveByte]; repeat' split
  all_goals simp

/-! ### cutShort -/

@[simp] theorem cutShort_nt (s : State) : (cutShort s).nt = s.nt := by
  simp only [cutShort]; repeat' split
  all_goals simp
@[simp] theorem cutShort_ct (s : State) : (cutShort s).ct = s.ct := by
  simp only [cutShort]; repeat' split
  all_goals simp
@[simp] theorem cutShort_di (s : State) : (cutShort s).di = s.di := by
  simp only [cutShort]; repeat' split
  all_goals simp
@[simp] theorem cutShort_cau (s : State) : (cutShort s).cau = s.cau := by
  simp only [cutShort]; repeat' split
  all_goals simp
@[simp] theorem cutShort_mc (s : State) : (cutShort s).mc = s.mc := by
  simp only [cutShort]; repeat' split
  all_goals simp
@[simp] theorem cutShort_gt (s : State) : (cutShort s).gt = s.gt := by
  simp only [cutShort]; repeat' split
  all_goals simp
@[simp] theorem cutShort_pa (s : State) : (cutShort s).pa = s.pa := by
  simp only [cutShort]; repeat' split
  all_goals simp
@[simp] theorem cutShort_olu (s : State) : (cutShort s).olu = s.olu := by
  simp only [cutShort]; repeat' split
  all_goals simp
@[simp] theorem cutShort_cl (s : State) : (cutShort s).cl = s.cl := by
  simp only [cutShort]; repeat' split
  all_goals simp
@[simp] theorem cutShort_resetHeld (s : State) : (cutShort s).resetHeld = s.resetHeld := by
  simp only [cutShort]; repeat' split
  all_goals simp
@[simp] theorem cutShort_supplyOut (s : State) : (cutShort s).supplyOut = s.supplyOut := by
  simp only [cutShort]; repeat' split
  all_goals simp
@[simp] theorem cutShort_computations (s : State) : (cutShort s).computations = s.computations := by
  simp only [cutShort]; repeat' split
  all_goals simp
@[simp] theorem cutShort_pending (s : State) : (cutShort s).pending = s.pending := by
  simp only [cutShort]; repeat' split
  all_goals simp

/-! ### appendRecord -/

@[simp] theorem appendRecord_lc (c : Configuration) (r : LogRecord) (s : State) : (appendRecord c r s).lc = s.lc := by
  simp only [appendRecord]; exact foldl_keeps State.lc _ (fun s _ => by simp) _ _
@[simp] theorem appendRecord_nt (c : Configuration) (r : LogRecord) (s : State) : (appendRecord c r s).nt = s.nt := by
  simp only [appendRecord]; exact foldl_keeps State.nt _ (fun s _ => by simp) _ _
@[simp] theorem appendRecord_ct (c : Configuration) (r : LogRecord) (s : State) : (appendRecord c r s).ct = s.ct := by
  simp only [appendRecord]; exact foldl_keeps State.ct _ (fun s _ => by simp) _ _
@[simp] theorem appendRecord_di (c : Configuration) (r : LogRecord) (s : State) : (appendRecord c r s).di = s.di := by
  simp only [appendRecord]; exact foldl_keeps State.di _ (fun s _ => by simp) _ _
@[simp] theorem appendRecord_cau (c : Configuration) (r : LogRecord) (s : State) :
    (appendRecord c r s).cau = s.cau := by
  simp only [appendRecord]; exact foldl_keeps State.cau _ (fun s _ => by simp) _ _
@[simp] theorem appendRecord_mc (c : Configuration) (r : LogRecord) (s : State) : (appendRecord c r s).mc = s.mc := by
  simp only [appendRecord]; exact foldl_keeps State.mc _ (fun s _ => by simp) _ _
@[simp] theorem appendRecord_gt (c : Configuration) (r : LogRecord) (s : State) : (appendRecord c r s).gt = s.gt := by
  simp only [appendRecord]; exact foldl_keeps State.gt _ (fun s _ => by simp) _ _
@[simp] theorem appendRecord_pa (c : Configuration) (r : LogRecord) (s : State) : (appendRecord c r s).pa = s.pa := by
  simp only [appendRecord]; exact foldl_keeps State.pa _ (fun s _ => by simp) _ _
@[simp] theorem appendRecord_olu (c : Configuration) (r : LogRecord) (s : State) :
    (appendRecord c r s).olu = s.olu := by
  simp only [appendRecord]; exact foldl_keeps State.olu _ (fun s _ => by simp) _ _
@[simp] theorem appendRecord_cl (c : Configuration) (r : LogRecord) (s : State) : (appendRecord c r s).cl = s.cl := by
  simp only [appendRecord]; exact foldl_keeps State.cl _ (fun s _ => by simp) _ _
@[simp] theorem appendRecord_resetHeld (c : Configuration) (r : LogRecord) (s : State) :
    (appendRecord c r s).resetHeld = s.resetHeld := by
  simp only [appendRecord]; exact foldl_keeps State.resetHeld _ (fun s _ => by simp) _ _
@[simp] theorem appendRecord_supplyOut (c : Configuration) (r : LogRecord) (s : State) :
    (appendRecord c r s).supplyOut = s.supplyOut := by
  simp only [appendRecord]; exact foldl_keeps State.supplyOut _ (fun s _ => by simp) _ _
@[simp] theorem appendRecord_computations (c : Configuration) (r : LogRecord) (s : State) :
    (appendRecord c r s).computations = s.computations := by
  simp only [appendRecord]; exact foldl_keeps State.computations _ (fun s _ => by simp) _ _
@[simp] theorem appendRecord_pending (c : Configuration) (r : LogRecord) (s : State) :
    (appendRecord c r s).pending = s.pending := by
  simp only [appendRecord]; exact foldl_keeps State.pending _ (fun s _ => by simp) _ _

/-! ### planStanding -/

@[simp] theorem planStanding_nt (c : Configuration) (n : Num4) (p : Plan) (s : State) :
    (planStanding c n p s).nt = s.nt := by simp [planStanding]
@[simp] theorem planStanding_gt (c : Configuration) (n : Num4) (p : Plan) (s : State) :
    (planStanding c n p s).gt = s.gt := by simp [planStanding]
@[simp] theorem planStanding_olu (c : Configuration) (n : Num4) (p : Plan) (s : State) :
    (planStanding c n p s).olu = s.olu := by simp [planStanding]
@[simp] theorem planStanding_cl (c : Configuration) (n : Num4) (p : Plan) (s : State) :
    (planStanding c n p s).cl = s.cl := by simp [planStanding]
@[simp] theorem planStanding_resetHeld (c : Configuration) (n : Num4) (p : Plan) (s : State) :
    (planStanding c n p s).resetHeld = s.resetHeld := by simp [planStanding]
@[simp] theorem planStanding_supplyOut (c : Configuration) (n : Num4) (p : Plan) (s : State) :
    (planStanding c n p s).supplyOut = s.supplyOut := by simp [planStanding]
@[simp] theorem planStanding_computations (c : Configuration) (n : Num4) (p : Plan) (s : State) :
    (planStanding c n p s).computations = s.computations := by simp [planStanding]
@[simp] theorem planStanding_pending (c : Configuration) (n : Num4) (p : Plan) (s : State) :
    (planStanding c n p s).pending = s.pending := by simp [planStanding]

/-! ### pendingTakesEffect -/

@[simp] theorem pendingTakesEffect_nt (c : Configuration) (s : State) : (pendingTakesEffect c s).nt = s.nt := by
  simp only [pendingTakesEffect]; repeat' split
  all_goals simp
@[simp] theorem pendingTakesEffect_gt (c : Configuration) (s : State) : (pendingTakesEffect c s).gt = s.gt := by
  simp only [pendingTakesEffect]; repeat' split
  all_goals simp
@[simp] theorem pendingTakesEffect_olu (c : Configuration) (s : State) : (pendingTakesEffect c s).olu = s.olu := by
  simp only [pendingTakesEffect]; repeat' split
  all_goals simp
@[simp] theorem pendingTakesEffect_cl (c : Configuration) (s : State) : (pendingTakesEffect c s).cl = s.cl := by
  simp only [pendingTakesEffect]; repeat' split
  all_goals simp
@[simp] theorem pendingTakesEffect_resetHeld (c : Configuration) (s : State) :
    (pendingTakesEffect c s).resetHeld = s.resetHeld := by
  simp only [pendingTakesEffect]; repeat' split
  all_goals simp
@[simp] theorem pendingTakesEffect_supplyOut (c : Configuration) (s : State) :
    (pendingTakesEffect c s).supplyOut = s.supplyOut := by
  simp only [pendingTakesEffect]; repeat' split
  all_goals simp
@[simp] theorem pendingTakesEffect_computations (c : Configuration) (s : State) :
    (pendingTakesEffect c s).computations = s.computations := by
  simp only [pendingTakesEffect]; repeat' split
  all_goals simp
@[simp] theorem pendingTakesEffect_pending (c : Configuration) (s : State) :
    (pendingTakesEffect c s).pending = s.pending := by
  simp only [pendingTakesEffect]; repeat' split
  all_goals simp

/-! ### takeCharge -/

@[simp] theorem takeCharge_nt (s : State) : (takeCharge s).nt = s.nt := by
  simp only [takeCharge]; repeat' split
  all_goals simp
@[simp] theorem takeCharge_cau (s : State) : (takeCharge s).cau = s.cau := by
  simp only [takeCharge]; repeat' split
  all_goals simp
@[simp] theorem takeCharge_cl (s : State) : (takeCharge s).cl = s.cl := by
  simp only [takeCharge]; repeat' split
  all_goals simp
@[simp] theorem takeCharge_resetHeld (s : State) : (takeCharge s).resetHeld = s.resetHeld := by
  simp only [takeCharge]; repeat' split
  all_goals simp
@[simp] theorem takeCharge_supplyOut (s : State) : (takeCharge s).supplyOut = s.supplyOut := by
  simp only [takeCharge]; repeat' split
  all_goals simp
@[simp] theorem takeCharge_computations (s : State) : (takeCharge s).computations = s.computations := by
  simp only [takeCharge]; repeat' split
  all_goals simp
@[simp] theorem takeCharge_pending (s : State) : (takeCharge s).pending = s.pending := by
  simp only [takeCharge]; repeat' split
  all_goals simp

/-! ### leaveCharge -/

@[simp] theorem leaveCharge_cl (m : Mode) (s : State) : (leaveCharge m s).cl = s.cl := by
  simp only [leaveCharge]; repeat' split
  all_goals simp
@[simp] theorem leaveCharge_resetHeld (m : Mode) (s : State) : (leaveCharge m s).resetHeld = s.resetHeld := by
  simp only [leaveCharge]; repeat' split
  all_goals simp
@[simp] theorem leaveCharge_supplyOut (m : Mode) (s : State) : (leaveCharge m s).supplyOut = s.supplyOut := by
  simp only [leaveCharge]; repeat' split
  all_goals simp
@[simp] theorem leaveCharge_computations (m : Mode) (s : State) : (leaveCharge m s).computations = s.computations := by
  simp only [leaveCharge]; repeat' split
  all_goals simp
@[simp] theorem leaveCharge_pending (m : Mode) (s : State) : (leaveCharge m s).pending = s.pending := by
  simp only [leaveCharge]; repeat' split
  all_goals simp

/-! ### leavePass -/

@[simp] theorem leavePass_nt (c : Configuration) (s : State) : (leavePass c s).nt = s.nt := by
  simp only [leavePass]; repeat' split
  all_goals simp
@[simp] theorem leavePass_cau (c : Configuration) (s : State) : (leavePass c s).cau = s.cau := by
  simp only [leavePass]; repeat' split
  all_goals simp
@[simp] theorem leavePass_cl (c : Configuration) (s : State) : (leavePass c s).cl = s.cl := by
  simp only [leavePass]; repeat' split
  all_goals simp
@[simp] theorem leavePass_resetHeld (c : Configuration) (s : State) : (leavePass c s).resetHeld = s.resetHeld := by
  simp only [leavePass]; repeat' split
  all_goals simp
@[simp] theorem leavePass_supplyOut (c : Configuration) (s : State) : (leavePass c s).supplyOut = s.supplyOut := by
  simp only [leavePass]; repeat' split
  all_goals simp
@[simp] theorem leavePass_computations (c : Configuration) (s : State) :
    (leavePass c s).computations = s.computations := by
  simp only [leavePass]; repeat' split
  all_goals simp
@[simp] theorem leavePass_pending (c : Configuration) (s : State) : (leavePass c s).pending = s.pending := by
  simp only [leavePass]; repeat' split
  all_goals simp

/-! ### pickupExpires -/

@[simp] theorem pickupExpires_nt (s : State) : (pickupExpires s).nt = s.nt := by simp [pickupExpires]
@[simp] theorem pickupExpires_cau (s : State) : (pickupExpires s).cau = s.cau := by simp [pickupExpires]
@[simp] theorem pickupExpires_cl (s : State) : (pickupExpires s).cl = s.cl := by simp [pickupExpires]
@[simp] theorem pickupExpires_resetHeld (s : State) : (pickupExpires s).resetHeld = s.resetHeld := by simp [pickupExpires]
@[simp] theorem pickupExpires_supplyOut (s : State) : (pickupExpires s).supplyOut = s.supplyOut := by simp [pickupExpires]
@[simp] theorem pickupExpires_computations (s : State) : (pickupExpires s).computations = s.computations := by simp [pickupExpires]
@[simp] theorem pickupExpires_pending (s : State) : (pickupExpires s).pending = s.pending := by simp [pickupExpires]

/-! ### doWrap -/

@[simp] theorem doWrap_nt (s : State) : (doWrap s).nt = s.nt := by
  simp only [doWrap]; repeat' split
  all_goals simp
@[simp] theorem doWrap_cl (s : State) : (doWrap s).cl = s.cl := by
  simp only [doWrap]; repeat' split
  all_goals simp
@[simp] theorem doWrap_resetHeld (s : State) : (doWrap s).resetHeld = s.resetHeld := by
  simp only [doWrap]; repeat' split
  all_goals simp
@[simp] theorem doWrap_supplyOut (s : State) : (doWrap s).supplyOut = s.supplyOut := by
  simp only [doWrap]; repeat' split
  all_goals simp
@[simp] theorem doWrap_pending (s : State) : (doWrap s).pending = s.pending := by
  simp only [doWrap]; repeat' split
  all_goals simp

/-! ### doStep -/

@[simp] theorem doStep_nt (s : State) : (doStep s).nt = s.nt := by
  simp only [doStep]; repeat' split
  all_goals simp
@[simp] theorem doStep_cl (s : State) : (doStep s).cl = s.cl := by
  simp only [doStep]; repeat' split
  all_goals simp
@[simp] theorem doStep_resetHeld (s : State) : (doStep s).resetHeld = s.resetHeld := by
  simp only [doStep]; repeat' split
  all_goals simp
@[simp] theorem doStep_supplyOut (s : State) : (doStep s).supplyOut = s.supplyOut := by
  simp only [doStep]; repeat' split
  all_goals simp
@[simp] theorem doStep_pending (s : State) : (doStep s).pending = s.pending := by
  simp only [doStep]; repeat' split
  all_goals simp

/-! ### planAtCompletion -/

@[simp] theorem planAtCompletion_nt (c : Configuration) (p : Plan) (s : State) :
    (planAtCompletion c p s).nt = s.nt := by simp [planAtCompletion]
@[simp] theorem planAtCompletion_ct (c : Configuration) (p : Plan) (s : State) :
    (planAtCompletion c p s).ct = s.ct := by simp [planAtCompletion]
@[simp] theorem planAtCompletion_cau (c : Configuration) (p : Plan) (s : State) :
    (planAtCompletion c p s).cau = s.cau := by simp [planAtCompletion]
@[simp] theorem planAtCompletion_mc (c : Configuration) (p : Plan) (s : State) :
    (planAtCompletion c p s).mc = s.mc := by simp [planAtCompletion]
@[simp] theorem planAtCompletion_cl (c : Configuration) (p : Plan) (s : State) :
    (planAtCompletion c p s).cl = s.cl := by simp [planAtCompletion]
@[simp] theorem planAtCompletion_resetHeld (c : Configuration) (p : Plan) (s : State) :
    (planAtCompletion c p s).resetHeld = s.resetHeld := by simp [planAtCompletion]
@[simp] theorem planAtCompletion_supplyOut (c : Configuration) (p : Plan) (s : State) :
    (planAtCompletion c p s).supplyOut = s.supplyOut := by simp [planAtCompletion]
@[simp] theorem planAtCompletion_computations (c : Configuration) (p : Plan) (s : State) :
    (planAtCompletion c p s).computations = s.computations := by simp [planAtCompletion]
@[simp] theorem planAtCompletion_pending (c : Configuration) (p : Plan) (s : State) :
    (planAtCompletion c p s).pending = s.pending := by simp [planAtCompletion]

/-! ### doCompletion -/

@[simp] theorem doCompletion_cl (n : Snapshot) (s : State) : (doCompletion n s).cl = s.cl := by
  simp only [doCompletion]; repeat' split
  all_goals simp
@[simp] theorem doCompletion_resetHeld (n : Snapshot) (s : State) : (doCompletion n s).resetHeld = s.resetHeld := by
  simp only [doCompletion]; repeat' split
  all_goals simp
@[simp] theorem doCompletion_supplyOut (n : Snapshot) (s : State) : (doCompletion n s).supplyOut = s.supplyOut := by
  simp only [doCompletion]; repeat' split
  all_goals simp
@[simp] theorem doCompletion_computations (n : Snapshot) (s : State) :
    (doCompletion n s).computations = s.computations := by
  simp only [doCompletion]; repeat' split
  all_goals simp
@[simp] theorem doCompletion_pending (n : Snapshot) (s : State) : (doCompletion n s).pending = s.pending := by
  simp only [doCompletion]; repeat' split
  all_goals simp

/-! ### takeStepDues -/

/-- Where no mark waits at or before the position, none comes due. -/
theorem takeReached_none (c : Configuration) (p : Plan) (s : State) (h : ∀ m, markReached s.ct m = false) :
    takeReached c p s = s := by
  simp [takeReached, Num8.all, h]

/-- The dues of a step are all taken, or barred by an early green: taking them again changes nothing. -/
theorem takeStepDues_none (s : State) (h : s.ct.earlyGreen = true ∨ ∀ m, markReached s.ct m = false) :
    takeStepDues s = s := by
  rw [takeStepDues]
  split
  · rcases h with h | h
    · rw [if_pos h]
    · rw [takeReachedDeciding, h, takeReached_none _ _ _ h]; simp
  · rfl

@[simp] theorem takeStepDues_lc (s : State) : (takeStepDues s).lc = s.lc := by
  simp only [takeStepDues]; repeat' split
  all_goals simp
@[simp] theorem takeStepDues_nt (s : State) : (takeStepDues s).nt = s.nt := by
  simp only [takeStepDues]; repeat' split
  all_goals simp
@[simp] theorem takeStepDues_cau (s : State) : (takeStepDues s).cau = s.cau := by
  simp only [takeStepDues]; repeat' split
  all_goals simp
@[simp] theorem takeStepDues_mc (s : State) : (takeStepDues s).mc = s.mc := by
  simp only [takeStepDues]; repeat' split
  all_goals simp
@[simp] theorem takeStepDues_gt (s : State) : (takeStepDues s).gt = s.gt := by
  simp only [takeStepDues]; repeat' split
  all_goals simp
@[simp] theorem takeStepDues_cp (s : State) : (takeStepDues s).cp = s.cp := by
  simp only [takeStepDues]; repeat' split
  all_goals simp
@[simp] theorem takeStepDues_cl (s : State) : (takeStepDues s).cl = s.cl := by
  simp only [takeStepDues]; repeat' split
  all_goals simp
@[simp] theorem takeStepDues_resetHeld (s : State) : (takeStepDues s).resetHeld = s.resetHeld := by
  simp only [takeStepDues]; repeat' split
  all_goals simp
@[simp] theorem takeStepDues_supplyOut (s : State) : (takeStepDues s).supplyOut = s.supplyOut := by
  simp only [takeStepDues]; repeat' split
  all_goals simp
@[simp] theorem takeStepDues_computations (s : State) : (takeStepDues s).computations = s.computations := by
  simp only [takeStepDues]; repeat' split
  all_goals simp
@[simp] theorem takeStepDues_pending (s : State) : (takeStepDues s).pending = s.pending := by
  simp only [takeStepDues]; repeat' split
  all_goals simp

/-! ### loadGood -/

@[simp] theorem loadGood_nt (c : Configuration) (s : State) : (loadGood c s).nt = s.nt := by
  simp only [loadGood]; repeat' split
  all_goals simp
@[simp] theorem loadGood_resetHeld (c : Configuration) (s : State) : (loadGood c s).resetHeld = s.resetHeld := by
  simp only [loadGood]; repeat' split
  all_goals simp
@[simp] theorem loadGood_supplyOut (c : Configuration) (s : State) : (loadGood c s).supplyOut = s.supplyOut := by
  simp only [loadGood]; repeat' split
  all_goals simp
@[simp] theorem loadGood_computations (c : Configuration) (s : State) :
    (loadGood c s).computations = s.computations := by
  simp only [loadGood]; repeat' split
  all_goals simp
@[simp] theorem loadGood_pending (c : Configuration) (s : State) : (loadGood c s).pending = s.pending := by
  simp only [loadGood]; repeat' split
  all_goals simp

/-! ### completeLoad -/

@[simp] theorem completeLoad_nt (o : LoadObservation) (s : State) : (completeLoad o s).nt = s.nt := by
  simp only [completeLoad]; repeat' split
  all_goals simp
@[simp] theorem completeLoad_resetHeld (o : LoadObservation) (s : State) :
    (completeLoad o s).resetHeld = s.resetHeld := by
  simp only [completeLoad]; repeat' split
  all_goals simp
@[simp] theorem completeLoad_supplyOut (o : LoadObservation) (s : State) :
    (completeLoad o s).supplyOut = s.supplyOut := by
  simp only [completeLoad]; repeat' split
  all_goals simp
@[simp] theorem completeLoad_computations (o : LoadObservation) (s : State) :
    (completeLoad o s).computations = s.computations := by
  simp only [completeLoad]; repeat' split
  all_goals simp
@[simp] theorem completeLoad_pending (o : LoadObservation) (s : State) : (completeLoad o s).pending = s.pending := by
  simp only [completeLoad]; repeat' split
  all_goals simp

/-! ### collide -/

@[simp] theorem collide_nt (k : FrameKind) (s : State) : (collide k s).nt = s.nt := by
  simp only [collide]; repeat' split
  all_goals simp
@[simp] theorem collide_ct (k : FrameKind) (s : State) : (collide k s).ct = s.ct := by
  simp only [collide]; repeat' split
  all_goals simp
@[simp] theorem collide_di (k : FrameKind) (s : State) : (collide k s).di = s.di := by
  simp only [collide]; repeat' split
  all_goals simp
@[simp] theorem collide_cau (k : FrameKind) (s : State) : (collide k s).cau = s.cau := by
  simp only [collide]; repeat' split
  all_goals simp
@[simp] theorem collide_mc (k : FrameKind) (s : State) : (collide k s).mc = s.mc := by
  simp only [collide]; repeat' split
  all_goals simp
@[simp] theorem collide_gt (k : FrameKind) (s : State) : (collide k s).gt = s.gt := by
  simp only [collide]; repeat' split
  all_goals simp
@[simp] theorem collide_pa (k : FrameKind) (s : State) : (collide k s).pa = s.pa := by
  simp only [collide]; repeat' split
  all_goals simp
@[simp] theorem collide_olu (k : FrameKind) (s : State) : (collide k s).olu = s.olu := by
  simp only [collide]; repeat' split
  all_goals simp
@[simp] theorem collide_cl (k : FrameKind) (s : State) : (collide k s).cl = s.cl := by
  simp only [collide]; repeat' split
  all_goals simp
@[simp] theorem collide_resetHeld (k : FrameKind) (s : State) : (collide k s).resetHeld = s.resetHeld := by
  simp only [collide]; repeat' split
  all_goals simp
@[simp] theorem collide_supplyOut (k : FrameKind) (s : State) : (collide k s).supplyOut = s.supplyOut := by
  simp only [collide]; repeat' split
  all_goals simp
@[simp] theorem collide_computations (k : FrameKind) (s : State) : (collide k s).computations = s.computations := by
  simp only [collide]; repeat' split
  all_goals simp
@[simp] theorem collide_pending (k : FrameKind) (s : State) : (collide k s).pending = s.pending := by
  simp only [collide]; repeat' split
  all_goals simp

/-! ### succeed -/

@[simp] theorem succeed_nt (k : FrameKind) (s : State) : (succeed k s).nt = s.nt := by
  simp only [succeed]; repeat' split
  all_goals simp
@[simp] theorem succeed_ct (k : FrameKind) (s : State) : (succeed k s).ct = s.ct := by
  simp only [succeed]; repeat' split
  all_goals simp
@[simp] theorem succeed_di (k : FrameKind) (s : State) : (succeed k s).di = s.di := by
  simp only [succeed]; repeat' split
  all_goals simp
@[simp] theorem succeed_cau (k : FrameKind) (s : State) : (succeed k s).cau = s.cau := by
  simp only [succeed]; repeat' split
  all_goals simp
@[simp] theorem succeed_mc (k : FrameKind) (s : State) : (succeed k s).mc = s.mc := by
  simp only [succeed]; repeat' split
  all_goals simp
@[simp] theorem succeed_gt (k : FrameKind) (s : State) : (succeed k s).gt = s.gt := by
  simp only [succeed]; repeat' split
  all_goals simp
@[simp] theorem succeed_pa (k : FrameKind) (s : State) : (succeed k s).pa = s.pa := by
  simp only [succeed]; repeat' split
  all_goals simp
@[simp] theorem succeed_olu (k : FrameKind) (s : State) : (succeed k s).olu = s.olu := by
  simp only [succeed]; repeat' split
  all_goals simp
@[simp] theorem succeed_cp (k : FrameKind) (s : State) : (succeed k s).cp = s.cp := by
  simp only [succeed]; repeat' split
  all_goals simp
@[simp] theorem succeed_cl (k : FrameKind) (s : State) : (succeed k s).cl = s.cl := by
  simp only [succeed]; repeat' split
  all_goals simp
@[simp] theorem succeed_resetHeld (k : FrameKind) (s : State) : (succeed k s).resetHeld = s.resetHeld := by
  simp only [succeed]; repeat' split
  all_goals simp
@[simp] theorem succeed_supplyOut (k : FrameKind) (s : State) : (succeed k s).supplyOut = s.supplyOut := by
  simp only [succeed]; repeat' split
  all_goals simp
@[simp] theorem succeed_computations (k : FrameKind) (s : State) : (succeed k s).computations = s.computations := by
  simp only [succeed]; repeat' split
  all_goals simp
@[simp] theorem succeed_pending (k : FrameKind) (s : State) : (succeed k s).pending = s.pending := by
  simp only [succeed]; repeat' split
  all_goals simp

/-! ### ownMark -/

@[simp] theorem ownMark_nt (a : Attempt) (s : State) : (ownMark a s).nt = s.nt := by
  simp only [ownMark]; repeat' split
  all_goals simp
@[simp] theorem ownMark_ct (a : Attempt) (s : State) : (ownMark a s).ct = s.ct := by
  simp only [ownMark]; repeat' split
  all_goals simp
@[simp] theorem ownMark_di (a : Attempt) (s : State) : (ownMark a s).di = s.di := by
  simp only [ownMark]; repeat' split
  all_goals simp
@[simp] theorem ownMark_cau (a : Attempt) (s : State) : (ownMark a s).cau = s.cau := by
  simp only [ownMark]; repeat' split
  all_goals simp
@[simp] theorem ownMark_mc (a : Attempt) (s : State) : (ownMark a s).mc = s.mc := by
  simp only [ownMark]; repeat' split
  all_goals simp
@[simp] theorem ownMark_gt (a : Attempt) (s : State) : (ownMark a s).gt = s.gt := by
  simp only [ownMark]; repeat' split
  all_goals simp
@[simp] theorem ownMark_pa (a : Attempt) (s : State) : (ownMark a s).pa = s.pa := by
  simp only [ownMark]; repeat' split
  all_goals simp
@[simp] theorem ownMark_olu (a : Attempt) (s : State) : (ownMark a s).olu = s.olu := by
  simp only [ownMark]; repeat' split
  all_goals simp
@[simp] theorem ownMark_cp (a : Attempt) (s : State) : (ownMark a s).cp = s.cp := by
  simp only [ownMark]; repeat' split
  all_goals simp
@[simp] theorem ownMark_cl (a : Attempt) (s : State) : (ownMark a s).cl = s.cl := by
  simp only [ownMark]; repeat' split
  all_goals simp
@[simp] theorem ownMark_counters (a : Attempt) (s : State) : (ownMark a s).counters = s.counters := by
  simp only [ownMark]; repeat' split
  all_goals simp
@[simp] theorem ownMark_resetHeld (a : Attempt) (s : State) : (ownMark a s).resetHeld = s.resetHeld := by
  simp only [ownMark]; repeat' split
  all_goals simp
@[simp] theorem ownMark_supplyOut (a : Attempt) (s : State) : (ownMark a s).supplyOut = s.supplyOut := by
  simp only [ownMark]; repeat' split
  all_goals simp
@[simp] theorem ownMark_computations (a : Attempt) (s : State) : (ownMark a s).computations = s.computations := by
  simp only [ownMark]; repeat' split
  all_goals simp
@[simp] theorem ownMark_pending (a : Attempt) (s : State) : (ownMark a s).pending = s.pending := by
  simp only [ownMark]; repeat' split
  all_goals simp

/-! ### pickupAfterPlan -/

@[simp] theorem pickupAfterPlan_nt (p : Plan) (s : State) : (pickupAfterPlan p s).nt = s.nt := by
  simp only [pickupAfterPlan]; repeat' split
  all_goals simp
@[simp] theorem pickupAfterPlan_cau (p : Plan) (s : State) : (pickupAfterPlan p s).cau = s.cau := by
  simp only [pickupAfterPlan]; repeat' split
  all_goals simp
@[simp] theorem pickupAfterPlan_cl (p : Plan) (s : State) : (pickupAfterPlan p s).cl = s.cl := by
  simp only [pickupAfterPlan]; repeat' split
  all_goals simp
@[simp] theorem pickupAfterPlan_resetHeld (p : Plan) (s : State) : (pickupAfterPlan p s).resetHeld = s.resetHeld := by
  simp only [pickupAfterPlan]; repeat' split
  all_goals simp
@[simp] theorem pickupAfterPlan_supplyOut (p : Plan) (s : State) : (pickupAfterPlan p s).supplyOut = s.supplyOut := by
  simp only [pickupAfterPlan]; repeat' split
  all_goals simp
@[simp] theorem pickupAfterPlan_computations (p : Plan) (s : State) :
    (pickupAfterPlan p s).computations = s.computations := by
  simp only [pickupAfterPlan]; repeat' split
  all_goals simp
@[simp] theorem pickupAfterPlan_pending (p : Plan) (s : State) : (pickupAfterPlan p s).pending = s.pending := by
  simp only [pickupAfterPlan]; repeat' split
  all_goals simp

/-! ### choosePlan -/

@[simp] theorem choosePlan_nt (c : Configuration) (n : Num4) (p : Plan) (s : State) :
    (choosePlan c n p s).nt = s.nt := by
  simp only [choosePlan]; repeat' split
  all_goals simp
@[simp] theorem choosePlan_cl (c : Configuration) (n : Num4) (p : Plan) (s : State) :
    (choosePlan c n p s).cl = s.cl := by
  simp only [choosePlan]; repeat' split
  all_goals simp
@[simp] theorem choosePlan_resetHeld (c : Configuration) (n : Num4) (p : Plan) (s : State) :
    (choosePlan c n p s).resetHeld = s.resetHeld := by
  simp only [choosePlan]; repeat' split
  all_goals simp
@[simp] theorem choosePlan_supplyOut (c : Configuration) (n : Num4) (p : Plan) (s : State) :
    (choosePlan c n p s).supplyOut = s.supplyOut := by
  simp only [choosePlan]; repeat' split
  all_goals simp
@[simp] theorem choosePlan_computations (c : Configuration) (n : Num4) (p : Plan) (s : State) :
    (choosePlan c n p s).computations = s.computations := by
  simp only [choosePlan]; repeat' split
  all_goals simp
@[simp] theorem choosePlan_pending (c : Configuration) (n : Num4) (p : Plan) (s : State) :
    (choosePlan c n p s).pending = s.pending := by
  simp only [choosePlan]; repeat' split
  all_goals simp

/-! ### holdUnit -/

@[simp] theorem holdUnit_cl (s : State) : (holdUnit s).cl = s.cl := by
  simp only [holdUnit]; repeat' split
  all_goals simp
@[simp] theorem holdUnit_resetHeld (s : State) : (holdUnit s).resetHeld = s.resetHeld := by
  simp only [holdUnit]; repeat' split
  all_goals simp
@[simp] theorem holdUnit_supplyOut (s : State) : (holdUnit s).supplyOut = s.supplyOut := by
  simp only [holdUnit]; repeat' split
  all_goals simp
@[simp] theorem holdUnit_computations (s : State) : (holdUnit s).computations = s.computations := by
  simp only [holdUnit]; repeat' split
  all_goals simp
@[simp] theorem holdUnit_pending (s : State) : (holdUnit s).pending = s.pending := by
  simp only [holdUnit]; repeat' split
  all_goals simp

/-! ### risingEdge -/

@[simp] theorem risingEdge_nt (c : Configuration) (p : Plan) (k : Num8) (s : State) :
    (risingEdge c p k s).nt = s.nt := by
  simp only [risingEdge]; repeat' split
  all_goals simp
@[simp] theorem risingEdge_cau (c : Configuration) (p : Plan) (k : Num8) (s : State) :
    (risingEdge c p k s).cau = s.cau := by
  simp only [risingEdge]; repeat' split
  all_goals simp
@[simp] theorem risingEdge_mc (c : Configuration) (p : Plan) (k : Num8) (s : State) :
    (risingEdge c p k s).mc = s.mc := by
  simp only [risingEdge]; repeat' split
  all_goals simp
@[simp] theorem risingEdge_gt (c : Configuration) (p : Plan) (k : Num8) (s : State) :
    (risingEdge c p k s).gt = s.gt := by
  simp only [risingEdge]; repeat' split
  all_goals simp
@[simp] theorem risingEdge_olu (c : Configuration) (p : Plan) (k : Num8) (s : State) :
    (risingEdge c p k s).olu = s.olu := by
  simp only [risingEdge]; repeat' split
  all_goals simp
@[simp] theorem risingEdge_cp (c : Configuration) (p : Plan) (k : Num8) (s : State) :
    (risingEdge c p k s).cp = s.cp := by
  simp only [risingEdge]; repeat' split
  all_goals simp
@[simp] theorem risingEdge_cl (c : Configuration) (p : Plan) (k : Num8) (s : State) :
    (risingEdge c p k s).cl = s.cl := by
  simp only [risingEdge]; repeat' split
  all_goals simp
@[simp] theorem risingEdge_resetHeld (c : Configuration) (p : Plan) (k : Num8) (s : State) :
    (risingEdge c p k s).resetHeld = s.resetHeld := by
  simp only [risingEdge]; repeat' split
  all_goals simp
@[simp] theorem risingEdge_supplyOut (c : Configuration) (p : Plan) (k : Num8) (s : State) :
    (risingEdge c p k s).supplyOut = s.supplyOut := by
  simp only [risingEdge]; repeat' split
  all_goals simp
@[simp] theorem risingEdge_computations (c : Configuration) (p : Plan) (k : Num8) (s : State) :
    (risingEdge c p k s).computations = s.computations := by
  simp only [risingEdge]; repeat' split
  all_goals simp
@[simp] theorem risingEdge_pending (c : Configuration) (p : Plan) (k : Num8) (s : State) :
    (risingEdge c p k s).pending = s.pending := by
  simp only [risingEdge]; repeat' split
  all_goals simp

/-! ### fallingEdge -/

@[simp] theorem fallingEdge_nt (c : Configuration) (p : Plan) (k : Num8) (s : State) :
    (fallingEdge c p k s).nt = s.nt := by
  simp only [fallingEdge]; repeat' split
  all_goals simp
@[simp] theorem fallingEdge_cau (c : Configuration) (p : Plan) (k : Num8) (s : State) :
    (fallingEdge c p k s).cau = s.cau := by
  simp only [fallingEdge]; repeat' split
  all_goals simp
@[simp] theorem fallingEdge_mc (c : Configuration) (p : Plan) (k : Num8) (s : State) :
    (fallingEdge c p k s).mc = s.mc := by
  simp only [fallingEdge]; repeat' split
  all_goals simp
@[simp] theorem fallingEdge_gt (c : Configuration) (p : Plan) (k : Num8) (s : State) :
    (fallingEdge c p k s).gt = s.gt := by
  simp only [fallingEdge]; repeat' split
  all_goals simp
@[simp] theorem fallingEdge_cp (c : Configuration) (p : Plan) (k : Num8) (s : State) :
    (fallingEdge c p k s).cp = s.cp := by
  simp only [fallingEdge]; repeat' split
  all_goals simp
@[simp] theorem fallingEdge_cl (c : Configuration) (p : Plan) (k : Num8) (s : State) :
    (fallingEdge c p k s).cl = s.cl := by
  simp only [fallingEdge]; repeat' split
  all_goals simp
@[simp] theorem fallingEdge_counters (c : Configuration) (p : Plan) (k : Num8) (s : State) :
    (fallingEdge c p k s).counters = s.counters := by
  simp only [fallingEdge]; repeat' split
  all_goals simp
@[simp] theorem fallingEdge_resetHeld (c : Configuration) (p : Plan) (k : Num8) (s : State) :
    (fallingEdge c p k s).resetHeld = s.resetHeld := by
  simp only [fallingEdge]; repeat' split
  all_goals simp
@[simp] theorem fallingEdge_supplyOut (c : Configuration) (p : Plan) (k : Num8) (s : State) :
    (fallingEdge c p k s).supplyOut = s.supplyOut := by
  simp only [fallingEdge]; repeat' split
  all_goals simp
@[simp] theorem fallingEdge_computations (c : Configuration) (p : Plan) (k : Num8) (s : State) :
    (fallingEdge c p k s).computations = s.computations := by
  simp only [fallingEdge]; repeat' split
  all_goals simp
@[simp] theorem fallingEdge_pending (c : Configuration) (p : Plan) (k : Num8) (s : State) :
    (fallingEdge c p k s).pending = s.pending := by
  simp only [fallingEdge]; repeat' split
  all_goals simp

end Sys2Proof.Machine
end

