-- ==== Sys2Proof/Tests/Slice0.lean ====
section
/-! SUPPORT. Tests: ill-formed commands refused, the handbook's worked examples, and for every obligation with hypotheses
a concrete state and operands that meet them. Expected values are the handbook's, or worked by hand from its rules. -/

namespace Sys2Proof.Tests

open Sys2Proof Sys2Proof.Machine

/-! ### A unit to test on -/

/-- The plan of section 7.1 with the marks of section 3.7 and the priority settings of section 9.8. -/
def demoPlan : Plan :=
  { cBase := 1200, cMin := 1000, cMax := 1800, cStep := 60, direction := .inbound, vIn := 50, vOut := 40,
    startLoss := 20, headway := 20, qMax := 300, gMin := 550, gateMin := 300, lostTime := 120, satArterial := 1800,
    satCross := 1600, capacity := ⟨40, 40⟩, fFull := 150, fRel := 60, marks := ⟨20, 400, 660, 760, 980, 0, 0, 0⟩,
    stretch := .n3, eMax := 150, xMax := 120, xMin := 100, pLife := 900 }

/-- Plan 2 of section 7.12, with the other settings of plan 1. -/
def eveningPlan : Plan :=
  { demoPlan with cBase := 1100, cMin := 900, cMax := 1600, direction := .outbound, gMin := 450,
                  marks := ⟨20, 0, 600, 700, 900, 0, 0, 0⟩ }

/-- A detector line of a role. -/
def demoLine (r : Role) (filter : Nat) : DetectorSetting := ⟨r, filter, 120, 5⟩

/-- The configuration of station 31 of section 7.1, with eight detector lines and eight output lines. -/
def demoConfig (sync : Bool) : Configuration :=
  { station := 31, group := 2, position := 3150, reach := 1500, period := 20, hopLimit := 5, retention := 3,
    syncUsed := sync,
    detectors := ⟨demoLine .advIn 10, demoLine .stopIn 10, demoLine .stopIn 10, demoLine .cross 10,
                  demoLine .transitHigh 0, demoLine .transitLow 0, demoLine .advOut 10, demoLine .unused 10⟩,
    outputs := ⟨⟨some .n1, .direct, none⟩, ⟨some .n3, .direct, some .inbound⟩, ⟨some .n3, .inverted, none⟩,
                ⟨some .n5, .direct, none⟩, ⟨none, .direct, none⟩, ⟨some .n3, .direct, some .outbound⟩,
                ⟨none, .direct, none⟩, ⟨some .n8, .direct, none⟩⟩,
    plans := ⟨some demoPlan, some eveningPlan, none, none⟩ }

/-- The header of the configuration block of that station, by section 11.8: length 290, station, group, position, reach,
period, hop limit, retention, sync. -/
def demoHeader (station sync : Byte) : List Byte :=
  [0x01, 0x22, station, 2, 0x0C, 0x4E, 0x05, 0xDC, 20, 5, 3, sync]

/-- Its detector and output entries. -/
def demoLines : List Byte :=
  [1, 10, 120, 5, 3, 10, 120, 5, 3, 10, 120, 5, 5, 10, 120, 5, 6, 0, 120, 5, 7, 0, 120, 5, 2, 10, 120, 5, 0, 10, 120, 5,
   1, 0, 0, 3, 0, 1, 3, 1, 0, 5, 0, 0, 0, 0, 0, 3, 0, 2, 0, 0, 0, 8, 0, 0]

/-- Its plan 1. -/
def demoPlanOne : List Byte :=
  [1, 0x04, 0xB0, 0x03, 0xE8, 0x07, 0x08, 60, 1, 50, 40, 20, 20, 0x01, 0x2C, 0x02, 0x26, 0x01, 0x2C, 0x00, 0x78, 0x07,
   0x08, 0x06, 0x40, 40, 40, 0x00, 0x96, 0x00, 0x3C, 0x00, 0x14, 0x01, 0x90, 0x02, 0x94, 0x02, 0xF8, 0x03, 0xD4, 0, 0, 0,
   0, 0, 0, 3, 150, 0x00, 0x78, 0x00, 0x64, 0x03, 0x84]

/-- Its plan 2. -/
def demoPlanTwo : List Byte :=
  [1, 0x04, 0x4C, 0x03, 0x84, 0x06, 0x40, 60, 2, 50, 40, 20, 20, 0x01, 0x2C, 0x01, 0xC2, 0x01, 0x2C, 0x00, 0x78, 0x07,
   0x08, 0x06, 0x40, 40, 40, 0x00, 0x96, 0x00, 0x3C, 0x00, 0x14, 0, 0, 0x02, 0x58, 0x02, 0xBC, 0x03, 0x84, 0, 0, 0, 0, 0,
   0, 3, 150, 0x00, 0x78, 0x00, 0x64, 0x03, 0x84]

/-- The block without its CRC. -/
def demoBody (station sync : Byte) : List Byte :=
  demoHeader station sync ++ demoLines ++ demoPlanOne ++ demoPlanTwo ++ List.replicate 110 0

/-- A block with the CRC its contents ask for. -/
def sealed (body : List Byte) : List Byte := body ++ putWord (crc16 body)

/-- A try in which the memory answers, one in which it does not, and one whose line stays low. -/
def goodTry : LoadTry := ⟨0, true, true, true, true⟩
def silentTry : LoadTry := ⟨0, false, false, false, false⟩
def lowTry : LoadTry := ⟨10, false, false, false, false⟩

/-- The observations of a load that reads a block at its first try. -/
def loadOf (data : List Byte) : LoadObservation := ⟨[goodTry], data⟩

/-- The unit in PASS with the configuration in force and plan 1. -/
def loaded (sync : Bool) : State := takeConfiguration (demoConfig sync) demoPlan State.reset

/-- The unit in charge at a position of its first cycle. -/
def charged (m : ChargeMode) (pos : Nat) : State :=
  { loaded true with
    mc := { (loaded true).mc with mode := .inCharge m }
    ct := { startClock demoPlan 1200 CT.initial with position := pos }
    lc := { (loaded true).lc with beaconTimer := some 20 } }

/-- An entry at a position, of a station that heads an inbound wave and advertises these approaches. -/
def demoEntry (station position : Nat) (a : PerDir Approach) : Entry :=
  { station := station, capture := ⟨1130, 60⟩, silence := 100, state := .live, approaches := a
    beacon := { position := position, period := 20, mode := .leading, direction := .inbound, cycle := 1200,
                stamped := 430, triple := ⟨1200, station, 0⟩ } }

/-- Clear approaches fed by nobody. -/
def clearApproaches : PerDir Approach := ⟨⟨.clear, 0⟩, ⟨.clear, 0⟩⟩

/-- The unit in charge beside a downstream neighbour, station 30, that is FULL inbound and fed by this unit. -/
def gatedTable : List Entry := [demoEntry 30 2700 ⟨⟨.full, 31⟩, ⟨.clear, 0⟩⟩]

/-- The next state of an outcome; the state given where the outcome is no next state. -/
def after (s : State) : Host.Outcome State Fault Refusal → State
  | .next t => t
  | _ => s

/-- A state with one more line change. -/
def withLine (k : Num8) (l : DetectorLine) (s : State) : State := setLine k l s

/-- A detector line with raw and filtered level, whose filter times, with an occupied run. -/
def lineAt (raw occupied timing : Bool) (run : Nat) (fault : FaultState) : DetectorLine :=
  { DetectorLine.initial raw with occupied := occupied, timing := timing, occupiedRun := run, vacantRun := run,
                                  fault := fault }

/-! ### Ill-formed commands are refused -/

theorem test_wf_station_zero : Instr.wellFormed (.entryQuiet 0) = false := by decide
theorem test_wf_station_251 : Instr.wellFormed (.expiry 251) = false := by decide
theorem test_wf_no_try : Instr.wellFormed (.configLoadComplete ⟨[], []⟩) = false := by decide
theorem test_wf_five_tries :
    Instr.wellFormed (.configLoadComplete ⟨[silentTry, silentTry, silentTry, silentTry, silentTry], []⟩) = false := by decide
theorem test_wf_try_after_the_end :
    Instr.wellFormed (.configLoadComplete ⟨[lowTry, silentTry], []⟩) = false := by decide
theorem test_wf_three_silent_tries :
    Instr.wellFormed (.configLoadComplete ⟨[silentTry, silentTry, silentTry], []⟩) = false := by decide
theorem test_wf_data_missing : Instr.wellFormed (.configLoadComplete ⟨[goodTry], [0x01, 0x22, 31]⟩) = false := by decide +kernel
theorem test_wf_accepts_short_block : Instr.wellFormed (.configLoadComplete ⟨[goodTry], [0x01, 0x21, 31]⟩) = true := by
  decide +kernel
theorem test_wf_accepts_bus_failure : Instr.wellFormed (.configLoadComplete ⟨[silentTry, lowTry], []⟩) = true := by decide
theorem test_no_row_has_bits : decodeTableWord 16 0x1234 = none := rfl

/-! ### Worked examples of the handbook -/

/-- The check of the nine digits is 29B1 (R4). -/
theorem test_crc_of_the_digits : crc16 [0x31, 0x32, 0x33, 0x34, 0x35, 0x36, 0x37, 0x38, 0x39] = 0x29B1 := by decide +kernel

/-- Section 1.9: station 12's first two draws give 52 757 and 12, then 44 306 and 10; station 13's first gives 8. -/
theorem test_generator_draws :
    (advanceGenerator (BitVec.ofNat 16 (12 * 257))).toNat = 52757
    ∧ drawFrom (advanceGenerator (BitVec.ofNat 16 (12 * 257))) 16 = 12
    ∧ drawFrom (advanceGenerator 52757#16) 16 = 10 ∧ (advanceGenerator 52757#16).toNat = 44306
    ∧ drawFrom (advanceGenerator (BitVec.ofNat 16 (13 * 257))) 16 = 8 := by decide

/-- Section 1.10: the widths of eight attempts of a STORAGE frame. -/
theorem test_draw_widths : [1, 2, 3, 4, 5, 6, 7, 8].map (drawWidth .storage) = [4, 8, 16, 32, 64, 64, 64, 64] := by decide

/-- The table of section 2.7, before its events. -/
def fullTable : List Entry :=
  [demoEntry 21 1400 clearApproaches, demoEntry 25 1500 clearApproaches, demoEntry 22 1700 clearApproaches,
   demoEntry 14 2200 clearApproaches, demoEntry 23 2500 clearApproaches, demoEntry 12 3400 clearApproaches,
   demoEntry 11 4000 clearApproaches, demoEntry 24 4100 clearApproaches]

/-- Section 2.7: the farthest entry is station 21, and after its removal and station 26's entry the selections at 2 800
read 26 and 23. -/
theorem test_farthest_and_nearest :
    (farthestEntry 2800 fullTable).map Entry.station = some 21
    ∧ (farthestEntry 2800 (fullTable.drop 1)).map Entry.station = some 25
    ∧ fedBySelection 2800 (insertEntry (demoEntry 26 3100 clearApproaches) (withoutStation 21 fullTable)) .inbound = 26
    ∧ fedBySelection 2800 fullTable .outbound = 23 := by decide

/-- Section 3.8: mark 1 is at 19 at C = 1 140; section 3.7: the stretch mark at 550 at a = −110, and at 595 at x = 45. -/
theorem test_mark_positions :
    demoPlan.scaled 1140 .n1 = 19 ∧ demoPlan.scaled 1140 .n5 = 931
    ∧ shiftedPosition demoPlan 1200 (-110) 0 .n3 = 550 ∧ shiftedPosition demoPlan 1200 (-110) 45 .n3 = 595
    ∧ shiftedPosition demoPlan 1200 (-110) 45 .n2 = 400 := by decide

/-- Section 4.9: 31 arrivals on red against a capacity of 40 make the direction FILLING, and 29 do not. -/
theorem test_filling_threshold : (3 * 40 ≤ 4 * 31) ∧ ¬ (3 * 40 ≤ 4 * 29) := by decide

/-- Section 6.5: the ratios give 725, the demand 836, the smoothed demand 1 109 and the quantised one 1 120. -/
theorem test_demand_example :
    junctionRatio demoPlan ⟨⟨30, 22⟩, 12, ⟨0, 0⟩, ⟨0, 0⟩⟩ 1200 = 725 ∧ localDemand demoPlan 725 = 836
    ∧ smoothDemand 1200 836 = 1109 ∧ quantise { demoPlan with cMin := 600 } 1109 = 1120 := by decide

/-- An entry that advertises a demand triple. -/
def advertising (station : Nat) (t : Triple) : Entry :=
  { demoEntry station 3600 clearApproaches with
    beacon := { (demoEntry station 3600 clearApproaches).beacon with triple := t } }

/-- Section 6.5: station 13 believes 1 400 of station 12 at one hop, and C steps from 1 200 to 1 260. -/
theorem test_agreement_example :
    agreedDemand 13 5 1120 [advertising 14 ⟨1400, 12, 1⟩, advertising 12 ⟨1400, 12, 0⟩, advertising 11 ⟨1500, 9, 5⟩]
      = ⟨1400, 12, 1⟩
    ∧ stepCycle { demoPlan with cMin := 600 } 1200 1400 = 1260
    ∧ stepCycle { demoPlan with cMin := 600 } 1380 1400 = 1400 := by decide

/-- Section 7.4: the four travel times. -/
theorem test_travel_times :
    travelTime 450 50 = 324 ∧ travelTime 455 40 = 410 ∧ travelTime 127 50 = 91 ∧ travelTime 2450 40 = 2205 := by decide

/-- Section 7.1: e is −326, a is −110 and the mode SEEKING. -/
theorem test_offset_example :
    offsetStage 3150 demoPlan 1200
        { closed := ⟨⟨0, 0⟩, 0, ⟨9, 0⟩, ⟨0, 0⟩⟩, cPrev := 1150, finished := 60, pendingPlan := none,
          previousMode := .leading, entries := [], reference := some (demoEntry 32 3600 clearApproaches), cycle := 1200,
          smoothed := 1200 }
      = ⟨some (-326), -110, .seeking⟩ := by decide

/-- Section 7.11: the errors and previous modes of eight of its computations. -/
theorem test_mode_decisions :
    modeForError .leading 7 = .seeking ∧ modeForError .seeking 2 = .inStep ∧ modeForError .inStep (-9) = .inStep
    ∧ modeForError .inStep 14 = .seeking ∧ modeForError .seeking (-8) = .seeking ∧ modeForError .seeking (-1) = .inStep
    ∧ adjustmentFor demoPlan 1200 600 = 240 ∧ adjustmentFor demoPlan 1200 120 = 120 := by decide

/-- Section 7.12: the shortening limit of plan 2 at C = 1 200 is 150. -/
theorem test_shortening_limit : shorteningLimit eveningPlan 1200 = 150 ∧ adjustmentFor eveningPlan 1200 (-240) = -150 := by
  decide

/-- A sealed block of 288 bytes and its CRC passes the CRC check, whatever its bytes. -/
theorem sealed_crc (body : List Byte) (h : body.length = 288) : blockCrcOk (sealed body) = true := by
  simp [blockCrcOk, sealed, h, putWord]

/-- The checks of a sealed block beside its CRC, and the configuration it gives. -/
theorem loadEnd_sealed (body : List Byte) (h : body.length = 288) (hl : u16 (sealed body) 0 = 290) :
    loadEnd (loadOf (sealed body)) = (match firstFailure (rangeTests (sealed body) ++ crossTests (sealed body)) with
      | some off => .bad (off + 1)
      | none => .good (readConfiguration (sealed body))) := by
  have h1 : dataSuffices (sealed body) = true := by simp [dataSuffices, sealed, h, putWord]
  have h2 : blockLength (sealed body) = 290 := hl
  simp only [loadEnd, loadOf, runTries, cleanupFails, memoryAnswers, goodTry, h1]
  have h3 : firstFailure (blockTests (sealed body))
      = firstFailure (rangeTests (sealed body) ++ crossTests (sealed body)) := by
    simp only [blockTests, firstFailure, h2, sealed_crc body h, decide_true, if_true]
  rw [h3]
  rfl

/-- The blocks of the demo configurations load good, and give the configurations they were written from. -/
theorem test_block_is_read :
    loadEnd (loadOf (sealed (demoBody 31 1))) = .good (demoConfig true)
    ∧ loadEnd (loadOf (sealed (demoBody 31 0))) = .good (demoConfig false) := by
  rw [loadEnd_sealed _ (by decide +kernel) (by decide +kernel), loadEnd_sealed _ (by decide +kernel) (by decide +kernel)]
  decide +kernel

/-- A length other than 290, and a station number of 0: failure indices 1 and 3 (R179). -/
theorem test_bad_blocks :
    loadEnd (loadOf (List.replicate 290 0)) = .bad 1 ∧ loadEnd (loadOf (sealed (demoBody 0 1))) = .bad 3 := by
  rw [loadEnd_sealed (demoBody 0 1) (by decide +kernel) (by decide +kernel)]
  decide +kernel

/-! ### The units above obey the laws -/

theorem demoPlan_checked : demoPlan.Checked := by
  constructor <;> first
    | decide
    | (unfold CycleValue; decide)
    | (intro d; cases d <;> decide)

theorem eveningPlan_checked : eveningPlan.Checked := by
  constructor <;> first
    | decide
    | (unfold CycleValue; decide)
    | (intro d; cases d <;> decide)

theorem demoConfig_checked (sync : Bool) : (demoConfig sync).Checked := by
  constructor
  case plans =>
    intro n p h
    cases n <;> simp [demoConfig, Four.get] at h
    · exact h ▸ demoPlan_checked
    · exact h ▸ eveningPlan_checked
  all_goals first
    | (cases sync <;> decide)
    | (intro k; cases sync <;> cases k <;> decide)
    | (intro d k j h1 h2; cases d <;> cases k <;> simp [Configuration.role, demoConfig, demoLine, Eight.get, advanceRole] at h1 <;>
        cases j <;> simp [Configuration.role, demoConfig, demoLine, Eight.get, advanceRole] at h2 ⊢)

theorem reset_aside : State.reset.StandsAside := by
  constructor <;> first | decide | (intro k; cases k <;> decide)

theorem loaded_aside (sync : Bool) : (loaded sync).StandsAside := by
  cases sync <;> constructor <;> first | decide | (intro k; cases k <;> decide)

theorem loaded_setup (sync : Bool) : (loaded sync).setup = some (demoConfig sync, demoPlan) := rfl

theorem charged_setup (m : ChargeMode) (pos : Nat) : (charged m pos).setup = some (demoConfig true, demoPlan) := rfl

/-- The snapshot of a computation with an inbound stop-line count and a pending plan. -/
def demoSnapshot (arrivals : Nat) (plan : Option Num4) : Snapshot :=
  { closed := { ClosedRecord.zero with stop := ⟨arrivals, 0⟩ }, cPrev := 1200, finished := 1, pendingPlan := plan,
    previousMode := .leading, entries := [], reference := none, cycle := 1200, smoothed := 1200 }

/-- The unit in charge with that computation in flight. -/
def computing (pos arrivals : Nat) (plan : Option Num4) : State :=
  { charged .leading pos with
    cau := { (charged .leading pos).cau with snapshot := some (demoSnapshot arrivals plan) } }

/-- The unit in charge with a computation in flight, of a cycle without traffic and with no plan pending. -/
def inFlight (pos : Nat) : State := computing pos 0 none

/-- A snapshot that a unit in charge of the demo configuration may hold. -/
def snapshotFits (o : Option Snapshot) : Prop :=
  ∀ n, o = some n → n.cycle = 1200 ∧ n.entries = []
    ∧ ∀ k, n.pendingPlan = some k → ((demoConfig true).plans.get k).isSome = true

/-- The demo unit in charge is lawful at every position below 1 200, with a fitting snapshot or none, whatever its
detector lines say. -/
theorem charged_lawful (m : ChargeMode) (pos : Nat) (h : pos < 1200) (o : Option Snapshot) (ho : snapshotFits o) (d : DI) :
    ({ charged m pos with cau := { (charged m pos).cau with snapshot := o }, di := d } : State).Lawful := by
  constructor
  · exact ⟨demoConfig_checked true, ⟨.n1, demoPlan, rfl, rfl⟩, fun n hn => nomatch hn⟩
  · exact ⟨fun _ => rfl, fun hc => absurd hc (by show ¬ (true = false); decide), fun _ => rfl⟩
  · refine ⟨h, fun _ => rfl, ?_, ?_, ?_, fun h => nomatch h⟩
    · show (1200 : Nat) ≤ 3180; decide
    · show (0 : Nat) ≤ 300; decide
    · show ExtensionState.none = .running ↔ (none : Option Extension).isSome = true; decide
  · refine ⟨fun _ => rfl, ?_, ?_⟩
    · show -((1200 / 8 : Nat) : Int) ≤ 0; decide
    · show (0 : Int) ≤ ((1200 / 5 : Nat) : Int); decide
  · show (1000 : Nat) ≤ 1200 ∧ 1200 ≤ 1800 ∧ 1200 % 20 = 0; decide
  · refine ⟨?_, fun _ => rfl⟩
    show (0 : Nat) ≤ 5; decide
  · intro e he; exact nomatch he
  · intro n hn
    obtain ⟨h1, h2, h3⟩ := ho n hn
    exact ⟨rfl, h1, by simp [h2], fun c k hc hk => by cases hc; exact h3 k hk⟩
  · intro d n hn; cases d <;> exact nomatch hn

theorem inFlight_lawful (pos : Nat) (h : pos < 1200) : (inFlight pos).Lawful :=
  charged_lawful .leading pos h _ (by intro n hn; cases hn; exact ⟨rfl, rfl, fun k hk => nomatch hk⟩) _

theorem computing_lawful (pos arrivals : Nat) (h : pos < 1200) : (computing pos arrivals (some .n2)).Lawful :=
  charged_lawful .leading pos h _ (by intro n hn; cases hn; exact ⟨rfl, rfl, fun k hk => by cases hk; rfl⟩) _

theorem leading_lawful (pos : Nat) (h : pos < 1200) : (charged .leading pos).Lawful :=
  charged_lawful .leading pos h none (fun _ hn => nomatch hn) _

/-! ### Every obligation's hypotheses are met

Equations that only name a value (t = …, u = …) are met by that value and are not repeated here. -/

theorem witness_StepRunsFrontCommand : ({ State.reset with pending := [.status] } : State).pending = .status :: [] := rfl

theorem witness_EmptyQueueLetsTimePass :
    (State.reset.pending = [] ∧ ({ State.reset with supplyOut := true } : State).powered = false)
    ∧ (State.reset.powered = true ∧ dueNow State.reset = [])
    ∧ ((charged .leading 20).pending = [] ∧ (charged .leading 20).powered = true ∧ dueNow (charged .leading 20) ≠ [])
    ∧ (dueNow (charged .leading 19) = [] ∧ (charged .leading 19).config = some (demoConfig true)
        ∧ ((demoConfig true).detectors.get .n1).role ≠ .unused) := by
  refine ⟨by decide, by decide, ⟨rfl, rfl, by decide⟩, by decide, rfl, by decide⟩

theorem witness_UnpoweredUnitIgnores : ({ State.reset with resetHeld := true } : State).powered = false := rfl

theorem witness_EventWithoutCauseChangesNothing :
    (State.reset.lc.attempt = none ∧ State.reset.lc.deferral = none ∧ State.reset.inCharge = false
      ∧ State.reset.lc.silenceTimer ≠ some 0 ∧ State.reset.nt.entries = [] ∧ State.reset.ct.running = false
      ∧ State.reset.cau.snapshot = none ∧ State.reset.ct.position = 0 ∧ (State.reset.ct.marks.get .n1).state ≠ .waiting
      ∧ State.reset.pa.extension = none ∧ State.reset.pa.queue = [] ∧ (State.reset.di.lines.get .n1).timing = false
      ∧ (State.reset.di.lines.get .n1).occupied = false ∧ State.reset.di.storage.get .inbound ≠ .full
      ∧ State.reset.mc.sync.timing = false ∧ State.reset.mc.preempt.timing = false ∧ State.reset.mc.mode ≠ .pickup
      ∧ State.reset.cp.inHand = none ∧ State.reset.cp.receiver = .wait ∧ State.reset.lc.receiver = .hunt)
    ∧ (charged .leading 21).lc.beaconTimer ≠ some 0 ∧ 20 < (charged .leading 21).ct.position
    ∧ (charged .leading 19).ct.position < ((charged .leading 19).ct.marks.get .n1).position
    ∧ ({ (charged .leading 19).ct with earlyGreen := true } : CT).earlyGreen = true
    ∧ startStorage { demoConfig true with detectors := Eight.make (fun _ => demoLine .cross 10) } .inbound = .unknown
    ∧ (loaded true).cl ≠ .loading
    ∧ ({ State.reset.lc with attempt := some ⟨.beacon, none⟩ } : LC).attempt ≠ none
    ∧ ({ State.reset.cp with receiver := .length true } : CP).receiver ≠ .wait
    ∧ ({ State.reset.cp with inHand := some .refused } : CP).inHand ≠ none := by
  refine ⟨by decide, by decide, by decide, by decide, rfl, by decide, by decide, by decide, by decide, by decide⟩

/-- The unit in charge with everything that can come due one decisecond, one vehicle run or one age below its limit. -/
def nearlyDue : State :=
  { charged .leading 299 with
    ct := { (charged .leading 299).ct with extension := .running, x := 119 }
    pa := { PA.initial with extension := some ⟨.n5, 120⟩, queue := [⟨.n6, .low, 899⟩] }
    gt := ⟨⟨some 30, some 300, false, ⟨true, true, false⟩⟩, ⟨none, none, false, ⟨false, false, false⟩⟩⟩
    di := { (loaded true).di with
            lines := (((loaded true).di.lines.set .n1 (lineAt true true false 149 .good)).set .n7
              (lineAt false false false 59 .good)).set .n2 (lineAt true true false 1199 .good)
            storage := ⟨.clear, .full⟩ }
    nt := { entries := [{ demoEntry 30 2700 clearApproaches with silence := 61 }], lastReference := none } }

/-- The link causes of EventWithoutCauseChangesNothing, each negated at a boundary. -/
theorem witness_EventWithoutCause_link :
    (∀ a, (some ⟨.beacon, none⟩ : Option Attempt) = some a → a.frame = none)
    ∧ (∀ a, (some ⟨.beacon, some [1]⟩ : Option Attempt) = some a → a.frame ≠ none)
    ∧ LineState.busy = .busy ∧ State.reset.lc.receiver ≠ .start2
    ∧ (∀ k n got f, Receiver.check ⟨3, 1⟩ 1 [3] none ≠ .check k n got (some f))
    ∧ (∀ c, State.reset.cl ≠ .good c)
    ∧ (∀ e ∈ nearlyDue.nt.entries, e.station = 30 → e.silence ≠ 0)
    ∧ (∀ e ∈ nearlyDue.nt.entries, e.station = 30 → e.state = .quiet ∨ 3 * e.beacon.period < e.silence) := by
  refine ⟨fun a h => ?_, fun a h => ?_, rfl, by decide, fun k n got f h => ?_, fun c h => ?_, by decide, by decide⟩
  · cases h; rfl
  · cases h; decide
  · cases h
  · cases h

/-- The clock's causes of EventWithoutCauseChangesNothing, each negated at a boundary. -/
theorem witness_EventWithoutCause_clock :
    nearlyDue.ct.running = true ∧ nearlyDue.ct.extension = .running
    ∧ (charged .leading 1198).ct.position + 1 < (charged .leading 1198).ct.cRun
    ∧ (nearlyDue.gt.get .outbound).station = none
    ∧ (∀ g, (nearlyDue.gt.get .inbound).point = some g → nearlyDue.ct.position < g)
    ∧ ({ nearlyDue.gt.inbound with reached := true } : Gate).reached = true
    ∧ ({ PA.initial with windowOpened := true } : PA).windowOpened = true
    ∧ (∀ p, (charged .leading 1049).planInForce = some p →
        (charged .leading 1049).ct.position + p.eMax < (charged .leading 1049).ct.cRun)
    ∧ (∀ p, (charged .leading 99).planInForce = some p → (charged .leading 99).ct.position < p.xMin)
    ∧ (∀ p, (charged .leading 1079).planInForce = some p →
        ∃ m, ((charged .leading 1079).ct.marks.get m).state ≠ .unused
          ∧ (charged .leading 1079).ct.position < ((charged .leading 1079).ct.marks.get m).position + p.xMin)
    ∧ (∀ e, nearlyDue.pa.extension = some e → nearlyDue.ct.x < e.limit)
    ∧ (∀ p, nearlyDue.planInForce = some p → ∀ r ∈ nearlyDue.pa.queue, r.line = .n6 → r.age < p.pLife) := by
  refine ⟨rfl, rfl, by decide, rfl, fun g h => ?_, rfl, rfl, fun p h => ?_, fun p h => ?_, fun p h => ?_, fun e h => ?_,
    fun p h => ?_⟩ <;> cases h <;> first | decide | exact ⟨.n5, by decide⟩

/-- The causes on the input lines and the cabinet inputs, each negated at a boundary. -/
theorem witness_EventWithoutCause_inputs :
    ((lineAt true true true 0 .good).raw = true ∧ (lineAt false false true 0 .good).occupied = false)
    ∧ (∀ c, nearlyDue.cl = .good c → c.role .n8 = .unused)
    ∧ (∀ c, nearlyDue.cl = .good c → (nearlyDue.di.lines.get .n2).occupiedRun < 10 * (c.detectors.get .n2).stuckOn)
    ∧ nearlyDue.di.storage.get .inbound = .clear
    ∧ (∀ c p k, nearlyDue.setup = some (c, p) → c.advanceLine .inbound = some k →
        (nearlyDue.di.lines.get k).occupiedRun < p.fFull)
    ∧ nearlyDue.di.storage.get .outbound = .full
    ∧ (∀ c p k, nearlyDue.setup = some (c, p) → c.advanceLine .outbound = some k →
        (nearlyDue.di.lines.get k).vacantRun < p.fRel)
    ∧ (∀ p, ({ loaded true with mc := { (loaded true).mc with mode := .pickup, pickupElapsed := 1299 } } : State).planInForce
          = some p → 1299 < p.cBase + 100)
    ∧ loadEnd ⟨[silentTry], []⟩ = .unfinished := by
  refine ⟨by decide, fun c h => ?_, fun c h => ?_, by decide, fun c p k h hk => ?_, by decide, fun c p k h hk => ?_,
    fun p h => ?_, by decide⟩
  · cases h; decide
  · cases h; decide
  · cases h; cases hk; decide
  · cases h; cases hk; decide
  · cases h; decide

/-- The unit with the port holding a command. -/
def holding (h : InHand) (s : State) : State := { s with cp := { s.cp with inHand := some h } }

theorem witness_PowerUpAndRestartResetTheUnit :
    (holding (.accepted .restart) (loaded true)).powered = true
    ∧ (holding (.accepted .restart) (loaded true)).cp.inHand = some (.accepted .restart) := ⟨rfl, rfl⟩

theorem witness_GoodLoadIsChecked : loadEnd (loadOf (sealed (demoBody 31 1))) = .good (demoConfig true) :=
  test_block_is_read.1

/-- The demo block holds the demo configuration at the offsets of section 11.8. -/
theorem test_block_fields : BlockRead (sealed (demoBody 31 1)) (demoConfig true) := by
  constructor
  case plans =>
    intro n p h
    cases n <;> simp [demoConfig, Four.get] at h <;> subst h
    all_goals
      constructor
      case marks => intro m; cases m <;> decide +kernel
      all_goals decide +kernel
  case codes => exact ⟨by decide +kernel, fun n => by cases n <;> decide +kernel⟩
  all_goals first
    | (intro k; cases k <;> decide +kernel)
    | decide +kernel

theorem witness_GoodLoadIsChecked_every :
    goodTry.lowReads < 10 ∧ goodTry.acknowledged = true ∧ 290 ≤ (sealed (demoBody 31 1)).length
    ∧ u16 (sealed (demoBody 31 1)) 0 = 290 ∧ BlockRead (sealed (demoBody 31 1)) (demoConfig true)
    ∧ (demoConfig true).Checked :=
  ⟨by decide, by decide, by decide +kernel, by decide +kernel, test_block_fields, demoConfig_checked true⟩

theorem witness_LoadEndsByFirstFailure :
    (10 ≤ lowTry.lowReads ∧ ([] : List LoadTry).length < 4)
    ∧ (3 ≤ ([0x01, 0x21, 31] : List Byte).length ∧ u16 ([0x01, 0x21, 31] : List Byte) 0 ≠ 290)
    ∧ (∀ t ∈ [silentTry, silentTry, silentTry, silentTry], t.lowReads < 10 ∧ t.acknowledged = false)
    ∧ [silentTry, silentTry, silentTry].length < 4 ∧ goodTry.lowReads < 10 ∧ goodTry.acknowledged = true
    ∧ (290 ≤ (List.replicate 290 (0 : Byte)).length ∧ u16 (List.replicate 290 (0 : Byte)) 0 ≠ 290)
    ∧ (290 ≤ (sealed (demoBody 0 1)).length ∧ u16 (sealed (demoBody 0 1)) 0 = 290
        ∧ rangeTests (sealed (demoBody 0 1)) ++ crossTests (sealed (demoBody 0 1))
            = [] ++ ⟨2, false⟩ :: ((rangeTests (sealed (demoBody 0 1))).tail ++ crossTests (sealed (demoBody 0 1))))
    ∧ (∀ y ∈ rangeTests (sealed (demoBody 31 1)) ++ crossTests (sealed (demoBody 31 1)), y.ok = true)
    ∧ State.reset.cl = .loading ∧ loadEnd (loadOf (List.replicate 290 0)) = .bad 1 := by
  refine ⟨by decide, by decide, by decide, by decide, by decide, by decide, by decide +kernel, ⟨by decide +kernel,
    by decide +kernel, by decide +kernel⟩, by decide +kernel, rfl, test_bad_blocks.1⟩

/-- The CRC hypotheses of LoadEndsByFirstFailure: a sealed block's CRC is right, and another block's is wrong. -/
theorem witness_LoadEndsByFirstFailure_crc :
    u16 (sealed (demoBody 31 1)) 288 = (crc16 ((sealed (demoBody 31 1)).take 288)).toNat
    ∧ u16 (sealed (demoBody 31 1)) 288 ≠ (crc16 ((sealed (demoBody 31 1)).take 288) + 1).toNat := by
  have h : (demoBody 31 1).length = 288 := by decide +kernel
  have h1 : u16 (sealed (demoBody 31 1)) 288 = (crc16 (demoBody 31 1)).toNat := by
    have := u16_putWord (crc16 (demoBody 31 1)) (demoBody 31 1) []
    rwa [List.append_nil, h] at this
  have h2 : (sealed (demoBody 31 1)).take 288 = demoBody 31 1 := by
    rw [sealed, ← h, List.take_left]
  rw [h1, h2]
  refine ⟨rfl, fun hc => ?_⟩
  have h3 : crc16 (demoBody 31 1) = crc16 (demoBody 31 1) + 1 := BitVec.eq_of_toNat_eq hc
  simp at h3

theorem witness_GoodLoadStartsTheUnit :
    State.reset.powered = true ∧ State.reset.cl = .loading ∧ State.reset.StandsAside
    ∧ loadEnd (loadOf (sealed (demoBody 31 0))) = .good (demoConfig false)
    ∧ (demoConfig true).plans.n1 = some demoPlan ∧ State.reset.mc.preempt.active = false
    ∧ ({ State.reset with mc := { State.reset.mc with preempt := ⟨true, true, false⟩ } } : State).StandsAside := by
  refine ⟨rfl, rfl, reset_aside, test_block_is_read.2, rfl, rfl, ?_⟩
  constructor <;> first | decide | (intro k; cases k <;> decide)

/-- A unit with another Link Controller. -/
def withLink (l : LC) (s : State) : State := { s with lc := l }

theorem witness_LineStateAndDeferral :
    (loaded true).powered = true ∧ (loaded true).lc.attempt = none ∧ (loaded true).lc.deferral = none
    ∧ (loaded true).lc.receiver = .hunt
    ∧ (∃ l : LC, l = { (loaded true).lc with storage := true, beacon := true, contention := some ⟨.storage, 8⟩ }
        ∧ l.depart = none ∧ l.storage = true ∧ l.contention = some ⟨.storage, 8⟩ ∧ l.receiver = .hunt)
    ∧ (∃ l : LC, l = { (loaded true).lc with receiver := .check ⟨3, 1⟩ 1 [3] none } ∧ l.attempt = none)
    ∧ (∃ l : LC, l = { (loaded true).lc with beacon := true, deferral := some ⟨.beacon, 4⟩ } ∧ l.line = .idle
        ∧ l.attempt = none ∧ l.deferral = some ⟨.beacon, 4⟩) := by
  refine ⟨rfl, rfl, rfl, rfl, ⟨_, rfl, rfl, rfl, rfl, rfl⟩, ⟨_, rfl, rfl⟩, ⟨_, rfl, rfl, rfl, rfl⟩⟩

theorem witness_OwnMarkReadsFrame :
    (charged .inStep 700).powered = true ∧ (charged .inStep 700).setup = some (demoConfig true, demoPlan)
    ∧ (charged .inStep 700).mc.mode = .inCharge .inStep
    ∧ (∃ l : LC, l = { (charged .inStep 700).lc with depart := some .hold, attempt := some ⟨.depart, none⟩ }
        ∧ l.attempt = some ⟨.depart, none⟩ ∧ l.depart = some .hold) := ⟨rfl, rfl, rfl, _, rfl, rfl, rfl⟩

theorem witness_ReceiverMovesByteByByte :
    (loaded true).powered = true ∧ (loaded true).cl = .good (demoConfig true) ∧ (loaded true).lc.attempt = none
    ∧ (loaded true).lc.receiver = .hunt
    ∧ (∃ l : LC, l = { (loaded true).lc with receiver := .length ⟨3, 1⟩ } ∧ l.receiver = .length ⟨3, 1⟩ ∧ l.attempt = none)
    ∧ (1 ≤ (0x01#8).toNat ∧ (0x20#8).toNat ≤ 32) ∧ ((0x00#8).toNat = 0 ∧ 32 < (0x21#8).toNat) := by
  refine ⟨rfl, rfl, rfl, rfl, ⟨_, rfl, rfl, rfl⟩, by decide, by decide⟩

/-- The counted bytes of a DEPART with reason HOLD of a station and group. -/
def departOf (station group : Byte) : List Byte := [3, station, group, 2]

/-- The counted bytes of a BEACON of station 12 of group 2 at 3 600 m: P 20, LEADING, INBOUND, C 1 200, position 430,
triple (1 200, 12, 0), FULL inbound fed by 31; and of its STORAGE frame. -/
def beaconOf : List Byte := [1, 12, 2, 0x0E, 0x10, 20, 1, 1, 0x04, 0xB0, 0x01, 0xAE, 0x04, 0xB0, 12, 0, 2, 31, 0, 0]
def storageOfTwelve : List Byte := [2, 12, 2, 2, 31, 3, 0]

/-- Frames of all three kinds that pass a receiver's tests, and three that fail: on length, on kind, and on hops 0 with
another station's origin. -/
theorem witness_FrameReceivedIsDisposedOf_reading :
    FrameOk 20 beaconOf ∧ FrameOk 7 storageOfTwelve ∧ FrameOk 4 (departOf 12 2) ∧ ¬ FrameOk 5 (departOf 12 2)
    ∧ ¬ FrameOk 4 [4, 12, 2, 2] ∧ ¬ FrameOk 20 (beaconOf.set 14 11) := by
  refine ⟨⟨by decide, .inl ⟨by decide, rfl, ?_⟩⟩, ⟨by decide, .inr (.inl ⟨by decide, rfl, ?_⟩)⟩,
    ⟨by decide, .inr (.inr ⟨by decide, rfl, by decide⟩)⟩, ?_, ?_, ?_⟩
  · constructor <;> first | decide | (unfold CycleValue; decide) | (unfold ApproachesOk; decide)
  · unfold ApproachesOk; decide
  · rintro ⟨_, ⟨_, h, _⟩ | ⟨_, h, _⟩ | ⟨_, h, _⟩⟩ <;> exact absurd h (by decide)
  · rintro ⟨_, ⟨h, _⟩ | ⟨h, _⟩ | ⟨h, _⟩⟩ <;> exact absurd h (by decide)
  · rintro ⟨_, ⟨_, _, h⟩ | ⟨h, _⟩ | ⟨h, _⟩⟩
    · exact absurd (h.hops.2 (by decide)) (by decide)
    · exact absurd h (by decide)
    · exact absurd h (by decide)

theorem witness_FrameReceivedIsDisposedOf :
    (loaded true).powered = true ∧ (loaded true).cl = .good (demoConfig true)
    ∧ readFrame 4 (departOf 12 2) = some (.depart 12) ∧ readFrame 5 (departOf 12 2) = none
    ∧ u16 (putWord (crc16 (departOf 12 2))) 0 = (crc16 (departOf 12 2)).toNat
    ∧ u16 (putWord (crc16 (departOf 31 2))) 0 = (crc16 (departOf 31 2)).toNat
    ∧ u16 (putWord (crc16 (departOf 12 3))) 0 = (crc16 (departOf 12 3)).toNat
    ∧ u16 [0, 0] 0 ≠ (crc16 (departOf 12 2)).toNat
    ∧ (u8 (departOf 12 3) 2 ≠ 2 ∧ u8 (departOf 31 2) 1 = 31 ∧ u8 (departOf 12 2) 1 ≠ 31) := by
  refine ⟨rfl, rfl, by decide, by decide, by decide +kernel, by decide +kernel, by decide +kernel, by decide +kernel,
    by decide⟩

theorem witness_SentFramesReadBack :
    (charged .inStep 1199).setup = some (demoConfig true, demoPlan) ∧ (demoConfig true).Checked
    ∧ CycleValue (charged .inStep 1199).cau.cycle ∧ (charged .inStep 1199).ct.position ≤ 3179
    ∧ CycleValue (charged .inStep 1199).cau.triple.value ∧ 1 ≤ (charged .inStep 1199).cau.triple.origin
    ∧ (charged .inStep 1199).cau.triple.origin ≤ 250 ∧ (charged .inStep 1199).cau.triple.hops ≤ 7
    ∧ (charged .inStep 1199).cau.triple.origin = (demoConfig true).station
    ∧ (∀ e ∈ (charged .inStep 1199).nt.entries, 1 ≤ e.station ∧ e.station ≤ 250) := by
  refine ⟨rfl, demoConfig_checked true, ?_, by decide, ?_, by decide, by decide, by decide, rfl, by decide⟩ <;>
    (unfold CycleValue; decide)

theorem witness_CollisionsAndSuccesses :
    (∃ l : LC, l = { (charged .leading 5).lc with beacon := true, line := .busy, attempt := some ⟨.beacon, none⟩,
                                                  contention := some ⟨.beacon, 7⟩ }
        ∧ l.attempt = some ⟨.beacon, none⟩ ∧ l.contention = some ⟨.beacon, 7⟩)
    ∧ (∃ l : LC, l = { (charged .leading 5).lc with attempt := some ⟨.depart, some [0xA5]⟩,
                                                    contention := some ⟨.depart, 8⟩ }
        ∧ l.attempt = some ⟨.depart, some [0xA5]⟩ ∧ l.contention = some ⟨.depart, 8⟩) :=
  ⟨⟨_, rfl, rfl, rfl⟩, ⟨_, rfl, rfl, rfl⟩⟩

theorem witness_LinkTimersAndRequests :
    (charged .seeking 7).powered = true ∧ (charged .seeking 7).cl = .good (demoConfig true)
    ∧ (charged .seeking 7).inCharge = true
    ∧ ({ (charged .seeking 7).lc with beaconTimer := some 0, silenceTimer := some 0 } : LC).beaconTimer = some 0
    ∧ (LC.initial .idle).contention = none ∧ (LC.initial .idle).deferral = none ∧ (LC.initial .idle).attempt = none
    ∧ (LC.initial .busy).line = .busy
    ∧ (LC.initial .idle).beacon = false ∧ (LC.initial .idle).storage = false ∧ (LC.initial .idle).depart = none
    ∧ ({ LC.initial .idle with beacon := true, storage := true, depart := some .hold } : LC).depart.isSome = true :=
  ⟨rfl, rfl, rfl, rfl, rfl, rfl, rfl, rfl, rfl, rfl, rfl, rfl⟩

theorem witness_TransmitterLawIsKept :
    (loaded true).LinkObeys ∧ ∃ t, step (loaded true) = .next t := by
  refine ⟨fun _ => ⟨?_, ?_, ?_⟩, _, rfl⟩
  · intro d h; exact nomatch h
  · intro a h; exact nomatch h
  · intro c h; exact nomatch h

/-- A unit with another table. -/
def withTable (e : List Entry) (s : State) : State := setEntries e s

theorem witness_AgingQuietsAndRemovesEntries :
    (∃ e : Entry, e = { demoEntry 30 2700 clearApproaches with silence := 60 }
        ∧ (withTable [e] (charged .seeking 9)).nt.entries = [] ++ e :: [] ∧ e.state = .live
        ∧ e.silence ≤ 3 * e.beacon.period)
    ∧ (∃ e : Entry, e = { demoEntry 30 2700 clearApproaches with silence := 0 } ∧ e.silence = 0
        ∧ (withTable [e] { charged .seeking 9 with nt := ⟨[], some 30⟩ }).nt = ⟨[] ++ e :: [], some e.station⟩)
    ∧ (charged .seeking 9).mc.mode = .inCharge .seeking ∧ (charged .seeking 9).powered = true :=
  ⟨⟨_, rfl, rfl, rfl, by decide⟩, ⟨_, rfl, rfl, rfl⟩, rfl, rfl⟩

/-- The configuration of station 13 of section 2.7. -/
def tableConfig : Configuration := { demoConfig true with station := 13, position := 2800 }

theorem fullTable_law : TableLaw tableConfig fullTable := by
  constructor <;> decide

theorem fullTable_short_law : TableLaw tableConfig (fullTable.drop 1) := by
  constructor <;> decide

theorem witness_FramesChangeTheTable :
    ({ State.reset with cl := .good tableConfig } : State).cl = .good tableConfig
    ∧ TableLaw tableConfig (fullTable.drop 1) ∧ (fullTable.drop 1).length < 8
    ∧ distance 4300 tableConfig.position ≤ tableConfig.reach
    ∧ (∀ e ∈ fullTable, e.station ≠ 30 → e.beacon.position ≠ 4300)
    ∧ tableConfig.reach < distance 4301 tableConfig.position
    ∧ (∃ e ∈ fullTable, e.station ≠ 27 ∧ e.beacon.position = 4100)
    ∧ TableLaw tableConfig fullTable ∧ fullTable.length = 8
    ∧ (∀ e ∈ fullTable, e.station ≠ 26 ∧ e.beacon.position ≠ 3100)
    ∧ (∀ e ∈ fullTable, distance e.beacon.position 2800 < distance (demoEntry 21 1400 clearApproaches).beacon.position 2800
        ∨ (distance e.beacon.position 2800 = distance (demoEntry 21 1400 clearApproaches).beacon.position 2800
            ∧ e.station ≤ 21))
    ∧ demoEntry 21 1400 clearApproaches ∈ fullTable
    ∧ distance 3100 2800 < distance 1400 2800 ∧ distance 1400 2800 ≤ distance 4200 2800
    ∧ (∃ s : State, s = { charged .seeking 9 with nt := ⟨gatedTable, some 30⟩ } ∧ s.cl = .good (demoConfig true)
        ∧ (∃ e ∈ s.nt.entries, e.station = 30) ∧ s.nt.lastReference = some 30
        ∧ s.mc.mode = .inCharge .seeking) := by
  refine ⟨rfl, fullTable_short_law, ?_, ?_, ?_, ?_, ?_, fullTable_law, ?_, ?_, ?_, ?_, ?_, ?_, _, rfl, rfl, ?_, rfl, rfl⟩ <;>
    decide

theorem witness_NearestEntryIsNearest : TableLaw tableConfig fullTable := fullTable_law

theorem witness_TableLawIsKept : (loaded true).TableObeys ∧ ∃ t, step (loaded true) = .next t := by
  refine ⟨⟨?_, ?_, ?_, ?_, ?_⟩, _, rfl⟩ <;> decide

/-- The unit in an extension for line 5 that has run for a time. -/
def extended (x : Nat) : State :=
  { charged .leading 660 with
    ct := { holdStretched demoPlan (charged .leading 660).ct with x := x }
    pa := { queue := [⟨.n6, .low, 900⟩], extension := some ⟨.n5, 120⟩, grantUsed := true, cycleGrant := none,
            windowOpened := false } }

theorem witness_ClockStepMovesClock :
    (charged .leading 1198).powered = true ∧ (charged .leading 1198).ct.running = true
    ∧ (charged .leading 1198).planInForce = some demoPlan ∧ (charged .leading 1198).ct.extension ≠ .running
    ∧ (charged .leading 1198).ct.position + 1 < (charged .leading 1198).ct.cRun
    ∧ (charged .leading 1199).ct.cRun ≤ (charged .leading 1199).ct.position + 1
    ∧ (extended 299).ct.extension = .running ∧ (extended 299).ct.x < 300
    ∧ (extended 300).ct.extension = .running ∧ 300 ≤ (extended 300).ct.x := by
  refine ⟨rfl, rfl, rfl, by decide, by decide, by decide, rfl, by decide, rfl, by decide⟩

theorem witness_WrapOpensNextCycle :
    (charged .leading 1199).Lawful ∧ (charged .leading 1199).powered = true
    ∧ (charged .leading 1199).setup = some (demoConfig true, demoPlan)
    ∧ (charged .leading 1199).mc.mode = .inCharge .leading ∧ (charged .leading 1199).ct.extension ≠ .running
    ∧ (charged .leading 1199).ct.cRun ≤ (charged .leading 1199).ct.position + 1
    ∧ (charged .leading 1199).mc.pendingPlan = none
    ∧ (∀ k, openingMark demoPlan (charged .leading 1199).cau.cycle k ≠ ⟨0, .due⟩) := by
  refine ⟨leading_lawful 1199 (by decide), rfl, rfl, rfl, by decide, by decide, rfl, ?_⟩
  intro k; cases k <;> decide

/-- The unit at a wrap that makes its inbound advance line STUCK_OFF: four empty cycles before this one, and FULL. -/
def stuckOffDue : State :=
  { withLine .n1 { lineAt false false false 700 .good with zeroRun := 4 } (charged .leading 1199) with
    di := { (withLine .n1 { lineAt false false false 700 .good with zeroRun := 4 } (charged .leading 1199)).di with
      storage := ⟨.full, .clear⟩ } }

/-- R71, R73, R76 and R77 at that wrap: STUCK_OFF, counted and flagged, UNKNOWN, and a STORAGE frame requested. -/
theorem test_stuck_off :
    let t := after stuckOffDue (exec .wrap stuckOffDue)
    (t.di.lines.get .n1).fault = .stuckOff ∧ t.counters.detectorFault = 1 ∧ t.cp.flags = 0x0080
      ∧ t.di.storage = ⟨.unknown, .clear⟩ ∧ t.lc.storage = true := by decide

theorem witness_WrapClosesCounts_fault :
    stuckOffDue.Lawful ∧ stuckOffDue.counters.detectorFault ≤ 65535 ∧ stuckOffDue.di.storage.get .inbound = .full :=
  ⟨charged_lawful .leading 1199 (by decide) none (fun _ hn => nomatch hn) stuckOffDue.di, by decide, rfl⟩

theorem witness_WrapClosesCounts :
    (charged .leading 1199).Lawful ∧ roleCounts ((demoConfig true).role .n1) = true
    ∧ roleCounts ((demoConfig true).role .n5) = false ∧ (demoConfig true).role .n1 = advanceRole .inbound
    ∧ ((charged .leading 1199).di.lines.get .n1).fault = .good :=
  ⟨leading_lawful 1199 (by decide), rfl, rfl, rfl, rfl⟩

theorem witness_WrapMakesLogRecord :
    (charged .leading 1199).Lawful ∧ (charged .leading 1199).counters.logTimeout ≤ 65535 :=
  ⟨leading_lawful 1199 (by decide), by decide⟩

/-- A log record of a cycle. -/
def recordOf (n : Word16) : LogRecord := { makeRecord demoPlan CT.initial (loaded true) with wrapCount := n }

theorem witness_LogStaysOrdered :
    ∃ s : State, s = { charged .leading 1199 with cp := { (charged .leading 1199).cp with
                                                          log := [recordOf 65534, recordOf 65535, recordOf 0] } }
      ∧ s.cl = .good (demoConfig true) ∧ (demoConfig true).Checked ∧ s.powered = true
      ∧ LogOrdered s.ct.wrapCount s.cp.log ∧ (∀ r ∈ s.cp.log, r.wrapCount ≠ s.ct.wrapCount)
      ∧ s.cp.log.length ≤ (demoConfig true).retention ∧ ∃ t, exec .wrap s = .next t := by
  refine ⟨_, rfl, rfl, demoConfig_checked true, rfl, ?_, ?_, ?_, _, rfl⟩
  · unfold LogOrdered; decide
  · decide
  · decide

theorem witness_DemandStaysInRange :
    demoPlan.Checked ∧ localDemand demoPlan 900 = demoPlan.cMax ∧ localDemand demoPlan 899 ≠ demoPlan.cMax
    ∧ demoPlan.cMin - 1 < demoPlan.cMin ∧ demoPlan.cMax < demoPlan.cMax + 1 := by
  refine ⟨demoPlan_checked, by decide, by decide, by decide, by decide⟩

theorem witness_AgreedDemandIsGreatestBelieved :
    (advertising 32 ⟨1500, 34, 1⟩).beacon.triple.hops + 1 ≤ 4
    ∧ agreedDemand 31 4 1200 [advertising 32 ⟨1500, 34, 1⟩] = ⟨1500, 34, 2⟩ := by decide

theorem witness_ResetAndSupplySilenceOutputs : ∃ t, exec .resetAsserted State.reset = .next t := ⟨_, rfl⟩

theorem witness_CycleStepAndOffset :
    demoPlan.Checked ∧ demoPlan.cMin ≤ 1000 ∧ 1800 ≤ demoPlan.cMax
    ∧ (demoSnapshot 0 none).pendingPlan = none ∧ (demoSnapshot 0 (some .n2)).pendingPlan = some .n2
    ∧ (demoEntry 32 3600 clearApproaches).state = .live
    ∧ (demoEntry 32 3600 clearApproaches).beacon.direction = demoPlan.direction
    ∧ (demoEntry 32 3600 clearApproaches).beacon.cycle = 1200
    ∧ (demoEntry 32 3600 clearApproaches).capture.wrapCount = 60 :=
  ⟨demoPlan_checked, by decide, by decide, rfl, rfl, rfl, rfl, rfl, rfl⟩

/-- No mark waits at position 19 of the demo unit. -/
theorem no_mark_reached (m : Num8) (h : ((charged .leading 19).ct.marks.get m).state = .waiting) :
    (charged .leading 19).ct.position < ((charged .leading 19).ct.marks.get m).position := by
  revert h; cases m <;> decide

theorem witness_CompletionAppliesResults :
    (inFlight 19).Lawful ∧ (inFlight 19).powered = true ∧ (inFlight 19).cl = .good (demoConfig true)
    ∧ (inFlight 19).cau.snapshot.isSome = true ∧ 1 ≤ (inFlight 1).ct.position ∧ (inFlight 20).ct.position ≤ 20
    ∧ (inFlight 19).mc.plan = some .n1 ∧ (demoConfig true).plans.get .n1 = some demoPlan
    ∧ (∀ m, ((inFlight 19).ct.marks.get m).state = .waiting →
        (inFlight 19).ct.position < ((inFlight 19).ct.marks.get m).position)
    ∧ (inFlight 19).ct.earlyGreen = false ∧ (inFlight 19).ct.extension ≠ .running
    ∧ (inFlight 20).Lawful ∧ (inFlight 20).powered = true ∧ (inFlight 20).cau.snapshot.isSome = true
    ∧ ∃ t, exec (.markDue .n1) (inFlight 20) = .next t :=
  ⟨inFlight_lawful 19 (by decide), rfl, rfl, rfl, by decide, by decide, rfl, rfl, no_mark_reached, rfl,
    by decide, inFlight_lawful 20 (by decide), rfl, rfl, _, rfl⟩

/-- The same with plan 2 brought by the computation. -/
theorem witness_CompletionAppliesResults_plan :
    (computing 19 0 (some .n2)).Lawful ∧ (computing 19 0 (some .n2)).cau.snapshot = some (demoSnapshot 0 (some .n2))
    ∧ (demoConfig true).plans.get .n2 = some eveningPlan
    ∧ (∀ m, ((computing 19 0 (some .n2)).ct.marks.get m).state = .waiting →
        (computing 19 0 (some .n2)).ct.position < ((computing 19 0 (some .n2)).ct.marks.get m).position)
    ∧ ((computing 19 0 (some .n2)).pa.queue.map Request.line).Nodup
    ∧ (computing 19 0 (some .n2)).counters.priorityExpired ≤ 65535 :=
  ⟨computing_lawful 19 0 (by decide), rfl, rfl, no_mark_reached, by decide, by decide⟩

theorem witness_MarkDueSetsItsLines :
    (charged .leading 20).powered = true ∧ (charged .leading 20).setup = some (demoConfig true, demoPlan)
    ∧ (charged .leading 20).ct.running = true ∧ (charged .leading 20).ct.earlyGreen = false
    ∧ ((charged .leading 20).ct.marks.get .n1).state = .waiting
    ∧ ((charged .leading 20).ct.marks.get .n1).position ≤ (charged .leading 20).ct.position
    ∧ demoPlan.base .n1 < demoPlan.base demoPlan.stretch := by
  refine ⟨rfl, rfl, rfl, rfl, by decide, by decide, by decide⟩

/-- The unit at its stretch mark with a tram waiting. -/
def atStretch (m : ChargeMode) : State :=
  { charged m 660 with pa := { (charged m 660).pa with queue := [⟨.n6, .low, 160⟩, ⟨.n5, .high, 60⟩] } }

theorem witness_StretchMarkIsDecided :
    (atStretch .leading).powered = true ∧ (atStretch .leading).setup = some (demoConfig true, demoPlan)
    ∧ demoPlan.base demoPlan.stretch ≠ 0 ∧ (atStretch .leading).ct.running = true
    ∧ (atStretch .leading).ct.earlyGreen = false
    ∧ ((atStretch .leading).ct.marks.get demoPlan.stretch).state = .waiting
    ∧ ((atStretch .leading).ct.marks.get demoPlan.stretch).position ≤ (atStretch .leading).ct.position
    ∧ ((atStretch .leading).gt.inbound.station = none ∧ (atStretch .leading).gt.outbound.station = none
        ∧ (atStretch .leading).pa.extension = none ∧ (atStretch .leading).pa.grantUsed = false ∧ 0 < demoPlan.xMax
        ∧ (atStretch .leading).nt.entries = [])
    ∧ winner (atStretch .leading).pa.queue = some ⟨.n5, .high, 60⟩
    ∧ (atStretch .seeking).mc.mode = .inCharge .seeking := by
  refine ⟨rfl, rfl, by decide, rfl, rfl, by decide, by decide, by decide, by decide, rfl⟩

/-- Mark 4, stretched and reached while the stretch mark still waits. -/
theorem witness_StretchMarkIsDecided_later :
    (charged .leading 760).setup = some (demoConfig true, demoPlan) ∧ (charged .leading 760).ct.earlyGreen = false
    ∧ ((charged .leading 760).ct.marks.get demoPlan.stretch).state = .waiting
    ∧ ((charged .leading 760).ct.marks.get demoPlan.stretch).position ≤ (charged .leading 760).ct.position
    ∧ demoPlan.stretch ≠ .n4 ∧ demoPlan.base demoPlan.stretch ≤ demoPlan.base .n4
    ∧ ((charged .leading 760).ct.marks.get .n4).state = .waiting
    ∧ ((charged .leading 760).ct.marks.get .n4).position ≤ (charged .leading 760).ct.position := by
  refine ⟨rfl, rfl, by decide, by decide, by decide, by decide, by decide, by decide⟩

/-- The unit where its early window opens, with every mark due. -/
def atWindow : State :=
  { atStretch .inStep with
    ct := { (charged .inStep 1080).ct with
      marks := (charged .inStep 1080).ct.marks.mapNum (fun _ k =>
        if k.state = .waiting then { k with state := .due } else k) } }

theorem witness_WindowAndWinner :
    atWindow.powered = true ∧ atWindow.planInForce = some demoPlan ∧ atWindow.ct.running = true
    ∧ atWindow.pa.windowOpened = false ∧ atWindow.ct.cRun ≤ atWindow.ct.position + demoPlan.eMax
    ∧ (∀ m, (atWindow.ct.marks.get m).state ≠ .unused →
        (atWindow.ct.marks.get m).position + demoPlan.xMin ≤ atWindow.ct.position)
    ∧ demoPlan.xMin ≤ atWindow.ct.position ∧ grantAllowed atWindow = true
    ∧ winner atWindow.pa.queue = some ⟨.n5, .high, 60⟩ := by
  refine ⟨rfl, rfl, rfl, rfl, by decide, ?_, by decide, by decide, by decide⟩
  intro m; cases m <;> decide

theorem witness_ExtensionsAndRequestsEnd :
    (extended 120).powered = true ∧ (extended 120).setup = some (demoConfig true, demoPlan)
    ∧ (extended 120).pa.extension = some ⟨.n5, 120⟩ ∧ 120 ≤ (extended 120).ct.x
    ∧ (extended 120).planInForce = some demoPlan
    ∧ (extended 120).pa.queue = [] ++ (⟨.n6, .low, 900⟩ : Request) :: [] ∧ demoPlan.pLife ≤ 900 := by
  refine ⟨rfl, rfl, rfl, by decide, rfl, rfl, by decide⟩

/-- The unit gated inbound by station 30, at a position. -/
def gatedUnit (pos : Nat) (reached : Bool) : State :=
  withTable gatedTable
    { charged .leading pos with gt := ⟨⟨some 30, some 300, reached, ⟨true, true, false⟩⟩, .initial⟩ }

theorem witness_GatePointSetsItsLines :
    (gatedUnit 300 false).powered = true ∧ (gatedUnit 300 false).setup = some (demoConfig true, demoPlan)
    ∧ (gatedUnit 300 false).ct.running = true ∧ ((gatedUnit 300 false).gt.get .inbound).station = some 30
    ∧ ((gatedUnit 300 false).gt.get .inbound).point = some 300 ∧ ((gatedUnit 300 false).gt.get .inbound).reached = false
    ∧ 300 ≤ (gatedUnit 300 false).ct.position
    ∧ ((demoConfig true).outputs.get .n2).gate = some .inbound
    ∧ ((demoConfig true).outputs.get .n2).mark = some .n3 ∧ demoPlan.base .n3 ≠ 0 := by
  refine ⟨rfl, rfl, rfl, rfl, rfl, rfl, by decide, rfl, rfl, by decide⟩

theorem witness_DirectionIsJudged :
    CallsFor (demoConfig true) (withTable gatedTable (charged .leading 299)) .inbound 30
    ∧ ((charged .leading 299).gt.get .inbound).station = none
    ∧ ¬ (charged .leading 299).GateAtOnce demoPlan .inbound ∧ (charged .leading 300).GateAtOnce demoPlan .inbound
    ∧ CountsForGreen (demoConfig true) demoPlan .inbound .n2
    ∧ CallsFor (demoConfig true) (gatedUnit 300 true) .inbound 30
    ∧ ((gatedUnit 300 true).gt.get .inbound).station = some 30
    ∧ (∀ n, ¬ CallsFor (demoConfig true) (withTable [] (gatedUnit 300 true)) .inbound n)
    ∧ (gatedUnit 300 true).setup = some (demoConfig true, demoPlan) ∧ (gatedUnit 300 true).inCharge = true
    ∧ (loaded true).inCharge = false := by
  refine ⟨⟨_, rfl, rfl, rfl, rfl⟩, rfl, by decide, by decide, ⟨rfl, .n3, rfl, by decide⟩, ⟨_, rfl, rfl, rfl, rfl⟩, rfl,
    ?_, rfl, rfl, rfl⟩
  rintro n ⟨e, h, -⟩
  cases h

theorem witness_EveryStepIsLawful :
    (charged .leading 1199).Lawful ∧ (inFlight 20).Lawful ∧ (∃ t, step (charged .leading 1199) = .next t)
    ∧ ∃ t, step { inFlight 20 with pending := [.completion] } = .next t :=
  ⟨leading_lawful 1199 (by decide), inFlight_lawful 20 (by decide), ⟨_, rfl⟩, ⟨_, rfl⟩⟩

/-- The unit with a tram standing on line 5 and its request queued. -/
def tramWaits : State :=
  { withLine .n5 (lineAt true true false 60 .good) (charged .leading 600) with
    pa := { (charged .leading 600).pa with queue := [⟨.n5, .high, 60⟩] } }

theorem tramWaits_queue : QueueLaw (demoConfig true) tramWaits := by
  constructor
  · decide
  · intro r hr; simp [tramWaits] at hr; subst hr; decide

theorem witness_QueueLawIsKept :
    tramWaits.QueueObeys ∧ (∃ t, step tramWaits = .next t) ∧ (demoConfig true).Checked
    ∧ QueueLaw (demoConfig true) tramWaits
    ∧ (∃ t, exec (.markDue .n3) (atStretch .leading) = .next t
        ∧ (atStretch .leading).counters.priorityExtended < t.counters.priorityExtended)
    ∧ (extended 5).pa.grantUsed = true := by
  refine ⟨tramWaits_queue, ⟨_, rfl⟩, demoConfig_checked true, tramWaits_queue, ⟨_, rfl, by decide⟩, rfl⟩

theorem witness_CountersStopAtTheirLimits :
    (loaded true).CountsObey ∧ (∃ t, step (loaded true) = .next t) ∧ (∃ t, exec .lineBusy (loaded true) = .next t)
    ∧ ({ CT.initial with wrapCount := 65535 } : CT).wrapCount.toNat = 65535 := by
  refine ⟨?_, ⟨_, rfl⟩, ⟨_, rfl⟩, by decide⟩
  constructor <;> first | decide | (intro k; cases k <;> decide)

theorem witness_StickyFlagsStaySet :
    ∃ s : State, s = setFlag .configBad State.reset ∧ flagIn .configBad s.cp.flags = true ∧ ∃ t, step s = .next t :=
  ⟨_, rfl, by decide, _, rfl⟩

theorem witness_DetectorInputIsFiltered :
    State.reset.powered = true ∧ State.reset.setup = none ∧ (loaded true).setup = some (demoConfig true, demoPlan)
    ∧ (demoConfig true).role .n8 = .unused ∧ (demoConfig true).role .n1 ≠ .unused
    ∧ ((loaded true).di.lines.get .n1).occupied = false ∧ ((demoConfig true).detectors.get .n1).filter ≠ 0
    ∧ ((demoConfig true).detectors.get .n5).filter = 0 := by
  refine ⟨rfl, rfl, rfl, rfl, by decide, rfl, by decide, rfl⟩

theorem witness_RisingEdgeIsCounted :
    ∃ l : DetectorLine, l = lineAt true false true 7 .stuckOff
      ∧ (withLine .n1 l (charged .leading 9)).di.lines.get .n1 = l ∧ l.timing = true ∧ l.raw = true ∧ l.occupied = false
      ∧ (withLine .n1 l (charged .leading 9)).setup = some (demoConfig true, demoPlan)
      ∧ (demoConfig true).role .n1 = advanceRole .inbound ∧ (demoConfig true).role .n1 ≠ .transitHigh
      ∧ (withLine .n1 l (charged .leading 9)).powered = true :=
  ⟨_, rfl, rfl, rfl, rfl, rfl, rfl, rfl, by decide, rfl⟩

theorem witness_TransitRiseRaisesRequest :
    ∃ l : DetectorLine, l = lineAt true false true 7 .good ∧ l.fault ≠ .stuckOff
      ∧ roleTransit ((demoConfig true).role .n5) = some .high
      ∧ (loaded true).inCharge = false
      ∧ (withLine .n5 l (charged .leading 9)).inCharge = true ∧ inWindow demoPlan (charged .leading 9).ct = false
      ∧ (withLine .n5 l atWindow).mc.mode = .inCharge .inStep ∧ inWindow demoPlan atWindow.ct = true
      ∧ (withLine .n5 l atWindow).pa.grantUsed = false ∧ gated (withLine .n5 l atWindow) = false
      ∧ (withLine .n5 l atWindow).pa.extension = none := by
  refine ⟨_, rfl, by decide, rfl, rfl, rfl, by decide, rfl, by decide, rfl, rfl, rfl⟩

theorem witness_FallingEdgeVacatesAndWithdraws :
    ∃ l : DetectorLine, l = lineAt false true true 60 .good ∧ l.timing = true ∧ l.raw = false ∧ l.occupied = true
      ∧ (withLine .n5 l tramWaits).di.lines.get .n5 = l ∧ (∃ r ∈ tramWaits.pa.queue, r.line = .n5)
      ∧ (extended 40).pa.extension = some ⟨.n5, 120⟩ ∧ (∀ r ∈ (extended 40).pa.queue, r.line ≠ .n5)
      ∧ roleTransit ((demoConfig true).role .n1) = none := by
  refine ⟨_, rfl, rfl, rfl, rfl, rfl, by decide, rfl, by decide, rfl⟩

theorem witness_FaultsAndFullEntries :
    (∃ l : DetectorLine, l = lineAt true true false 1200 .good ∧ l.occupied = true
        ∧ 10 * ((demoConfig true).detectors.get .n1).stuckOn ≤ l.occupiedRun ∧ l.fault ≠ .stuckOn)
    ∧ (demoConfig true).advanceLine .inbound = some .n1
    ∧ ((loaded true).di.storage.get .inbound = .clear ∧ demoPlan.fFull ≤ (lineAt true true false 150 .good).occupiedRun)
    ∧ demoPlan.fRel ≤ (lineAt false false false 60 .good).vacantRun := by
  refine ⟨⟨_, rfl, rfl, by decide, by decide⟩, rfl, by decide, by decide⟩

/-- The unit with its two cabinet inputs and its mode as given. -/
def withInputs (sync preempt : FilteredInput) (m : Mode) (elapsed : Nat) (used : Bool) : State :=
  { loaded used with mc := { (loaded used).mc with mode := m, pickupElapsed := elapsed, sync := sync, preempt := preempt } }

/-- An input at rest. -/
def restInput : FilteredInput := ⟨false, false, false⟩

theorem withInputs_aside (sync preempt : FilteredInput) (m : Mode) (n : Nat) (used : Bool) :
    (withInputs sync preempt m n used).StandsAside :=
  let h := loaded_aside used
  ⟨h.clock, h.computation, h.reference, h.greens, h.lines, h.arbiter, h.gating, h.slots⟩

theorem witness_CabinetInputsAreFiltered :
    (withInputs ⟨false, true, true⟩ restInput .pass 0 true).mc.sync = ⟨false, true, true⟩
    ∧ (withInputs ⟨false, true, true⟩ restInput .pass 0 true).powered = true := ⟨rfl, rfl⟩

theorem witness_UnitTakesCharge :
    (withInputs ⟨true, false, true⟩ restInput .pickup 9 true).mc.sync = ⟨true, false, true⟩
    ∧ (withInputs ⟨true, false, true⟩ restInput .pickup 9 true).setup = some (demoConfig true, demoPlan)
    ∧ (demoConfig true).Checked ∧ (withInputs ⟨true, false, true⟩ restInput .pickup 9 true).StandsAside
    ∧ (withInputs ⟨true, false, true⟩ restInput .pickup 9 true).mc.mode = .pickup ∧ (demoConfig true).syncUsed = true
    ∧ (withInputs restInput restInput .pickup 1300 true).StandsAside
    ∧ demoPlan.cBase + 100 ≤ (withInputs restInput restInput .pickup 1300 true).mc.pickupElapsed
    ∧ (withInputs restInput ⟨false, true, true⟩ .preempted 0 true).mc.preempt = ⟨false, true, true⟩
    ∧ (withInputs restInput ⟨false, true, true⟩ .preempted 0 true).mc.mode = .preempted := by
  refine ⟨rfl, rfl, demoConfig_checked true, withInputs_aside .., rfl, rfl, withInputs_aside .., ?_, rfl, rfl⟩
  decide

theorem witness_PreemptRiseEntersPreempted :
    (∃ s : State, s = { charged .leading 9 with mc := { (charged .leading 9).mc with preempt := ⟨true, false, true⟩ } }
        ∧ s.powered = true ∧ s.mc.preempt = ⟨true, false, true⟩ ∧ s.setup = some (demoConfig true, demoPlan)
        ∧ s.mc.mode = .inCharge .leading ∧ s.mc.pendingPlan = none ∧ s.mc.pickupElapsed = 0)
    ∧ (∃ s : State, s = { charged .leading 9 with mc := { (charged .leading 9).mc with
                                                          preempt := ⟨true, false, true⟩, pendingPlan := some .n2 } }
        ∧ s.mc.preempt = ⟨true, false, true⟩ ∧ s.setup = some (demoConfig true, demoPlan)
        ∧ s.mc.mode = .inCharge .leading ∧ s.mc.pendingPlan = some .n2
        ∧ (demoConfig true).plans.get .n2 = some eveningPlan ∧ s.mc.pickupElapsed = 0)
    ∧ (withInputs restInput ⟨true, false, true⟩ .pickup 50 true).mc.mode = .pickup
    ∧ (withInputs restInput ⟨true, false, true⟩ .pass 0 true).mc.mode = .pass :=
  ⟨⟨_, rfl, rfl, rfl, rfl, rfl, rfl, rfl⟩, ⟨_, rfl, rfl, rfl, rfl, rfl, rfl, rfl⟩, rfl, rfl⟩

theorem witness_HoldMovesToPass :
    (charged .leading 9).powered = true ∧ (charged .leading 9).cp.inHand = none
    ∧ (charged .leading 9).setup = some (demoConfig true, demoPlan) ∧ (charged .leading 9).mc.mode = .inCharge .leading
    ∧ (charged .leading 9).mc.pendingPlan = none
    ∧ (withInputs restInput restInput .pickup 50 true).mc.mode = .pickup
    ∧ (withInputs restInput restInput .preempted 0 true).mc.mode = .preempted
    ∧ (∃ s : State, s = { charged .leading 9 with mc := { (charged .leading 9).mc with pendingPlan := some .n2 } }
        ∧ s.setup = some (demoConfig true, demoPlan) ∧ s.mc.pendingPlan = some .n2
        ∧ (demoConfig true).plans.get .n2 = some eveningPlan) :=
  ⟨rfl, rfl, rfl, rfl, rfl, rfl, rfl, ⟨_, rfl, rfl, rfl, rfl⟩⟩

theorem witness_ResumeLeavesPass :
    (loaded true).powered = true ∧ (loaded true).cp.inHand = none ∧ (loaded true).mc.mode = .pass
    ∧ (loaded true).cl = .good (demoConfig true) ∧ (charged .leading 9).mc.mode ≠ .pass
    ∧ (withInputs restInput ⟨true, true, false⟩ .pass 0 true).mc.preempt.active = true
    ∧ (loaded true).mc.preempt.active = false ∧ (demoConfig true).syncUsed = true
    ∧ (loaded false).setup = some (demoConfig false, demoPlan) ∧ (demoConfig false).Checked
    ∧ (loaded false).StandsAside ∧ (demoConfig false).syncUsed = false :=
  ⟨rfl, rfl, rfl, rfl, by decide, rfl, rfl, rfl, rfl, demoConfig_checked false, loaded_aside false, rfl⟩

theorem witness_PlanIsChosen :
    (∀ c, State.reset.cl ≠ .good c) ∧ State.reset.powered = true ∧ State.reset.cp.inHand = none
    ∧ (∀ n : Num4, n.toNat = (0x05#8).toNat → (demoConfig true).plans.get n = none)
    ∧ (demoConfig true).plans.get .n3 = none
    ∧ Num4.n2.toNat = (0x02#8).toNat ∧ (demoConfig true).plans.get .n2 = some eveningPlan
    ∧ (charged .leading 9).inCharge = true ∧ (loaded true).inCharge = false ∧ (loaded true).StandsAside
    ∧ (withInputs restInput restInput .pickup 1199 true).mc.pickupElapsed < eveningPlan.cBase + 100
    ∧ eveningPlan.cBase + 100 ≤ (withInputs restInput restInput .pickup 1200 true).mc.pickupElapsed
    ∧ (withInputs restInput restInput .pickup 1200 true).StandsAside ∧ (demoConfig true).Checked
    ∧ (withInputs restInput restInput .pickup 1200 true).mc.mode = .pickup := by
  refine ⟨?_, rfl, rfl, ?_, rfl, rfl, rfl, rfl, rfl, loaded_aside true, by decide, by decide,
    withInputs_aside _ _ _ _ _, demoConfig_checked true, rfl⟩
  · intro c h; exact nomatch h
  · intro n; cases n <;> decide

theorem witness_OutputLinesTakeTheirSources :
    (loaded true).powered = true ∧ (loaded true).mc.mode = .pass
    ∧ (withInputs restInput restInput .preempted 0 true).mc.mode = .preempted
    ∧ ((charged .leading 9).olu.get .n3).manual = none
    ∧ (setManual .n3 (some true) (charged .leading 9)).olu.get .n3 = ⟨some true, false, false⟩
    ∧ (charged .leading 9).setup = some (demoConfig true, demoPlan)
    ∧ ((demoConfig true).outputs.get .n3).mark = some .n3 ∧ demoPlan.base .n3 ≠ 0
    ∧ ((demoConfig true).outputs.get .n8).mark = some .n8 ∧ demoPlan.base .n8 = 0 := by
  refine ⟨rfl, rfl, rfl, rfl, rfl, rfl, rfl, by decide, rfl, rfl⟩

theorem witness_ManualAndReleasePinLines :
    State.reset.powered = true ∧ State.reset.cp.inHand = none ∧ Num8.n8.toNat = (0x08#8).toNat
    ∧ (0x01#8).toNat = (if true then 1 else 0) ∧ 8 < (0x09#8).toNat ∧ (0x00#8).toNat = 0 ∧ 1 < (0x02#8).toNat := by
  refine ⟨rfl, rfl, rfl, rfl, by decide, rfl, by decide⟩

theorem witness_HostReadsAndFlags :
    State.reset.powered = true ∧ State.reset.cp.inHand = none ∧ State.reset.cp.log = []
    ∧ (∃ s : State, s = { loaded true with cp := { (loaded true).cp with log := [recordOf 4] } }
        ∧ s.cp.log = recordOf 4 :: [])
    ∧ (0x3FFF#16).toNat < 16384 ∧ 16384 ≤ (0x4000#16).toNat := by
  refine ⟨rfl, rfl, rfl, ⟨_, rfl, rfl⟩, by decide, by decide⟩

/-- The codings that PortLayouts names exist: those of the model's own tables. -/
theorem witness_PortLayouts :
    ([] : List Byte).length ≤ 200
    ∧ (∀ x, put16 x = [BitVec.ofNat 8 (x / 256), BitVec.ofNat 8 x])
    ∧ (∀ x, putInt x = put16 (x % 65536).toNat)
    ∧ (∀ x : Triple, putTriple x = put16 x.value ++ [BitVec.ofNat 8 x.origin, BitVec.ofNat 8 x.hops])
    ∧ ([.inCharge .leading, .inCharge .seeking, .inCharge .inStep, .pass, .pickup, .preempted].map modeCode
        = [1, 2, 3, 4, 5, 6] ∧ [.inbound, .outbound].map directionCode = [1, 2]
      ∧ [.clear, .filling, .full, .unknown].map storageCode = [0, 1, 2, 3] ∧ [false, true].map boolCode = [0, 1]
      ∧ [none, some .n1, some .n2, some .n3, some .n4].map planCode? = [0, 1, 2, 3, 4]
      ∧ stationCode? none = 0 ∧ ∀ x, stationCode? (some x) = x)
    ∧ (∀ g, (BitVec.ofNat 8 (gatingMarksCode g)).getLsbD 0 = g.active
        ∧ (BitVec.ofNat 8 (gatingMarksCode g)).getLsbD 1 = g.entered
        ∧ (BitVec.ofNat 8 (gatingMarksCode g)).getLsbD 2 = g.endedByLoss
        ∧ (BitVec.ofNat 8 (gatingMarksCode g)).toNat < 8)
    ∧ (∀ k : Num8, (BitVec.ofNat 8 (passThroughByte State.reset.olu)).getLsbD (k.toNat - 1)
        = (State.reset.olu.get k).passThrough) := by
  refine ⟨by decide, ?_, ?_, fun _ => rfl, ⟨rfl, rfl, rfl, rfl, rfl, rfl, fun _ => rfl⟩, ?_, ?_⟩
  · intro x
    rw [put16, putWord, List.cons.injEq, List.cons.injEq]
    refine ⟨BitVec.eq_of_toNat_eq ?_, BitVec.eq_of_toNat_eq ?_, rfl⟩
    · simp [BitVec.extractLsb'_toNat, Nat.shiftRight_eq_div_pow]; omega
    · simp
  · intro x
    simp only [put16, putInt]
    congr 1
    apply BitVec.eq_of_toNat_eq
    simp [BitVec.toNat_ofInt]; omega
  · rintro ⟨a, b, c⟩; revert a b c; decide
  · intro k; cases k <;> decide

/-- The unit with the port's receiver in a state. -/
def withPort (r : PortReceiver) : State := setPort r (loaded true)

theorem witness_PortReceiverMovesByteByByte :
    (loaded true).powered = true ∧ (loaded true).cp.receiver = .wait ∧ (loaded true).cp.inHand = none
    ∧ (holding (.accepted .log) (loaded true)).cp.inHand ≠ none
    ∧ (withPort (.length true)).cp.receiver = .length true ∧ 1 ≤ (0x01#8).toNat ∧ (0x03#8).toNat ≤ 3
    ∧ (withPort (.body false 3 [6, 0])).cp.receiver = .body false 3 [6, 0]
    ∧ (withPort (.check true 1 [5])).cp.receiver = .check true 1 [5] := by
  refine ⟨rfl, rfl, rfl, by decide, rfl, by decide, by decide, rfl, rfl⟩

theorem witness_MessageIsItsCommand :
    (withPort (.check false 3 [6, 0x12, 0x34])).powered = true
    ∧ (withPort (.check false 3 [6, 0x12, 0x34])).cp.inHand = none
    ∧ (withPort (.check false 3 [6, 0x12, 0x34])).cp.receiver = .check false 3 ([6] ++ [0x12, 0x34])
    ∧ byteSum (BitVec.ofNat 8 3 :: 6 :: [0x12, 0x34] ++ [0xB1]) = 0 := by
  refine ⟨rfl, rfl, rfl, by decide⟩

theorem witness_MalformedMessageIsRefused :
    (withPort (.length false)).cp.receiver = .length false ∧ 3 < (0x04#8).toNat
    ∧ (withPort (.check false 2 [1, 0])).cp.receiver = .check false 2 [1, 0]
    ∧ byteSum (BitVec.ofNat 8 2 :: [1, 0] ++ [0]) ≠ 0 ∧ hostKindOf 0x0E = none
    ∧ hostKindOf 0x01 = some .status ∧ 2 ≠ hostKindLength .status
    ∧ (holding (.accepted .log) (loaded true)).cp.inHand = some (.accepted .log) := by
  refine ⟨rfl, by decide, rfl, by decide, by decide, by decide, by decide, rfl⟩

/-! ### One step each, on the handbook's examples -/

/-- Section 11.5's refused load: plan 2's Qmax above Cmin div 2 (here 500 above 450) gives failure index 137. -/
theorem test_load_refused :
    loadEnd (loadOf (sealed ((demoBody 31 1).take 136 ++ [0x01, 0xF4] ++ (demoBody 31 1).drop 138))) = .bad 137 := by
  rw [loadEnd_sealed _ (by decide +kernel) (by decide +kernel)]
  decide +kernel

/-- Section 2.7, events 1, 2, 3 and 4: station 26 displaces station 21, stations 27 and 28 are refused, and station 30 is
outside the window. -/
theorem test_table_events :
    (tableTakes tableConfig ⟨0, 0⟩ (.beacon 26 (demoEntry 26 3100 clearApproaches).beacon clearApproaches)
      (withTable fullTable State.reset)).nt.entries.map Entry.station = [25, 22, 14, 23, 26, 12, 11, 24]
    ∧ (tableTakes tableConfig ⟨0, 0⟩ (.beacon 27 (demoEntry 27 4100 clearApproaches).beacon clearApproaches)
        (withTable fullTable State.reset)).counters.tableRefused = 1
    ∧ (tableTakes tableConfig ⟨0, 0⟩ (.beacon 28 (demoEntry 28 4200 clearApproaches).beacon clearApproaches)
        (withTable fullTable State.reset)).cp.flags = 0x0020
    ∧ (tableTakes tableConfig ⟨0, 0⟩ (.beacon 30 (demoEntry 30 4400 clearApproaches).beacon clearApproaches)
        (withTable fullTable State.reset)).counters.tableRefused = 0 := by decide

/-- Section 1.10: a collision at the eighth attempt abandons the STORAGE frame; one before it keeps the frame. -/
theorem test_eighth_collision_abandons :
    (collide .storage (withLink { LC.initial .busy with storage := true, contention := some ⟨.storage, 8⟩ } State.reset)).lc.storage
      = false
    ∧ (collide .storage (withLink { LC.initial .busy with storage := true, contention := some ⟨.storage, 7⟩ }
        State.reset)).lc.contention = some ⟨.storage, 8⟩ := by decide

/-- Section 9.8: at the stretch mark the tram of line 5 wins over the older bus, and marks 3 to 5 are HELD. -/
theorem test_extension_granted :
    (after (atStretch .inStep) (exec (.markDue .n3) (atStretch .inStep))).pa
      = ⟨[⟨.n6, .low, 160⟩], some ⟨.n5, 120⟩, true, none, false⟩
    ∧ ((after (atStretch .inStep) (exec (.markDue .n3) (atStretch .inStep))).ct.marks.get .n5) = ⟨980, .held⟩ := by decide

/-- Section 3.9: the window opens at 1 031 of a cycle of 1 140, and the early green makes it 1 032 long. -/
theorem test_early_green :
    let s := { atWindow with ct := { atWindow.ct with
      position := 1031, cRun := 1140, marks := atWindow.ct.marks.set .n5 ⟨931, .due⟩ } }
    (after s (exec .windowOpening s)).ct.cRun = 1032
      ∧ (after s (exec .windowOpening s)).pa.cycleGrant = some (.early 108) := by decide

/-- Section 3.8: mark 1, at 20, moves to 19 at the completion at position 19 and comes due there. -/
theorem test_mark_overtaken :
    let t := takeReachedDeciding (demoConfig true) { demoPlan with gMin := 550 }
      { charged .leading 19 with ct := applyToClock demoPlan 1140 0 (charged .leading 19).ct }
    t.ct.marks.get .n1 = ⟨19, .due⟩ ∧ t.ct.marks.get .n2 = ⟨380, .waiting⟩ ∧ t.ct.cRun = 1140 := by decide

/-- Section 3.8's last sentence, and its like where the mark moves up: a completion at position 20 finds mark 1, at 20, due
already; it stays DUE at its new position, 19 at C = 1 140 and 21 at C = 1 260. One at 19 moves it to 21, WAITING. -/
theorem test_reached_mark_stays_due :
    (after (computing 20 0 none) (exec .completion (computing 20 0 none))).ct.marks.get .n1 = ⟨19, .due⟩
    ∧ (after (computing 20 60 none) (exec .completion (computing 20 60 none))).ct.marks.get .n1 = ⟨21, .due⟩
    ∧ (after (computing 19 60 none) (exec .completion (computing 19 60 none))).ct.marks.get .n1 = ⟨21, .waiting⟩ := by
  decide

/-- The marks that the position has reached come before the completion (R50): at 20, mark 1 and then the completion. -/
theorem test_marks_before_completion :
    (cycleDue demoPlan (computing 20 0 none)).take 2 = [.markDue .n1, .completion] := by
  have h : completionDue (computing 20 0 none) = true := by
    have := (Config.completionDelay (computing 20 0 none).computations).isLt
    simp only [completionDue, Bool.and_eq_true, decide_eq_true_eq]
    exact ⟨by decide, by show _ ≤ 20; omega⟩
  rw [cycleDue, h]
  decide

/-- The taking of RESTART abandons the computation in flight: the completion after it never arrives (R101, R103). The one
before it is applied in full. -/
theorem test_restart_abandons :
    let s := inFlight 19
    let t := after s (exec .restart s)
    t.cau = { s.cau with snapshot := none } ∧ after t (exec .completion t) = t
      ∧ (after s (exec .completion s)).cau.cycle = 1140 := by decide

/-- An extension that ends at its limit takes the stretch mark it held, sets the lines that name it and ends both greens
(R55, R66, R161). -/
theorem test_extension_end_takes_dues :
    let s := extended 120
    let t := after s (exec .extensionLimit s)
    t.ct.marks.get .n3 = ⟨660, .due⟩ ∧ (t.olu.get .n2).drive = true ∧ (t.olu.get .n3).drive = true
      ∧ (t.olu.get .n4).drive = false ∧ t.di.green = ⟨false, false⟩ := by decide

/-- The due of the stretch mark ends both greens (R66), and where an extension holds it they go on SHOWING. -/
theorem test_stretch_due_ends_greens :
    (after (charged .leading 660) (exec (.markDue .n3) { charged .leading 660 with
        di := { (charged .leading 660).di with green := ⟨true, true⟩ } })).di.green = ⟨false, false⟩
    ∧ (after (charged .leading 660) (exec (.markDue .n3) { atStretch .leading with
        di := { (charged .leading 660).di with green := ⟨true, true⟩ } })).di.green = ⟨true, true⟩ := by decide

/-- The EXPIRY of the gating station ends gating by loss, and a BEACON that advertises FULL for this feeder enters it, at
the position past Gg, which ends the green (R134 to R136, R139). -/
theorem test_reports_judge_gating :
    let s := withTable [{ demoEntry 30 2700 ⟨⟨.full, 31⟩, ⟨.clear, 0⟩⟩ with silence := 0 }] (gatedUnit 200 false)
    let g := (after s (exec (.expiry 30) s)).gt.inbound
    let e := demoEntry 30 2700 ⟨⟨.full, 31⟩, ⟨.clear, 0⟩⟩
    let r := { charged .leading 300 with di := { (charged .leading 300).di with green := ⟨true, true⟩ } }
    let t := tableTakes (demoConfig true) e.capture (.beacon 30 e.beacon e.approaches) r
    g = ⟨none, none, false, ⟨true, true, true⟩⟩ ∧ t.gt.inbound = ⟨some 30, some 300, true, ⟨true, true, false⟩⟩
      ∧ t.di.green = ⟨false, true⟩ ∧ t.cp.flags = 0x0100 := by decide

/-- Section 7.1: station 31 stands at 3 150 m, 450 m from the reference at 3 600 m, so the travel time the computation
takes is 324 and the error −326 (R112, R117). -/
theorem test_computation_reads_own_position :
    (compute (demoConfig true) .n1 { demoPlan with cMin := 1200 }
        { demoSnapshot 0 none with closed := ⟨⟨0, 0⟩, 0, ⟨9, 0⟩, ⟨0, 0⟩⟩, cPrev := 1150, finished := 60,
                                   reference := some (demoEntry 32 3600 clearApproaches) }).offset.error = some (-326) := by
  decide

/-- Section 4.9: 31 arrivals on red and 18 on green close into the record, and make the direction FILLING. -/
theorem test_wrap_closes_and_judges :
    let s := withLine .n1 { lineAt false false false 0 .good with counts := ⟨0, 31, 18⟩ } (charged .leading 1199)
    (after s (exec .wrap s)).di.closed.onRed = ⟨31, 0⟩ ∧ (after s (exec .wrap s)).di.closed.onGreen = ⟨18, 0⟩
      ∧ (after s (exec .wrap s)).di.storage = ⟨.filling, .clear⟩ := by decide

/-- Section 4.11: the approach fills when its occupied run reaches 150, and requests a STORAGE frame in charge. -/
theorem test_approach_fills :
    let s := withLine .n1 (lineAt true true false 150 .good) (charged .leading 9)
    (after s (exec (.fullEntry .inbound) s)).di.storage.inbound = .full
      ∧ (after s (exec (.fullEntry .inbound) s)).lc.storage = true := by decide

/-- The overrun of section 11.4: a start byte while LOG is in hand is counted and flagged. -/
theorem test_overrun :
    let s := holding (.accepted .log) (loaded true)
    (after s (exec (.portByteReceived 0x5A false) s)).counters.portOverrun = 1
      ∧ (after s (exec (.portByteReceived 0x5A false) s)).cp.flags = 0x2000 := by decide

/-- A DEPART heard from the last reference while SEEKING sets REFERENCE_LOST (R40). -/
theorem test_depart_of_the_reference :
    let s := withTable gatedTable { charged .seeking 9 with nt := ⟨[], some 30⟩ }
    (tableTakes (demoConfig true) ⟨0, 0⟩ (.depart 30) s).cp.flags = 0x0040
      ∧ (tableTakes (demoConfig true) ⟨0, 0⟩ (.depart 30) s).nt = ⟨[], none⟩ := by decide

/-- The sync edge in PICKUP takes charge: LEADING, the wrap count one on, and a BEACON requested (R84, R86). -/
theorem test_sync_takes_charge :
    let s := withInputs ⟨true, false, true⟩ restInput .pickup 9 true
    (after s (exec .syncRisingEdge s)).mc.mode = .inCharge .leading
      ∧ (after s (exec .syncRisingEdge s)).ct.wrapCount = 1 ∧ (after s (exec .syncRisingEdge s)).lc.beacon = true := by
  decide

/-- The check byte FE of the message 5A 01 01 FE takes STATUS, answered with 82 bytes of data (R169, R171). -/
theorem test_status_byte_by_byte :
    let s := withPort (.check false 1 [1])
    (after s (exec (.portByteReceived 0xFE false) s)).cp.inHand = some (.accepted .status)
      ∧ (after s (exec (.portByteReceived 0xFE false) s)).cp.response.take 4 = [0x5A, 84, 0x80, 0x01] := by decide +kernel

end Sys2Proof.Tests
end

/-! ## How counts move (R2, R172)

An event counter moves only by `count`, and a detector line's counts and runs only by the line operations of the
Detector Interface. `KeepsLimits s t` says that the way from `s` to `t` lets no event counter fall and takes nothing
past its limit; every operation but POWER_UP has it, so every step keeps the limits. -/

namespace Sys2Proof.Machine

/-! ### Event counters, one by one -/

/-- The fourteen counters' names in the order of COUNTERS. -/
def Counter.all : List Counter :=
  [.goodRx, .rxError, .foreign, .sent, .collision, .txAbandoned, .tableRefused, .detectorFault, .preempted,
   .priorityExtended, .priorityEarly, .priorityExpired, .portOverrun, .logTimeout]

theorem Counter.mem_all (i : Counter) : i ∈ Counter.all := by cases i <;> simp [Counter.all]

/-- The value of the counter a name stands for. -/
def Counters.value (n : Counters) : Counter → Nat
  | .goodRx => n.goodRx | .rxError => n.rxError | .foreign => n.foreign | .sent => n.sent
  | .collision => n.collision | .txAbandoned => n.txAbandoned | .tableRefused => n.tableRefused
  | .detectorFault => n.detectorFault | .preempted => n.preempted | .priorityExtended => n.priorityExtended
  | .priorityEarly => n.priorityEarly | .priorityExpired => n.priorityExpired | .portOverrun => n.portOverrun
  | .logTimeout => n.logTimeout

theorem Counters.toList_eq_map_value (n : Counters) : n.toList = Counter.all.map n.value := rfl

theorem Counters.forall_toList_iff {n : Counters} {q : Nat → Prop} :
    (∀ x ∈ n.toList, q x) ↔ ∀ i, q (n.value i) := by
  simp [Counters.toList_eq_map_value, Counter.mem_all]

/-- Counting an event moves its own counter, and no other. -/
theorem Counters.value_bump (n : Counters) (c i : Counter) :
    (n.bump c).value i = if i = c then countEvent (n.value i) else n.value i := by
  cases c <;> cases i <;> rfl

/-- From `n` on, no counter within its limit falls or passes it. -/
def Counters.Advances (n m : Counters) : Prop :=
  ∀ i, n.value i ≤ 65535 → n.value i ≤ m.value i ∧ m.value i ≤ 65535

@[simp] theorem Counters.Advances.refl (n : Counters) : n.Advances n := fun _ h => ⟨le_rfl, h⟩

theorem Counters.Advances.trans {n m k : Counters} (h : n.Advances m) (h' : m.Advances k) : n.Advances k := by
  intro i hi
  obtain ⟨hnm, hm⟩ := h i hi
  obtain ⟨hmk, hk⟩ := h' i hm
  exact ⟨hnm.trans hmk, hk⟩

@[simp] theorem Counters.advances_bump (n : Counters) (c : Counter) : n.Advances (n.bump c) := by
  intro i hi
  rw [Counters.value_bump]
  split
  · simp only [countEvent]; omega
  · exact ⟨le_rfl, hi⟩

theorem Counters.Advances.limits {n m : Counters} (h : n.Advances m) (hn : ∀ x ∈ n.toList, x ≤ 65535) :
    ∀ x ∈ m.toList, x ≤ 65535 := by
  rw [Counters.forall_toList_iff] at hn ⊢
  exact fun i => (h i (hn i)).2

theorem Counters.Advances.rises {n m : Counters} (h : n.Advances m) (hn : ∀ x ∈ n.toList, x ≤ 65535) :
    List.Forall₂ (· ≤ ·) n.toList m.toList := by
  rw [Counters.forall_toList_iff] at hn
  rw [Counters.toList_eq_map_value, Counters.toList_eq_map_value, List.forall₂_map_left_iff,
    List.forall₂_map_right_iff, List.forall₂_same]
  exact fun i _ => (h i (hn i)).1

/-! ### Detector lines, one by one -/

/-- The three counts of a line are within their limit (R2). -/
structure Counts.Limited (n : Counts) : Prop where
  count : n.count ≤ 255
  onRed : n.onRed ≤ 255
  onGreen : n.onGreen ≤ 255

theorem Counts.zero_limited : Counts.zero.Limited := ⟨by decide, by decide, by decide⟩

/-- A detector line's counts and timers are within their limits (R2, R64, R65, R68, R71). -/
structure DetectorLine.Limited (l : DetectorLine) : Prop where
  counts : l.counts.Limited
  held : l.held.Limited
  occupiedRun : l.occupiedRun ≤ 65535
  vacantRun : l.vacantRun ≤ 65535
  zeroRun : l.zeroRun ≤ 15

theorem countVehicle_le (n : Nat) : countVehicle n ≤ 255 := Nat.min_le_right _ _

theorem countRun_le (n : Nat) : countRun n ≤ 65535 := Nat.min_le_right _ _

theorem countEdge_limited (r : Role) (g : PerDir Bool) {n : Counts} (h : n.Limited) : (countEdge r g n).Limited := by
  obtain ⟨hc, hr, hg⟩ := h
  unfold countEdge
  split
  · split
    · exact ⟨hc, hr, countVehicle_le _⟩
    · exact ⟨hc, countVehicle_le _, hg⟩
  · split
    · exact ⟨countVehicle_le _, hr, hg⟩
    · exact ⟨hc, hr, hg⟩

theorem nextZeroRun_le {l : DetectorLine} (h : l.zeroRun ≤ 15) : nextZeroRun l ≤ 15 := by
  unfold nextZeroRun
  split
  · omega
  · split
    · exact h
    · exact Nat.min_le_right _ _

theorem initial_limited (raw : Bool) : (DetectorLine.initial raw).Limited :=
  ⟨Counts.zero_limited, Counts.zero_limited, Nat.zero_le _, Nat.zero_le _, Nat.zero_le _⟩

namespace DetectorLine.Limited

variable {l : DetectorLine} (h : l.Limited)
include h

theorem withFault (v : FaultState) : ({ l with fault := v } : DetectorLine).Limited :=
  ⟨h.counts, h.held, h.occupiedRun, h.vacantRun, h.zeroRun⟩

theorem withRaw (v : Bool) : ({ l with raw := v } : DetectorLine).Limited :=
  ⟨h.counts, h.held, h.occupiedRun, h.vacantRun, h.zeroRun⟩

theorem withTiming (v : Bool) : ({ l with timing := v } : DetectorLine).Limited :=
  ⟨h.counts, h.held, h.occupiedRun, h.vacantRun, h.zeroRun⟩

theorem withoutCounts : ({ l with counts := .zero } : DetectorLine).Limited :=
  ⟨Counts.zero_limited, h.held, h.occupiedRun, h.vacantRun, h.zeroRun⟩

theorem risen (r : Role) (g : PerDir Bool) : (risenLine r g l).Limited where
  counts := countEdge_limited r g h.counts
  held := h.held
  occupiedRun := Nat.zero_le _
  vacantRun := Nat.zero_le _
  zeroRun := by
    simp only [risenLine]
    split
    · exact Nat.zero_le _
    · exact h.zeroRun

theorem fallen : (fallenLine l).Limited :=
  ⟨h.counts, h.held, Nat.zero_le _, Nat.zero_le _, h.zeroRun⟩

theorem closed (d : DetectorSetting) : (closeLine d l).Limited := by
  unfold closeLine
  split
  · refine ⟨Counts.zero_limited, ?_, h.occupiedRun, h.vacantRun, nextZeroRun_le h.zeroRun⟩
    dsimp only
    split
    · exact h.counts
    · exact h.held
  · exact h.withoutCounts

theorem started (d : DetectorSetting) : (startLine d l).Limited :=
  ⟨h.counts, h.held, Nat.zero_le _, Nat.zero_le _, h.zeroRun⟩

theorem ticked (d : DetectorSetting) : (lineTick d l).Limited := by
  unfold lineTick
  split
  · split
    · exact ⟨h.counts, h.held, countRun_le _, h.vacantRun, h.zeroRun⟩
    · exact ⟨h.counts, h.held, h.occupiedRun, countRun_le _, h.zeroRun⟩
  · exact h

end DetectorLine.Limited

/-- All eight lines are within their limits. -/
def LinesLimited (v : Eight DetectorLine) : Prop := ∀ k, (v.get k).Limited

theorem LinesLimited.set {v : Eight DetectorLine} (h : LinesLimited v) (k : Num8) {l : DetectorLine} (hl : l.Limited) :
    LinesLimited (v.set k l) := by
  intro j
  rw [Eight.get_set]
  split
  · exact hl
  · exact h j

theorem LinesLimited.mapNum {v : Eight DetectorLine} (h : LinesLimited v) {f : Num8 → DetectorLine → DetectorLine}
    (hf : ∀ k l, l.Limited → (f k l).Limited) : LinesLimited (v.mapNum f) := by
  intro k
  rw [Eight.get_mapNum]
  exact hf k _ (h k)

/-- The limits of R2 as the spec's law states them, over the two parts of the state they speak of. -/
theorem countsObey_iff (s : State) :
    s.CountsObey ↔ (∀ x ∈ s.counters.toList, x ≤ 65535) ∧ LinesLimited s.di.lines := by
  constructor
  · intro h
    refine ⟨h.events, fun k => ?_⟩
    obtain ⟨hc, hr, hg⟩ := h.counts k
    obtain ⟨hc', hr', hg'⟩ := h.held k
    obtain ⟨ho, hv⟩ := h.runs k
    exact ⟨⟨hc, hr, hg⟩, ⟨hc', hr', hg'⟩, ho, hv, h.zeroRuns k⟩
  · rintro ⟨he, hl⟩
    exact ⟨he, fun k => ⟨(hl k).counts.count, (hl k).counts.onRed, (hl k).counts.onGreen⟩,
      fun k => ⟨(hl k).held.count, (hl k).held.onRed, (hl k).held.onGreen⟩,
      fun k => ⟨(hl k).occupiedRun, (hl k).vacantRun⟩, fun k => (hl k).zeroRun⟩

/-! ### Operations that leave the detector lines alone -/

@[simp] theorem setGreens_lines (b : Bool) (s : State) : (setGreens b s).di.lines = s.di.lines := rfl

@[simp] theorem setStorage_lines (d : Direction) (v : Storage) (s : State) :
    (setStorage d v s).di.lines = s.di.lines := by
  unfold setStorage; dsimp only; split <;> simp

@[simp] theorem storageRecovers_lines (c : Configuration) (k : Num8) (s : State) :
    (storageRecovers c k s).di.lines = s.di.lines := by
  unfold storageRecovers; repeat' split
  all_goals simp

@[simp] theorem judgeStorage_lines (c : Configuration) (p : Plan) (d : Direction) (s : State) :
    (judgeStorage c p d s).di.lines = s.di.lines := by
  unfold judgeStorage; repeat' split
  all_goals simp

@[simp] theorem enterFullWhenDue_lines (c : Configuration) (p : Plan) (d : Direction) (s : State) :
    (enterFullWhenDue c p d s).di.lines = s.di.lines := by
  unfold enterFullWhenDue; split <;> simp

@[simp] theorem endGreenIf_lines (b : Bool) (d : Direction) (s : State) :
    (endGreenIf b d s).di.lines = s.di.lines := by
  unfold endGreenIf; split <;> simp

@[simp] theorem takeDue_lines (c : Configuration) (p : Plan) (m : Num8) (s : State) :
    (takeDue c p m s).di.lines = s.di.lines := by simp [takeDue]

@[simp] theorem takeReached_lines (c : Configuration) (p : Plan) (s : State) :
    (takeReached c p s).di.lines = s.di.lines := by
  unfold takeReached; exact foldl_keeps (fun s => s.di.lines) _ (fun s _ => by split <;> simp) _ _

@[simp] theorem gateSetting_lines (c : Configuration) (p : Plan) (d : Direction) (s : State) :
    (gateSetting c p d s).di.lines = s.di.lines := by simp [gateSetting]

@[simp] theorem reachGate_lines (c : Configuration) (p : Plan) (d : Direction) (s : State) :
    (reachGate c p d s).di.lines = s.di.lines := by simp [reachGate]

@[simp] theorem placeGate_lines (c : Configuration) (p : Plan) (d : Direction) (s : State) :
    (placeGate c p d s).di.lines = s.di.lines := by
  unfold placeGate; dsimp only; split <;> simp

@[simp] theorem enterGating_lines (c : Configuration) (p : Plan) (d : Direction) (n : Nat) (s : State) :
    (enterGating c p d n s).di.lines = s.di.lines := by
  unfold enterGating; dsimp only; split <;> simp

@[simp] theorem judgeDirection_lines (c : Configuration) (p : Plan) (r : Option Nat) (d : Direction) (s : State) :
    (judgeDirection c p r d s).di.lines = s.di.lines := by
  unfold judgeDirection; split <;> simp

@[simp] theorem judgeGating_lines (c : Configuration) (p : Plan) (r : Option Nat) (s : State) :
    (judgeGating c p r s).di.lines = s.di.lines := by
  unfold judgeGating; split <;> simp

@[simp] theorem reportToGating_lines (r : Option Nat) (s : State) : (reportToGating r s).di.lines = s.di.lines := by
  unfold reportToGating; split <;> simp

@[simp] theorem placeGateIfOn_lines (c : Configuration) (p : Plan) (d : Direction) (s : State) :
    (placeGateIfOn c p d s).di.lines = s.di.lines := by
  unfold placeGateIfOn; split <;> simp

@[simp] theorem gatingWrap_lines (c : Configuration) (p : Plan) (s : State) :
    (gatingWrap c p s).di.lines = s.di.lines := by simp [gatingWrap]

@[simp] theorem replaceGate_lines (c : Configuration) (p : Plan) (d : Direction) (s : State) :
    (replaceGate c p d s).di.lines = s.di.lines := by
  unfold replaceGate; split <;> simp

@[simp] theorem endExtension_lines (c : Configuration) (p : Plan) (s : State) :
    (endExtension c p s).di.lines = s.di.lines := by simp [endExtension]

@[simp] theorem withdraw_lines (c : Configuration) (p : Plan) (k : Num8) (s : State) :
    (withdraw c p k s).di.lines = s.di.lines := by
  unfold withdraw; repeat' split
  all_goals simp

@[simp] theorem removeEntry_lines (n : Nat) (s : State) : (removeEntry n s).di.lines = s.di.lines := by
  simp [removeEntry]

@[simp] theorem placeEntry_lines (e : Entry) (s : State) : (placeEntry e s).di.lines = s.di.lines := by
  simp [placeEntry]

@[simp] theorem loseStation_lines (n : Nat) (s : State) : (loseStation n s).di.lines = s.di.lines := by
  simp [loseStation]

@[simp] theorem storageFrame_lines (n : Nat) (a : PerDir Approach) (s : State) :
    (storageFrame n a s).di.lines = s.di.lines := by
  unfold storageFrame; split <;> simp

/-! ### The relation that every operation has -/

/-- From `s` to `t` no event counter within its limit falls or passes it, and the detector lines stay within theirs. -/
structure KeepsLimits (s t : State) : Prop where
  counters : s.counters.Advances t.counters
  lines : LinesLimited s.di.lines → LinesLimited t.di.lines

namespace KeepsLimits

theorem of_eq {s t : State} (h : t.counters = s.counters ∧ t.di.lines = s.di.lines) : KeepsLimits s t := by
  obtain ⟨hc, hl⟩ := h
  exact ⟨by simp [hc], by simp [hl]⟩

theorem refl (s : State) : KeepsLimits s s := .of_eq ⟨rfl, rfl⟩

theorem trans {s t u : State} (h : KeepsLimits s t) (h' : KeepsLimits t u) : KeepsLimits s u :=
  ⟨h.counters.trans h'.counters, h'.lines ∘ h.lines⟩

/-- What an operation keeps, it keeps from any state with the same counters and lines. -/
theorem of_start {s t u : State} (h : KeepsLimits t u) (hs : t.counters = s.counters ∧ t.di.lines = s.di.lines) :
    KeepsLimits s u := (of_eq hs).trans h

/-- One event counted, and the lines left alone. -/
theorem of_bump {s t : State} (c : Counter) (h : t.counters = s.counters.bump c ∧ t.di.lines = s.di.lines) :
    KeepsLimits s t := by
  obtain ⟨hc, hl⟩ := h
  exact ⟨by simp [hc], by simp [hl]⟩

/-- The lines moved, and no event counted. -/
theorem of_lines {s t : State} (hc : t.counters = s.counters)
    (hl : LinesLimited s.di.lines → LinesLimited t.di.lines) : KeepsLimits s t := ⟨by simp [hc], hl⟩

theorem setLine (k : Num8) {l : DetectorLine} {s : State} (hl : LinesLimited s.di.lines → l.Limited) :
    KeepsLimits s (setLine k l s) := .of_lines rfl fun h => h.set k (hl h)

theorem foldl {α : Type} {f : State → α → State} (hf : ∀ s a, KeepsLimits s (f s a)) (l : List α) (s : State) :
    KeepsLimits s (l.foldl f s) := by
  induction l generalizing s with
  | nil => exact .refl s
  | cons a l ih => exact (hf s a).trans (ih _)

theorem ite {b : Prop} [Decidable b] {s t u : State} (ht : KeepsLimits s t) (hu : KeepsLimits s u) :
    KeepsLimits s (if b then t else u) := by
  split
  · exact ht
  · exact hu

/-- A state within its limits moves to one within them. -/
theorem countsObey {s t : State} (h : KeepsLimits s t) (hs : s.CountsObey) : t.CountsObey := by
  rw [countsObey_iff] at hs ⊢
  exact ⟨h.counters.limits hs.1, h.lines hs.2⟩

end KeepsLimits

/-! ### The shared operations have it -/

theorem count_keepsLimits (c : Counter) (s : State) : KeepsLimits s (count c s) := .of_bump c ⟨rfl, rfl⟩

theorem expireRequest_keepsLimits (k : Num8) (s : State) : KeepsLimits s (expireRequest k s) :=
  .of_bump .priorityExpired ⟨rfl, rfl⟩

theorem expireAged_keepsLimits (p : Plan) (s : State) : KeepsLimits s (expireAged p s) :=
  .foldl (fun s _ => .ite (expireRequest_keepsLimits _ s) (.refl s)) _ _

theorem refuseEntry_keepsLimits (s : State) : KeepsLimits s (refuseEntry s) := .of_bump .tableRefused ⟨rfl, rfl⟩

theorem discardFrame_keepsLimits (s : State) : KeepsLimits s (discardFrame s) := .of_bump .rxError ⟨rfl, rfl⟩

theorem countAged_keepsLimits (s : State) : KeepsLimits s (countAged s) := .of_bump .logTimeout ⟨rfl, rfl⟩

theorem enterPreempted_keepsLimits (s : State) : KeepsLimits s (enterPreempted s) := .of_bump .preempted ⟨rfl, rfl⟩

theorem grantExtension_keepsLimits (p : Plan) (r : Request) (s : State) : KeepsLimits s (grantExtension p r s) :=
  .of_bump .priorityExtended ⟨rfl, rfl⟩

theorem grantEarly_keepsLimits (r : Request) (s : State) : KeepsLimits s (grantEarly r s) :=
  .of_bump .priorityEarly ⟨rfl, rfl⟩

theorem setRaw_keepsLimits (k : Num8) (v : Bool) (s : State) : KeepsLimits s (setRaw k v s) :=
  .setLine k fun h => (h k).withRaw v

theorem collide_keepsLimits (k : FrameKind) (s : State) : KeepsLimits s (collide k s) := by
  unfold collide
  dsimp only
  split
  · exact (count_keepsLimits .collision s).trans (.of_bump .txAbandoned ⟨rfl, rfl⟩)
  · exact .of_bump .collision ⟨rfl, rfl⟩

theorem succeed_keepsLimits (k : FrameKind) (s : State) : KeepsLimits s (succeed k s) := .of_bump .sent ⟨rfl, rfl⟩

theorem enterFault_keepsLimits (c : Configuration) (k : Num8) (v : FaultState) (s : State) :
    KeepsLimits s (enterFault c k v s) := by
  have hline : KeepsLimits s (setLine k { s.di.lines.get k with fault := v } s) := .setLine k fun h => (h k).withFault v
  have hcount := hline.trans (count_keepsLimits .detectorFault _)
  unfold enterFault
  dsimp only
  split
  · exact hcount.trans (.of_eq (by simp))
  · exact hcount.trans (.of_eq (by simp))

theorem judgeStorage_keepsLimits (c : Configuration) (p : Plan) (d : Direction) (s : State) :
    KeepsLimits s (judgeStorage c p d s) := .of_eq (by simp)

theorem closeCycle_keepsLimits (c : Configuration) (p : Plan) (s : State) : KeepsLimits s (closeCycle c p s) := by
  unfold closeCycle
  refine .trans ?_ (judgeStorage_keepsLimits c p _ _)
  refine .trans ?_ (judgeStorage_keepsLimits c p _ _)
  refine .trans ?_ (.foldl (fun s _ => .ite (enterFault_keepsLimits c _ _ s) (.refl s)) _ _)
  exact .of_lines rfl fun h => h.mapNum fun _ _ hl => hl.closed _

@[simp] theorem zeroCounts_lines (s : State) :
    (zeroCounts s).di.lines = s.di.lines.mapNum (fun _ l => { l with counts := .zero }) := rfl

theorem zeroCounts_keepsLimits (s : State) : KeepsLimits s (zeroCounts s) :=
  .of_lines rfl fun h => h.mapNum fun _ _ hl => hl.withoutCounts

theorem reachStretch_keepsLimits (c : Configuration) (p : Plan) (s : State) : KeepsLimits s (reachStretch c p s) := by
  unfold reachStretch
  split
  · next r _ => exact (grantExtension_keepsLimits p r s).trans (.of_eq (by simp))
  · exact .of_eq (by simp)

theorem takeReachedDeciding_keepsLimits (c : Configuration) (p : Plan) (s : State) :
    KeepsLimits s (takeReachedDeciding c p s) := .ite (reachStretch_keepsLimits c p s) (.of_eq (by simp))

theorem decideEarly_keepsLimits (s : State) : KeepsLimits s (decideEarly s) := by
  refine .ite ?_ (.refl s)
  split
  · exact grantEarly_keepsLimits _ s
  · exact .refl s

theorem requestArrives_keepsLimits (p : Plan) (k : Num8) (g : TransitGroup) (s : State) :
    KeepsLimits s (requestArrives p k g s) := by
  exact .ite (.ite (.of_start (decideEarly_keepsLimits _) ⟨rfl, rfl⟩) (.of_eq ⟨rfl, rfl⟩)) (.refl s)

theorem removeEntry_keepsLimits (n : Nat) (s : State) : KeepsLimits s (removeEntry n s) := .of_eq (by simp)

theorem placeEntry_keepsLimits (e : Entry) (s : State) : KeepsLimits s (placeEntry e s) := .of_eq (by simp)

theorem beaconKnown_keepsLimits (c : Configuration) (o n : Entry) (s : State) :
    KeepsLimits s (beaconKnown c o n s) :=
  .ite (placeEntry_keepsLimits n s)
    (.ite (removeEntry_keepsLimits _ s)
      (.ite ((removeEntry_keepsLimits _ s).trans (refuseEntry_keepsLimits _)) (placeEntry_keepsLimits n s)))

theorem beaconUnknown_keepsLimits (c : Configuration) (n : Entry) (s : State) :
    KeepsLimits s (beaconUnknown c n s) := by
  refine .ite (.refl s) (.ite (refuseEntry_keepsLimits s) (.ite (placeEntry_keepsLimits n s) ?_))
  split
  · exact .ite ((removeEntry_keepsLimits _ s).trans (placeEntry_keepsLimits n _)) (refuseEntry_keepsLimits s)
  · exact .refl s

theorem tableTakes_keepsLimits (c : Configuration) (k : Capture) (f : Frame) (s : State) :
    KeepsLimits s (tableTakes c k f s) := by
  cases f with
  | beacon n b a =>
    unfold tableTakes
    dsimp only
    split
    · exact beaconKnown_keepsLimits c _ _ s
    · exact beaconUnknown_keepsLimits c _ s
  | storage n a => exact .of_eq ⟨storageFrame_counters n a s, storageFrame_lines n a s⟩
  | depart n =>
    unfold tableTakes
    dsimp only
    split
    · exact .of_eq (by simp)
    · exact .refl s

theorem disposeFrame_keepsLimits (c : Configuration) (k : Capture) (g n : Nat) (f : Frame) (s : State) :
    KeepsLimits s (disposeFrame c k g n f s) := by
  refine .ite (count_keepsLimits .foreign s) (.ite (.of_eq (by simp)) ?_)
  refine .trans ?_ (tableTakes_keepsLimits c k f _)
  exact .of_bump .goodRx ⟨rfl, rfl⟩

theorem completeFrame_keepsLimits (k : Capture) (n : Nat) (got : List Byte) (f b : Byte) (s : State) :
    KeepsLimits s (completeFrame k n got f b s) := by
  unfold completeFrame
  split
  · refine .ite ?_ (discardFrame_keepsLimits s)
    split
    · exact .of_start (disposeFrame_keepsLimits _ k _ _ _ (setReceiver .hunt s)) ⟨rfl, rfl⟩
    · exact discardFrame_keepsLimits s
  · exact .refl s

theorem receiveByte_keepsLimits (b : Byte) (e : Bool) (s : State) : KeepsLimits s (receiveByte b e s) := by
  unfold receiveByte
  split
  case h_1 => exact .ite (.of_eq (by simp)) (.refl s)
  case h_2 => exact .ite (.of_eq (by simp)) (.ite (.refl s) (.of_eq (by simp)))
  case h_3 => exact .ite (.of_eq (by simp)) (discardFrame_keepsLimits s)
  case h_4 => exact .ite (discardFrame_keepsLimits s) (.ite (.of_eq (by simp)) (.of_eq (by simp)))
  case h_5 =>
    refine .ite (discardFrame_keepsLimits s) ?_
    split
    · exact .of_eq (by simp)
    · exact completeFrame_keepsLimits _ _ _ _ _ s

theorem cutShort_keepsLimits (s : State) : KeepsLimits s (cutShort s) := by
  unfold cutShort
  split
  case h_1 | h_2 => exact .refl s
  case h_3 | h_4 | h_5 => exact discardFrame_keepsLimits s

/-! ### The operations across the blocks have it -/

theorem enterFullWhenDue_keepsLimits (c : Configuration) (p : Plan) (d : Direction) (s : State) :
    KeepsLimits s (enterFullWhenDue c p d s) := .of_eq (by simp)

theorem planStanding_keepsLimits (c : Configuration) (n : Num4) (p : Plan) (s : State) :
    KeepsLimits s (planStanding c n p s) := by
  unfold planStanding
  refine .trans ?_ (enterFullWhenDue_keepsLimits c p _ _)
  refine .trans ?_ (enterFullWhenDue_keepsLimits c p _ _)
  exact .of_start (expireAged_keepsLimits p _) ⟨rfl, rfl⟩

theorem pendingTakesEffect_keepsLimits (c : Configuration) (s : State) :
    KeepsLimits s (pendingTakesEffect c s) := by
  unfold pendingTakesEffect
  repeat' split
  · exact planStanding_keepsLimits c _ _ s
  · exact .refl s
  · exact .of_eq ⟨rfl, rfl⟩

theorem takeCharge_keepsLimits (s : State) : KeepsLimits s (takeCharge s) := by
  unfold takeCharge
  split
  · refine .trans ?_ (takeReachedDeciding_keepsLimits _ _ _)
    exact .of_lines (by simp) (by simpa using (zeroCounts_keepsLimits s).lines)
  · exact .refl s

theorem leaveCharge_keepsLimits (m : Mode) (s : State) : KeepsLimits s (leaveCharge m s) := by
  unfold leaveCharge
  split
  · exact .of_start (pendingTakesEffect_keepsLimits _ _) ⟨rfl, rfl⟩
  · exact .refl s

theorem leavePass_keepsLimits (c : Configuration) (s : State) : KeepsLimits s (leavePass c s) :=
  .ite (enterPreempted_keepsLimits s) (.ite (.of_eq ⟨rfl, rfl⟩) (takeCharge_keepsLimits s))

theorem pickupExpires_keepsLimits (s : State) : KeepsLimits s (pickupExpires s) :=
  .of_start (takeCharge_keepsLimits (setFlag .pickupTimeout s)) ⟨rfl, rfl⟩

theorem appendRecord_keepsLimits (c : Configuration) (r : LogRecord) (s : State) :
    KeepsLimits s (appendRecord c r s) :=
  (KeepsLimits.foldl (fun s _ => countAged_keepsLimits s) _ s).trans (.of_eq ⟨rfl, rfl⟩)

theorem gatingWrap_keepsLimits (c : Configuration) (p : Plan) (s : State) : KeepsLimits s (gatingWrap c p s) :=
  .of_eq (by simp)

/-- The middle of a wrap, from the closed cycle to the opening of the next one (R45): the record is made, the
computation starts, and the Priority Arbiter, the output lines and the greens begin anew. -/
theorem recordAndOpen_keepsLimits (c : Configuration) (p : Plan) (m : ChargeMode) (f : CT) (r : LogRecord) (a : PA)
    (s : State) :
    KeepsLimits s (setGreens true (clearLines { startComputation c p m f (appendRecord c r s) with pa := a })) :=
  (appendRecord_keepsLimits c r s).trans (.of_eq (by simp))

theorem doWrap_keepsLimits (s : State) : KeepsLimits s (doWrap s) := by
  unfold doWrap
  split
  · next c p m _ _ =>
    refine .trans ?_ (takeReachedDeciding_keepsLimits c p _)
    refine .trans ?_ (gatingWrap_keepsLimits c p _)
    refine .trans ?_ (recordAndOpen_keepsLimits c p m s.ct _ _ _)
    exact .of_start (closeCycle_keepsLimits c p _) ⟨rfl, rfl⟩
  · exact .refl s

theorem doStep_keepsLimits (s : State) : KeepsLimits s (doStep s) := by
  refine .ite (doWrap_keepsLimits s) (.ite ?_ (.of_eq ⟨rfl, rfl⟩))
  split
  · exact .ite (.of_eq ⟨rfl, rfl⟩) (.refl s)
  · exact .refl s

theorem planAtCompletion_keepsLimits (c : Configuration) (p : Plan) (s : State) :
    KeepsLimits s (planAtCompletion c p s) :=
  (expireAged_keepsLimits p s).trans (.of_eq (by simp [planAtCompletion]))

theorem doCompletion_keepsLimits (n : Snapshot) (s : State) : KeepsLimits s (doCompletion n s) := by
  unfold doCompletion
  split
  · next c _ =>
    split
    · next k p _ =>
      refine .trans ?_ (.ite (.refl _) (takeReachedDeciding_keepsLimits c p _))
      refine .trans ?_ (.ite (planAtCompletion_keepsLimits c p _) (.refl _))
      exact .of_eq ⟨rfl, rfl⟩
    · exact .refl s
  · exact .refl s

theorem takeStepDues_keepsLimits (s : State) : KeepsLimits s (takeStepDues s) := by
  unfold takeStepDues
  split
  · exact .ite (.refl s) (takeReachedDeciding_keepsLimits _ _ s)
  · exact .refl s

theorem resetBlocks_keepsLimits (f m : Word16) (s : State) : KeepsLimits s (resetBlocks f m s.counters s) :=
  .of_lines rfl fun _ k => by simp [resetBlocks, DI.initial, initial_limited]

theorem takeConfiguration_keepsLimits (c : Configuration) (p : Plan) (s : State) :
    KeepsLimits s (takeConfiguration c p s) := .of_lines rfl fun h => h.mapNum fun _ _ hl => hl.started _

theorem loadGood_keepsLimits (c : Configuration) (s : State) : KeepsLimits s (loadGood c s) := by
  unfold loadGood
  split
  · exact (takeConfiguration_keepsLimits c _ s).trans (leavePass_keepsLimits c _)
  · exact .refl s

theorem completeLoad_keepsLimits (o : LoadObservation) (s : State) : KeepsLimits s (completeLoad o s) := by
  unfold completeLoad
  split
  case h_1 => exact loadGood_keepsLimits _ s
  case h_2 => exact .of_eq (by simp)
  case h_3 | h_4 | h_5 => exact .refl s

theorem storageRecovers_keepsLimits (c : Configuration) (k : Num8) (s : State) :
    KeepsLimits s (storageRecovers c k s) := .of_eq (by simp)

theorem risingEdge_keepsLimits (c : Configuration) (p : Plan) (k : Num8) (s : State) :
    KeepsLimits s (risingEdge c p k s) := by
  have hline : KeepsLimits s (setLine k (risenLine (c.role k) s.di.green (s.di.lines.get k)) s) :=
    .setLine k fun h => (h k).risen _ _
  have hstorage := hline.trans (.ite (b := (s.di.lines.get k).fault = .stuckOff)
    (storageRecovers_keepsLimits c k _) (.refl _))
  unfold risingEdge
  dsimp only
  split
  · exact hstorage.trans (.ite (requestArrives_keepsLimits p k _ _) (.refl _))
  · exact hstorage

theorem fallingEdge_keepsLimits (c : Configuration) (p : Plan) (k : Num8) (s : State) :
    KeepsLimits s (fallingEdge c p k s) := by
  have hline : KeepsLimits s (setLine k (fallenLine (s.di.lines.get k)) s) := .setLine k fun h => (h k).fallen
  have hstorage := hline.trans (.ite (b := (s.di.lines.get k).fault = .stuckOn)
    (storageRecovers_keepsLimits c k _) (.refl _))
  unfold fallingEdge
  dsimp only
  split
  · exact hstorage.trans (.of_eq (by simp))
  · exact hstorage

theorem filterLevel_keepsLimits (c : Configuration) (p : Plan) (k : Num8) (s : State) :
    KeepsLimits s (filterLevel c p k s) :=
  .ite (.setLine k fun h => (h k).withTiming _)
    (.ite (.ite (risingEdge_keepsLimits c p k s) (fallingEdge_keepsLimits c p k s))
      (.setLine k fun h => (h k).withTiming _))

/-! ### The events of the link, the clock, the detector lines and the cabinet have it -/

theorem idleGap_keepsLimits (s : State) : KeepsLimits s (idleGap s) := by
  refine .ite ?_ (.refl s)
  have hcut := cutShort_keepsLimits { s with lc := { s.lc with line := .idle } }
  exact .of_start (hcut.trans (.of_eq ⟨rfl, rfl⟩)) ⟨rfl, rfl⟩

theorem deferralRunsOut_keepsLimits (s : State) : KeepsLimits s (deferralRunsOut s) :=
  .ite (.of_eq ⟨rfl, rfl⟩) (.refl s)

theorem frameMarkPasses_keepsLimits (s : State) : KeepsLimits s (frameMarkPasses s) := by
  unfold frameMarkPasses
  split
  · exact .ite (.of_eq (by simp)) (.refl s)
  · exact .ite (.of_eq (by simp)) (.refl s)

theorem lastCheckByte_keepsLimits (b : Byte) (s : State) : KeepsLimits s (lastCheckByte b s) := by
  unfold lastCheckByte
  split
  · exact completeFrame_keepsLimits _ _ _ _ _ s
  · exact .refl s

theorem collisionFound_keepsLimits (s : State) : KeepsLimits s (collisionFound s) := by
  unfold collisionFound
  split
  · exact collide_keepsLimits _ s
  · exact .refl s

theorem attemptDone_keepsLimits (s : State) : KeepsLimits s (attemptDone s) := by
  unfold attemptDone
  split
  · exact .ite (succeed_keepsLimits _ s) (.refl s)
  · exact .refl s

theorem beaconTimerOut_keepsLimits (s : State) : KeepsLimits s (beaconTimerOut s) := by
  unfold beaconTimerOut
  split
  · exact .ite (.of_eq (by simp)) (.refl s)
  · exact .refl s

theorem silenceTimerOut_keepsLimits (s : State) : KeepsLimits s (silenceTimerOut s) := .ite (.of_eq (by simp)) (.refl s)

theorem entryTurnsQuiet_keepsLimits (n : Nat) (s : State) : KeepsLimits s (entryTurnsQuiet n s) := by
  unfold entryTurnsQuiet
  split
  · exact .ite (.of_eq (by simp)) (.refl s)
  · exact .refl s

theorem entryExpires_keepsLimits (n : Nat) (s : State) : KeepsLimits s (entryExpires n s) := by
  unfold entryExpires
  split
  · exact .ite (.of_eq (by simp)) (.refl s)
  · exact .refl s

theorem linkByteArrives_keepsLimits (b : Byte) (e : Bool) (s : State) : KeepsLimits s (linkByteArrives b e s) :=
  .ite (receiveByte_keepsLimits b e s) (.refl s)

theorem clockSteps_keepsLimits (s : State) : KeepsLimits s (clockSteps s) := .ite (doStep_keepsLimits s) (.refl s)

theorem clockWraps_keepsLimits (s : State) : KeepsLimits s (clockWraps s) := .ite (doWrap_keepsLimits s) (.refl s)

theorem computationCompletes_keepsLimits (s : State) : KeepsLimits s (computationCompletes s) := by
  unfold computationCompletes
  split
  · exact .ite ((takeStepDues_keepsLimits s).trans (doCompletion_keepsLimits _ _)) (.refl s)
  · exact .refl s

theorem markComesDue_keepsLimits (m : Num8) (s : State) : KeepsLimits s (markComesDue m s) := by
  unfold markComesDue
  split
  · exact .ite (.ite (reachStretch_keepsLimits _ _ s) (.of_eq (by simp))) (.refl s)
  · exact .refl s

theorem gatePointComes_keepsLimits (d : Direction) (s : State) : KeepsLimits s (gatePointComes d s) := by
  unfold gatePointComes
  split
  · exact .ite (.of_eq (by simp)) (.refl s)
  · exact .refl s

theorem windowOpens_keepsLimits (s : State) : KeepsLimits s (windowOpens s) := by
  unfold windowOpens
  split
  · exact .ite (.of_start (decideEarly_keepsLimits _) ⟨rfl, rfl⟩) (.refl s)
  · exact .refl s

theorem extensionRunsOut_keepsLimits (s : State) : KeepsLimits s (extensionRunsOut s) := by
  unfold extensionRunsOut
  split
  · exact .ite (.of_eq (by simp)) (.refl s)
  · exact .refl s

theorem requestRunsOut_keepsLimits (k : Num8) (s : State) : KeepsLimits s (requestRunsOut k s) := by
  unfold requestRunsOut
  split
  · exact .ite (expireRequest_keepsLimits k s) (.refl s)
  · exact .refl s

theorem detectorChanges_keepsLimits (k : Num8) (v : Bool) (s : State) : KeepsLimits s (detectorChanges k v s) := by
  unfold detectorChanges
  have hraw := setRaw_keepsLimits k v s
  split
  · exact .ite (hraw.trans (filterLevel_keepsLimits _ _ k _)) hraw
  · exact hraw

theorem lineRises_keepsLimits (k : Num8) (s : State) : KeepsLimits s (lineRises k s) := by
  unfold lineRises
  split
  · exact .ite (risingEdge_keepsLimits _ _ k s) (.refl s)
  · exact .refl s

theorem lineFalls_keepsLimits (k : Num8) (s : State) : KeepsLimits s (lineFalls k s) := by
  unfold lineFalls
  split
  · exact .ite (fallingEdge_keepsLimits _ _ k s) (.refl s)
  · exact .refl s

theorem lineSticksOn_keepsLimits (k : Num8) (s : State) : KeepsLimits s (lineSticksOn k s) := by
  unfold lineSticksOn
  split
  · exact .ite (enterFault_keepsLimits _ k _ s) (.refl s)
  · exact .refl s

theorem directionFills_keepsLimits (d : Direction) (s : State) : KeepsLimits s (directionFills d s) := by
  unfold directionFills
  split
  · exact enterFullWhenDue_keepsLimits _ _ d s
  · exact .refl s

theorem directionClears_keepsLimits (d : Direction) (s : State) : KeepsLimits s (directionClears d s) := by
  unfold directionClears
  split
  · exact .ite (.of_eq (by simp)) (.refl s)
  · exact .refl s

theorem changeInput_keepsLimits (f : FilteredInput → FilteredInput) (n : CabinetInput) (s : State) :
    KeepsLimits s (changeInput f n s) := by
  cases n with
  | sync => exact .of_eq ⟨rfl, rfl⟩
  | preempt => exact .of_eq ⟨rfl, rfl⟩

theorem syncRises_keepsLimits (s : State) : KeepsLimits s (syncRises s) := by
  have hin := changeInput_keepsLimits (inputEdge true) .sync s
  exact .ite (.ite (hin.trans (takeCharge_keepsLimits _)) hin) (.refl s)

theorem syncFalls_keepsLimits (s : State) : KeepsLimits s (syncFalls s) :=
  .ite (changeInput_keepsLimits _ _ s) (.refl s)

theorem preemptUnit_keepsLimits (s : State) : KeepsLimits s (preemptUnit s) := by
  unfold preemptUnit
  split
  case h_1 =>
    have hleft := (leaveCharge_keepsLimits .preempted s).trans (enterPreempted_keepsLimits _)
    exact hleft.trans (.of_eq (by simp))
  case h_2 => exact enterPreempted_keepsLimits s
  case h_3 | h_4 => exact .refl s

theorem preemptRises_keepsLimits (s : State) : KeepsLimits s (preemptRises s) :=
  .ite ((changeInput_keepsLimits _ _ s).trans (preemptUnit_keepsLimits _)) (.refl s)

theorem preemptFalls_keepsLimits (s : State) : KeepsLimits s (preemptFalls s) := by
  have hin := changeInput_keepsLimits (inputEdge false) .preempt s
  exact .ite (.ite (hin.trans (takeCharge_keepsLimits _)) hin) (.refl s)

theorem pickupRunsOut_keepsLimits (s : State) : KeepsLimits s (pickupRunsOut s) := by
  unfold pickupRunsOut
  split
  · exact .ite (pickupExpires_keepsLimits s) (.refl s)
  · exact .refl s

/-! ### The cabinet port's operations have it -/

theorem answerOk_keepsLimits (k : HostKind) (d : List Byte) (s : State) : KeepsLimits s (answerOk k d s) :=
  .of_eq ⟨rfl, rfl⟩

theorem answerRefused_keepsLimits (e : Byte) (r : RefusalReason) (s : State) : KeepsLimits s (answerRefused e r s) :=
  .of_eq ⟨rfl, rfl⟩

theorem refuseCommand_keepsLimits (k : HostKind) (r : RefusalReason) (s : State) :
    KeepsLimits s (refuseCommand k r s) := answerRefused_keepsLimits _ r s

theorem setPort_keepsLimits (r : PortReceiver) (s : State) : KeepsLimits s (setPort r s) := .of_eq (by simp)

theorem actLog_keepsLimits (s : State) : KeepsLimits s (actLog s) := by
  unfold actLog
  split
  · exact .of_eq ⟨rfl, rfl⟩
  · exact .of_start (answerOk_keepsLimits .log _ _) ⟨rfl, rfl⟩

theorem actClear_keepsLimits (w : Word16) (s : State) : KeepsLimits s (actClear w s) :=
  .ite (refuseCommand_keepsLimits _ _ s) (.of_eq ⟨rfl, rfl⟩)

theorem actMask_keepsLimits (w : Word16) (s : State) : KeepsLimits s (actMask w s) :=
  .ite (refuseCommand_keepsLimits _ _ s) (.of_eq ⟨rfl, rfl⟩)

theorem choosePlan_keepsLimits (c : Configuration) (n : Num4) (p : Plan) (s : State) :
    KeepsLimits s (choosePlan c n p s) := by
  refine .ite (.of_eq ⟨rfl, rfl⟩) ((planStanding_keepsLimits c n p s).trans ?_)
  exact .ite (pickupExpires_keepsLimits _) (.refl _)

theorem actPlan_keepsLimits (b : Byte) (s : State) : KeepsLimits s (actPlan b s) := by
  unfold actPlan
  split
  · exact refuseCommand_keepsLimits _ _ s
  · split
    · exact (choosePlan_keepsLimits _ _ _ s).trans (answerOk_keepsLimits _ _ _)
    · exact refuseCommand_keepsLimits _ _ s

theorem actManual_keepsLimits (k v : Byte) (s : State) : KeepsLimits s (actManual k v s) := by
  unfold actManual
  split
  · exact .of_eq ⟨rfl, rfl⟩
  · exact refuseCommand_keepsLimits _ _ s

theorem actRelease_keepsLimits (k : Byte) (s : State) : KeepsLimits s (actRelease k s) := by
  unfold actRelease
  split
  · exact .of_eq ⟨rfl, rfl⟩
  · exact refuseCommand_keepsLimits _ _ s

theorem holdUnit_keepsLimits (s : State) : KeepsLimits s (holdUnit s) := by
  unfold holdUnit
  split
  case h_1 => exact (leaveCharge_keepsLimits .pass s).trans (.of_eq (by simp))
  case h_2 | h_3 => exact .of_eq ⟨rfl, rfl⟩
  case h_4 => exact .refl s

theorem actHold_keepsLimits (s : State) : KeepsLimits s (actHold s) :=
  (holdUnit_keepsLimits s).trans (answerOk_keepsLimits _ _ _)

theorem actResume_keepsLimits (s : State) : KeepsLimits s (actResume s) := by
  unfold actResume
  split
  · exact .ite ((leavePass_keepsLimits _ s).trans (answerOk_keepsLimits _ _ _)) (refuseCommand_keepsLimits _ _ s)
  · exact refuseCommand_keepsLimits _ _ s

theorem actKind_keepsLimits (k : HostKind) (args : List Byte) (s : State) : KeepsLimits s (actKind k args s) := by
  cases k with
  | status | table | counters | flags | restart => exact .of_eq ⟨rfl, rfl⟩
  | log => exact actLog_keepsLimits s
  | clear => exact actClear_keepsLimits _ s
  | mask => exact actMask_keepsLimits _ s
  | plan => exact actPlan_keepsLimits _ s
  | manual => exact actManual_keepsLimits _ _ s
  | release => exact actRelease_keepsLimits _ s
  | hold => exact actHold_keepsLimits s
  | resume => exact actResume_keepsLimits s

theorem takeMessage_keepsLimits {f : State → State} (hf : ∀ s, KeepsLimits s (f s)) (s : State) :
    KeepsLimits s (takeMessage f s) := by
  unfold takeMessage
  split
  · exact (setPort_keepsLimits .wait s).trans (hf _)
  · exact .refl s

theorem endMalformed_keepsLimits (o : Bool) (e : Byte) (s : State) : KeepsLimits s (endMalformed o e s) :=
  .ite (setPort_keepsLimits .wait s)
    ((setPort_keepsLimits .wait s).trans (takeMessage_keepsLimits (answerRefused_keepsLimits e _) _))

theorem endMessage_keepsLimits (o : Bool) (n : Nat) (got : List Byte) (b : Byte) (s : State) :
    KeepsLimits s (endMessage o n got b s) := by
  refine .ite (setPort_keepsLimits .wait s) (.ite (endMalformed_keepsLimits _ _ s) ?_)
  split
  · exact .ite ((setPort_keepsLimits .wait s).trans (takeMessage_keepsLimits (actKind_keepsLimits _ _) _))
      (endMalformed_keepsLimits _ _ s)
  · exact endMalformed_keepsLimits _ _ s

theorem openMessage_keepsLimits (s : State) : KeepsLimits s (openMessage s) := by
  unfold openMessage
  split
  · exact .of_eq ⟨rfl, rfl⟩
  · exact .of_bump .portOverrun ⟨rfl, rfl⟩

theorem portByte_keepsLimits (b : Byte) (e : Bool) (s : State) : KeepsLimits s (portByte b e s) := by
  unfold portByte
  split
  case h_1 => exact .ite (openMessage_keepsLimits s) (.refl s)
  case h_2 => exact .ite (setPort_keepsLimits _ s) (endMalformed_keepsLimits _ _ s)
  case h_3 =>
    exact .ite (endMalformed_keepsLimits _ _ s) (.ite (setPort_keepsLimits _ s) (setPort_keepsLimits _ s))
  case h_4 => exact .ite (endMalformed_keepsLimits _ _ s) (endMessage_keepsLimits _ _ _ b s)

theorem portTimeout_keepsLimits (s : State) : KeepsLimits s (portTimeout s) := by
  unfold portTimeout
  split
  case h_1 => exact .refl s
  case h_2 | h_3 | h_4 => exact endMalformed_keepsLimits _ _ s

theorem startByteOverruns_keepsLimits (s : State) : KeepsLimits s (startByteOverruns s) :=
  .ite (openMessage_keepsLimits s) (.refl s)

theorem responseDone_keepsLimits (s : State) : KeepsLimits s (responseDone s) := by
  unfold responseDone
  split
  case h_1 => exact resetBlocks_keepsLimits _ _ s
  case h_2 => exact .of_eq ⟨rfl, rfl⟩
  case h_3 => exact .refl s

/-! ### Every command but POWER_UP, and the passing of time, have it -/

/-- What an operation keeps, its meaning keeps too, whether the unit works or not. -/
theorem onUnit_keepsLimits {f : State → State} (hf : ∀ s, KeepsLimits s (f s)) {s t : State}
    (h : onUnit f s = .next t) : KeepsLimits s t := by
  cases hp : s.powered with
  | true =>
    rw [onUnit_powered hp] at h
    cases h
    exact hf s
  | false =>
    rw [onUnit_unpowered hp] at h
    cases h
    exact .refl s

/-- A meaning that follows an input also while the unit does not work keeps what both its operations keep. -/
theorem either_keepsLimits {b : Bool} {s u v t : State} (hu : KeepsLimits s u) (hv : KeepsLimits s v)
    (h : (if b then (.next u : Host.Outcome State Fault Refusal) else .next v) = .next t) : KeepsLimits s t := by
  split at h
  · cases h
    exact hu
  · cases h
    exact hv

theorem exec_keepsLimits {c : Instr} {s t : State} (h : exec c s = .next t) (hc : c ≠ .powerUp) :
    KeepsLimits s t := by
  cases c with
  | powerUp => exact absurd rfl hc
  | configLoadComplete o => exact onUnit_keepsLimits (completeLoad_keepsLimits o) h
  | lineBusy =>
    exact either_keepsLimits (u := startBit s) (v := { s with lc := { s.lc with line := .busy } })
      (.of_eq ⟨rfl, rfl⟩) (.of_eq ⟨rfl, rfl⟩) h
  | lineIdle =>
    exact either_keepsLimits (v := { s with lc := { s.lc with line := .idle } })
      (idleGap_keepsLimits s) (.of_eq ⟨rfl, rfl⟩) h
  | deferralEnd => exact onUnit_keepsLimits deferralRunsOut_keepsLimits h
  | frameMark => exact onUnit_keepsLimits frameMarkPasses_keepsLimits h
  | frameReceived b => exact onUnit_keepsLimits (lastCheckByte_keepsLimits b) h
  | collision => exact onUnit_keepsLimits collisionFound_keepsLimits h
  | attemptSuccess => exact onUnit_keepsLimits attemptDone_keepsLimits h
  | beaconTimerExpiry => exact onUnit_keepsLimits beaconTimerOut_keepsLimits h
  | linkSilent => exact onUnit_keepsLimits silenceTimerOut_keepsLimits h
  | entryQuiet n => exact onUnit_keepsLimits (entryTurnsQuiet_keepsLimits n) h
  | expiry n => exact onUnit_keepsLimits (entryExpires_keepsLimits n) h
  | clockStep => exact onUnit_keepsLimits clockSteps_keepsLimits h
  | wrap => exact onUnit_keepsLimits clockWraps_keepsLimits h
  | completion => exact onUnit_keepsLimits computationCompletes_keepsLimits h
  | markDue m => exact onUnit_keepsLimits (markComesDue_keepsLimits m) h
  | gatePointReached d => exact onUnit_keepsLimits (gatePointComes_keepsLimits d) h
  | windowOpening => exact onUnit_keepsLimits windowOpens_keepsLimits h
  | extensionLimit => exact onUnit_keepsLimits extensionRunsOut_keepsLimits h
  | requestExpiry k => exact onUnit_keepsLimits (requestRunsOut_keepsLimits k) h
  | detectorInputChange k v =>
    exact either_keepsLimits (detectorChanges_keepsLimits k v s) (setRaw_keepsLimits k v s) h
  | filteredRisingEdge k => exact onUnit_keepsLimits (lineRises_keepsLimits k) h
  | filteredFallingEdge k => exact onUnit_keepsLimits (lineFalls_keepsLimits k) h
  | stuckOn k => exact onUnit_keepsLimits (lineSticksOn_keepsLimits k) h
  | fullEntry d => exact onUnit_keepsLimits (directionFills_keepsLimits d) h
  | fullRelease d => exact onUnit_keepsLimits (directionClears_keepsLimits d) h
  | cabinetInputChange n v =>
    exact either_keepsLimits (changeInput_keepsLimits (inputLevel v) n s) (changeInput_keepsLimits (inputRaw v) n s) h
  | syncRisingEdge => exact onUnit_keepsLimits syncRises_keepsLimits h
  | syncFallingEdge => exact onUnit_keepsLimits syncFalls_keepsLimits h
  | preemptRisingEdge => exact onUnit_keepsLimits preemptRises_keepsLimits h
  | preemptFallingEdge => exact onUnit_keepsLimits preemptFalls_keepsLimits h
  | pickupTimeout => exact onUnit_keepsLimits pickupRunsOut_keepsLimits h
  | malformedMessage e =>
    exact onUnit_keepsLimits (takeMessage_keepsLimits (answerRefused_keepsLimits e .badMessage)) h
  | messageTimeout => exact onUnit_keepsLimits portTimeout_keepsLimits h
  | portOverrun => exact onUnit_keepsLimits startByteOverruns_keepsLimits h
  | responseSent => exact onUnit_keepsLimits responseDone_keepsLimits h
  | status => exact onUnit_keepsLimits (takeMessage_keepsLimits (actKind_keepsLimits .status [])) h
  | table => exact onUnit_keepsLimits (takeMessage_keepsLimits (actKind_keepsLimits .table [])) h
  | counters => exact onUnit_keepsLimits (takeMessage_keepsLimits (actKind_keepsLimits .counters [])) h
  | log => exact onUnit_keepsLimits (takeMessage_keepsLimits actLog_keepsLimits) h
  | flags => exact onUnit_keepsLimits (takeMessage_keepsLimits (actKind_keepsLimits .flags [])) h
  | clear w => exact onUnit_keepsLimits (takeMessage_keepsLimits (actClear_keepsLimits w)) h
  | mask w => exact onUnit_keepsLimits (takeMessage_keepsLimits (actMask_keepsLimits w)) h
  | plan n => exact onUnit_keepsLimits (takeMessage_keepsLimits (actPlan_keepsLimits n)) h
  | manual k v => exact onUnit_keepsLimits (takeMessage_keepsLimits (actManual_keepsLimits k v)) h
  | release k => exact onUnit_keepsLimits (takeMessage_keepsLimits (actRelease_keepsLimits k)) h
  | hold => exact onUnit_keepsLimits (takeMessage_keepsLimits actHold_keepsLimits) h
  | resume => exact onUnit_keepsLimits (takeMessage_keepsLimits actResume_keepsLimits) h
  | restart => exact onUnit_keepsLimits (takeMessage_keepsLimits (actKind_keepsLimits .restart [])) h
  | linkByteReceived b e => exact onUnit_keepsLimits (linkByteArrives_keepsLimits b e) h
  | portByteReceived b e => exact onUnit_keepsLimits (portByte_keepsLimits b e) h
  | passThroughChange k v | resetAsserted | supplyOutOfRange =>
    cases h
    exact .of_eq ⟨rfl, rfl⟩

theorem tick_keepsLimits (s : State) : KeepsLimits s (tick s) := by
  refine .of_lines rfl fun h => ?_
  show LinesLimited (linesTick s.config s.di.lines)
  unfold linesTick
  split
  · exact h.mapNum fun _ _ hl => hl.ticked _
  · exact h

theorem idle_keepsLimits (s : State) : KeepsLimits s (idle s) :=
  .ite (.ite (tick_keepsLimits s) (.of_eq ⟨rfl, rfl⟩)) (.refl s)

/-! ### The statement -/

/-- POWER_UP puts every counter, count and run at 0 (R69, R79, R172, R181). -/
theorem execPowerUp_countsObey {s t : State} (h : execPowerUp s = .next t) : t.CountsObey := by
  cases h
  rw [countsObey_iff]
  refine ⟨by simp [resetBlocks, Counters.zero, Counters.toList], fun k => ?_⟩
  simp [resetBlocks, DI.initial, initial_limited]

theorem exec_countsObey {c : Instr} {s t : State} (hs : s.CountsObey) (h : exec c s = .next t) : t.CountsObey := by
  by_cases hc : c = .powerUp
  · subst hc
    exact execPowerUp_countsObey h
  · exact (exec_keepsLimits h hc).countsObey hs

theorem step_countsObey {s t : State} (hs : s.CountsObey) (h : step s = .next t) : t.CountsObey := by
  unfold step at h
  split at h
  · next c rest _ =>
    have hrest : KeepsLimits s { s with pending := rest } := .of_eq ⟨rfl, rfl⟩
    exact exec_countsObey (hrest.countsObey hs) h
  · cases h
    exact (idle_keepsLimits s).countsObey hs

/-- The wrap count is a 16-bit number and wraps where the event counters stop (R2, R45). -/
theorem openCycle_wrapCount_at_last (p : Plan) (c : Nat) {t : CT} (h : t.wrapCount.toNat = 65535) :
    (openCycle p c t).wrapCount = 0 := by
  show t.wrapCount + 1 = 0
  bv_omega

/-- Settles O41: every operation but POWER_UP has `KeepsLimits`, and POWER_UP starts all counts at 0. -/
theorem countersStopAtTheirLimits : Obligations.CountersStopAtTheirLimits := by
  refine ⟨fun s t hs h => ?_, fun c s t hs h hc => ?_, fun p c t h => ?_⟩
  · exact step_countsObey hs h
  · exact (exec_keepsLimits h hc).counters.rises hs.events
  · exact openCycle_wrapCount_at_last p c h

end Sys2Proof.Machine

/-! ## The nearest entries (R36, R38)

The entries rise in position, so the first above the own position and the last below it are the nearest. -/

namespace Sys2Proof.Machine

/-- Where the entries rise in position, the first that has a property is at or below every other that has it. -/
theorem find?_lowest {p : Entry → Bool} {entries : List Entry} {e : Entry}
    (rise : entries.Pairwise (fun e f => e.beacon.position < f.beacon.position)) (h : entries.find? p = some e) :
    ∀ f ∈ entries, p f = true → e.beacon.position ≤ f.beacon.position := by
  obtain ⟨-, before, after, rfl, hbefore⟩ := List.find?_eq_some_iff_append.mp h
  obtain ⟨-, htail, -⟩ := List.pairwise_append.mp rise
  intro f hf hp
  rcases List.mem_append.mp hf with hf | hf
  · have := hbefore f hf
    simp [hp] at this
  · rcases List.mem_cons.mp hf with rfl | hf
    · exact le_rfl
    · exact (List.rel_of_pairwise_cons htail hf).le

/-- Where the entries rise in position, the last is at or above every other. -/
theorem getLast?_highest {entries : List Entry} {e : Entry}
    (rise : entries.Pairwise (fun e f => e.beacon.position < f.beacon.position)) (h : entries.getLast? = some e) :
    ∀ f ∈ entries, f.beacon.position ≤ e.beacon.position := by
  obtain ⟨before, rfl⟩ := List.getLast?_eq_some_iff.mp h
  obtain ⟨-, -, hlast⟩ := List.pairwise_append.mp rise
  intro f hf
  rcases List.mem_append.mp hf with hf | hf
  · exact (hlast f hf e (List.mem_singleton_self e)).le
  · rw [List.mem_singleton.mp hf]

theorem distance_of_le {a own : Nat} (h : a ≤ own) : distance a own = own - a := if_pos h

theorem distance_of_ge {a own : Nat} (h : own ≤ a) : distance a own = a - own := by
  unfold distance
  split <;> omega

theorem nearestUpstream_inbound_none {own : Nat} {entries : List Entry} :
    nearestUpstream own entries .inbound = none ↔ ∀ e ∈ entries, ¬ own < e.beacon.position := by
  simp [nearestUpstream]

theorem nearestUpstream_outbound_none {own : Nat} {entries : List Entry} :
    nearestUpstream own entries .outbound = none ↔ ∀ e ∈ entries, ¬ e.beacon.position < own := by
  simp [nearestUpstream]

/-- The entry found for INBOUND is the nearest above the own position. -/
theorem nearestUpstream_inbound_some {own : Nat} {entries : List Entry} {e : Entry}
    (rise : entries.Pairwise (fun e f => e.beacon.position < f.beacon.position))
    (h : nearestUpstream own entries .inbound = some e) :
    e ∈ entries ∧ own < e.beacon.position ∧ ∀ f ∈ entries, own < f.beacon.position →
      distance e.beacon.position own ≤ distance f.beacon.position own := by
  have habove : own < e.beacon.position := by simpa using List.find?_some h
  refine ⟨List.mem_of_find?_eq_some h, habove, fun f hf hside => ?_⟩
  have hlow := find?_lowest rise h f hf (decide_eq_true hside)
  rw [distance_of_ge habove.le, distance_of_ge hside.le]
  omega

/-- The entry found for OUTBOUND is the nearest below the own position. -/
theorem nearestUpstream_outbound_some {own : Nat} {entries : List Entry} {e : Entry}
    (rise : entries.Pairwise (fun e f => e.beacon.position < f.beacon.position))
    (h : nearestUpstream own entries .outbound = some e) :
    e ∈ entries ∧ e.beacon.position < own ∧ ∀ f ∈ entries, f.beacon.position < own →
      distance e.beacon.position own ≤ distance f.beacon.position own := by
  obtain ⟨hmem, hbelow⟩ : e ∈ entries ∧ e.beacon.position < own := by
    simpa using List.mem_filter.mp (List.mem_of_getLast? h)
  refine ⟨hmem, hbelow, fun f hf hside => ?_⟩
  have hhigh := getLast?_highest (rise.sublist List.filter_sublist) h f
    (List.mem_filter.mpr ⟨hf, decide_eq_true hside⟩)
  rw [distance_of_le hbelow.le, distance_of_le hside.le]
  omega

/-- Settles O22: the first entry above and the last below, by the two cases of the direction. -/
theorem nearestEntryIsNearest : Obligations.NearestEntryIsNearest := by
  intro c entries d law side hside
  cases d with
  | inbound =>
    simp only [hside]
    exact ⟨nearestUpstream_inbound_none, fun e he => nearestUpstream_inbound_some law.positionsRise he, rfl⟩
  | outbound =>
    simp only [hside]
    exact ⟨nearestUpstream_outbound_none, fun e he => nearestUpstream_outbound_some law.positionsRise he, rfl⟩

end Sys2Proof.Machine

/-! ## The law of the Neighbour Table (R25)

The entries change only by what the table does with a frame handed to it, by aging, and by the resets; the
configuration, only by the end of a load and the resets. `KeepsTable s t` says that the way from `s` to `t` leads from
a table that obeys its law to one that does; every operation has it. -/

namespace Sys2Proof.Machine

/-! ### Lists of entries -/

@[simp] theorem mem_withoutStation {n : Nat} {entries : List Entry} {e : Entry} :
    e ∈ withoutStation n entries ↔ e ∈ entries ∧ e.station ≠ n := by simp [withoutStation]

theorem withoutStation_sublist (n : Nat) (entries : List Entry) : (withoutStation n entries).Sublist entries :=
  List.filter_sublist

/-- Where a station has an entry, the list without it is shorter. -/
theorem length_withoutStation_lt {n : Nat} {entries : List Entry} (h : ∃ e ∈ entries, e.station = n) :
    (withoutStation n entries).length < entries.length := by
  obtain ⟨e, he, hn⟩ := h
  exact List.length_filter_lt_length_iff_exists.mpr ⟨e, he, by simp [hn]⟩

theorem findEntry_some {entries : List Entry} {n : Nat} {e : Entry} (h : findEntry entries n = some e) :
    e ∈ entries ∧ e.station = n :=
  ⟨List.mem_of_find?_eq_some h, by simpa using List.find?_some h⟩

/-- No other station's entry holds a position that `positionHeld` does not find. -/
theorem position_free {n x : Nat} {entries : List Entry} (h : positionHeld n x entries ≠ true) :
    ∀ e ∈ entries, e.station ≠ n → e.beacon.position ≠ x := by
  simpa [positionHeld] using h

theorem insertEntry_perm (e : Entry) (entries : List Entry) : (insertEntry e entries).Perm (e :: entries) := by
  induction entries with
  | nil => exact .refl _
  | cons f rest ih =>
    unfold insertEntry
    split
    · exact .refl _
    · exact (ih.cons f).trans (.swap e f rest)

theorem insertEntry_rises {e : Entry} {entries : List Entry}
    (rise : entries.Pairwise (fun e f => e.beacon.position < f.beacon.position))
    (hfree : ∀ f ∈ entries, f.beacon.position ≠ e.beacon.position) :
    (insertEntry e entries).Pairwise (fun e f => e.beacon.position < f.beacon.position) := by
  induction entries with
  | nil => exact List.pairwise_singleton _ e
  | cons f rest ih =>
    obtain ⟨hf, hrest⟩ := List.pairwise_cons.mp rise
    have hne := hfree f List.mem_cons_self
    unfold insertEntry
    split
    · next hlt =>
      refine List.pairwise_cons.mpr ⟨fun g hg => ?_, rise⟩
      rcases List.mem_cons.mp hg with rfl | hg
      · exact hlt
      · exact hlt.trans (hf g hg)
    · next hge =>
      refine List.pairwise_cons.mpr ⟨fun g hg => ?_, ih hrest fun g hg => hfree g (List.mem_cons_of_mem f hg)⟩
      rcases List.mem_cons.mp ((insertEntry_perm e rest).mem_iff.mp hg) with rfl | hg
      · omega
      · exact hf g hg

theorem farther_eq (own : Nat) (e f : Entry) : farther own e f = e ∨ farther own e f = f := by
  unfold farther
  dsimp only
  split
  · exact .inr rfl
  · exact .inl rfl

theorem foldl_farther_mem (own : Nat) (entries : List Entry) (e : Entry) :
    entries.foldl (farther own) e ∈ e :: entries := by
  induction entries generalizing e with
  | nil => exact List.mem_cons_self
  | cons f rest ih =>
    rw [List.foldl_cons]
    rcases farther_eq own e f with h | h
    · rw [h]
      rcases List.mem_cons.mp (ih e) with hfirst | hrest
      · exact List.mem_cons.mpr (.inl hfirst)
      · exact List.mem_cons_of_mem e (List.mem_cons_of_mem f hrest)
    · rw [h]
      exact List.mem_cons_of_mem e (ih f)

/-- The farthest entry of a table is one of its entries. -/
theorem farthestEntry_mem {own : Nat} {entries : List Entry} {e : Entry} (h : farthestEntry own entries = some e) :
    e ∈ entries := by
  cases entries with
  | nil => cases h
  | cons f rest =>
    cases h
    exact foldl_farther_mem own rest f

/-! ### What keeps the law of a list of entries -/

theorem TableLaw.nil (c : Configuration) : TableLaw c [] :=
  ⟨Nat.zero_le _, .nil, by simp, .nil, by simp⟩

theorem TableLaw.sublist {c : Configuration} {entries less : List Entry} (h : TableLaw c entries)
    (hl : less.Sublist entries) : TableLaw c less where
  atMostEight := hl.length_le.trans h.atMostEight
  distinctStations := h.distinctStations.sublist (hl.map _)
  notOwnStation e he := h.notOwnStation e (hl.subset he)
  positionsRise := h.positionsRise.sublist hl
  insideWindow e he := h.insideWindow e (hl.subset he)

/-- Two entries at one position are one entry. -/
theorem TableLaw.eq_of_position {c : Configuration} {entries : List Entry} (h : TableLaw c entries) {e f : Entry}
    (he : e ∈ entries) (hf : f ∈ entries) (heq : e.beacon.position = f.beacon.position) : e = f := by
  have hnodup : (entries.map fun e => e.beacon.position).Nodup :=
    List.pairwise_map.mpr (h.positionsRise.imp fun hlt => hlt.ne)
  exact List.inj_on_of_nodup_map hnodup he hf heq

/-- A change of every entry that leaves stations and positions alone keeps the law. -/
theorem TableLaw.map {c : Configuration} {entries : List Entry} (h : TableLaw c entries) {f : Entry → Entry}
    (hf : ∀ e, (f e).station = e.station ∧ (f e).beacon = e.beacon) : TableLaw c (entries.map f) where
  atMostEight := by simpa using h.atMostEight
  distinctStations := by simpa [Function.comp_def, hf] using h.distinctStations
  notOwnStation := by simpa [hf] using h.notOwnStation
  positionsRise := by simpa [List.pairwise_map, hf] using h.positionsRise
  insideWindow := by simpa [hf] using h.insideWindow

/-- An entry goes in where there is room for it: its station is new and not the own, its position is free and inside
the reach window. -/
theorem TableLaw.insertEntry {c : Configuration} {entries : List Entry} (h : TableLaw c entries) {e : Entry}
    (hroom : entries.length < 8) (hnew : ∀ f ∈ entries, f.station ≠ e.station) (hown : e.station ≠ c.station)
    (hfree : ∀ f ∈ entries, f.beacon.position ≠ e.beacon.position)
    (hreach : distance e.beacon.position c.position ≤ c.reach) : TableLaw c (insertEntry e entries) := by
  have hperm := insertEntry_perm e entries
  refine ⟨?_, ?_, ?_, insertEntry_rises h.positionsRise hfree, ?_⟩
  · rw [hperm.length_eq, List.length_cons]
    omega
  · rw [(hperm.map _).nodup_iff, List.map_cons, List.nodup_cons]
    exact ⟨by simpa using hnew, h.distinctStations⟩
  · intro f hf
    rcases List.mem_cons.mp (hperm.mem_iff.mp hf) with rfl | hf
    · exact hown
    · exact h.notOwnStation f hf
  · intro f hf
    rcases List.mem_cons.mp (hperm.mem_iff.mp hf) with rfl | hf
    · exact hreach
    · exact h.insideWindow f hf

/-! ### The entries after each operation of the table -/

@[simp] theorem removeEntry_entries (n : Nat) (s : State) :
    (removeEntry n s).nt.entries = withoutStation n s.nt.entries := by simp [removeEntry]

@[simp] theorem placeEntry_entries (e : Entry) (s : State) :
    (placeEntry e s).nt.entries = insertEntry e (withoutStation e.station s.nt.entries) := by simp [placeEntry]

@[simp] theorem judgeReference_entries (n : Nat) (s : State) : (judgeReference n s).nt.entries = s.nt.entries := by
  unfold judgeReference
  split <;> rfl

@[simp] theorem loseStation_entries (n : Nat) (s : State) :
    (loseStation n s).nt.entries = withoutStation n s.nt.entries := by simp [loseStation]

@[simp] theorem makeQuiet_entries (n : Nat) (s : State) :
    (makeQuiet n s).nt.entries
      = s.nt.entries.map (fun e => if e.station = n then { e with state := .quiet } else e) := rfl

/-- A STORAGE frame leaves the entries of a table that has none of its station as they were, and maps them otherwise. -/
theorem storageFrame_law {c : Configuration} {s : State} (law : TableLaw c s.nt.entries) (n : Nat)
    (a : PerDir Approach) : TableLaw c (storageFrame n a s).nt.entries := by
  unfold storageFrame
  split
  · rw [reportToGating_nt]
    exact law.map fun e => by split <;> exact ⟨rfl, rfl⟩
  · exact law

/-- An entry is placed with its law kept where its station is not the own, no other station holds its position, it is
inside the reach window, and the table has room or holds the station already. -/
theorem placeEntry_law {c : Configuration} {s : State} (law : TableLaw c s.nt.entries) {e : Entry}
    (hown : e.station ≠ c.station) (hreach : distance e.beacon.position c.position ≤ c.reach)
    (hfree : ∀ f ∈ s.nt.entries, f.station ≠ e.station → f.beacon.position ≠ e.beacon.position)
    (hroom : s.nt.entries.length < 8 ∨ ∃ f ∈ s.nt.entries, f.station = e.station) :
    TableLaw c (placeEntry e s).nt.entries := by
  have hless := withoutStation_sublist e.station s.nt.entries
  rw [placeEntry_entries]
  refine (law.sublist hless).insertEntry ?_ (fun f hf => (mem_withoutStation.mp hf).2) hown ?_ hreach
  · rcases hroom with hroom | hknown
    · exact hless.length_le.trans_lt hroom
    · exact (length_withoutStation_lt hknown).trans_le law.atMostEight
  · intro f hf
    obtain ⟨hmem, hother⟩ := mem_withoutStation.mp hf
    exact hfree f hmem hother

theorem removeEntry_law {c : Configuration} {s : State} (law : TableLaw c s.nt.entries) (n : Nat) :
    TableLaw c (removeEntry n s).nt.entries := by
  rw [removeEntry_entries]
  exact law.sublist (withoutStation_sublist n _)

/-- At an unchanged position the window and the other positions need no test (R26): no other station's
entry stands there. -/
theorem beaconKnown_law {c : Configuration} {s : State} (law : TableLaw c s.nt.entries) {old new : Entry}
    (hold : old ∈ s.nt.entries) (hsame : old.station = new.station) :
    TableLaw c (beaconKnown c old new s).nt.entries := by
  have hown : new.station ≠ c.station := hsame ▸ law.notOwnStation old hold
  have hknown : ∃ f ∈ s.nt.entries, f.station = new.station := ⟨old, hold, hsame⟩
  unfold beaconKnown
  split
  · next hpos =>
    refine placeEntry_law law hown (hpos ▸ law.insideWindow old hold) (fun f hf hother heq => hother ?_) (.inr hknown)
    rw [law.eq_of_position hf hold (heq.trans hpos.symm), hsame]
  split
  · exact removeEntry_law law _
  next hin =>
  split
  · exact removeEntry_law law _
  · next hheld =>
    exact placeEntry_law law hown (by simpa [inReach] using hin) (position_free hheld) (.inr hknown)

theorem beaconUnknown_law {c : Configuration} {s : State} (law : TableLaw c s.nt.entries) {new : Entry}
    (hown : new.station ≠ c.station) : TableLaw c (beaconUnknown c new s).nt.entries := by
  unfold beaconUnknown
  split
  · exact law
  next hin =>
  have hreach : distance new.beacon.position c.position ≤ c.reach := by simpa [inReach] using hin
  split
  · exact law
  next hheld =>
  have hfree := position_free hheld
  split
  · next hroom => exact placeEntry_law law hown hreach hfree (.inl hroom)
  split
  · next f hf =>
    split
    · have hshorter := length_withoutStation_lt ⟨f, farthestEntry_mem hf, rfl⟩
      refine placeEntry_law (removeEntry_law law f.station) hown hreach ?_ (.inl ?_)
      · intro e he
        rw [removeEntry_entries, mem_withoutStation] at he
        exact hfree e he.1
      · rw [removeEntry_entries]
        exact hshorter.trans_le law.atMostEight
    · exact law
  · exact law

/-- The station a frame is from. -/
def Frame.sender : Frame → Nat
  | .beacon n _ _ => n
  | .storage n _ => n
  | .depart n => n

/-- A frame of another station leaves the table within its law (R26 to R32). -/
theorem tableTakes_law {c : Configuration} {s : State} (law : TableLaw c s.nt.entries) (k : Capture) {f : Frame}
    (hown : f.sender ≠ c.station) : TableLaw c (tableTakes c k f s).nt.entries := by
  cases f with
  | beacon n b a =>
    unfold tableTakes
    dsimp only
    split
    · next old hfind =>
      obtain ⟨hmem, hstation⟩ := findEntry_some hfind
      exact beaconKnown_law law hmem hstation
    · exact beaconUnknown_law law hown
  | storage n a => exact storageFrame_law law n a
  | depart n =>
    unfold tableTakes
    dsimp only
    split
    · rw [loseStation_entries]
      exact law.sublist (withoutStation_sublist n _)
    · exact law

end Sys2Proof.Machine

namespace Sys2Proof.Machine

/-! ### The relation that every operation has -/

theorem cl_of_config {s : State} {c : Configuration} (h : s.config = some c) : s.cl = .good c := by
  unfold State.config at h
  split at h
  · next hcl =>
    cases h
    exact hcl
  · cases h
  · cases h

theorem tableObeys_good {s : State} {c : Configuration} (h : s.cl = .good c) :
    s.TableObeys ↔ TableLaw c s.nt.entries := by
  simp [State.TableObeys, State.config, h]

theorem tableObeys_of_empty {s : State} (h : s.nt.entries = []) : s.TableObeys := by
  unfold State.TableObeys
  split
  · rw [h]
    exact .nil _
  · exact h

/-- While no configuration is in force the table is empty (R41). -/
theorem State.TableObeys.empty {s : State} (hs : s.TableObeys) (h : s.config = none) : s.nt.entries = [] := by
  simpa [State.TableObeys, h] using hs

/-- From a table that obeys its law `s` leads to one that does in `t`. -/
structure KeepsTable (s t : State) : Prop where
  tableObeys : s.TableObeys → t.TableObeys

namespace KeepsTable

theorem refl (s : State) : KeepsTable s s := ⟨id⟩

theorem trans {s t u : State} (h : KeepsTable s t) (h' : KeepsTable t u) : KeepsTable s u := ⟨h'.tableObeys ∘ h.tableObeys⟩

/-- The load status stands, and the entries change in a way that keeps the law under any configuration. -/
theorem of_law {s t : State} (hcl : t.cl = s.cl) (hempty : s.nt.entries = [] → t.nt.entries = [])
    (hlaw : ∀ c, TableLaw c s.nt.entries → TableLaw c t.nt.entries) : KeepsTable s t := by
  refine ⟨fun hs => ?_⟩
  unfold State.TableObeys at hs ⊢
  rw [config_eq hcl]
  split at hs
  · exact hlaw _ hs
  · exact hempty hs

theorem of_eq {s t : State} (h : t.nt.entries = s.nt.entries ∧ t.cl = s.cl) : KeepsTable s t := by
  obtain ⟨he, hcl⟩ := h
  exact .of_law hcl (fun h => he.trans h) fun c hlaw => he ▸ hlaw

/-- What an operation keeps, it keeps from any state with the same entries and load status. -/
theorem of_start {s t u : State} (h : KeepsTable t u) (hs : t.nt.entries = s.nt.entries ∧ t.cl = s.cl) :
    KeepsTable s u := (of_eq hs).trans h

/-- Under a good configuration, in force before and after. -/
theorem of_good {s t : State} {c : Configuration} (hc : s.cl = .good c) (hcl : t.cl = s.cl)
    (hlaw : TableLaw c s.nt.entries → TableLaw c t.nt.entries) : KeepsTable s t := by
  refine ⟨fun hs => ?_⟩
  rw [tableObeys_good (hcl.trans hc)]
  exact hlaw ((tableObeys_good hc).mp hs)

theorem ite {b : Prop} [Decidable b] {s t u : State} (ht : KeepsTable s t) (hu : KeepsTable s u) :
    KeepsTable s (if b then t else u) := by
  split
  · exact ht
  · exact hu

end KeepsTable

/-! ### Frames have it -/

/-- A frame is from the station its second counted byte names (R6, R7). -/
theorem readFrame_sender {n : Nat} {got : List Byte} {f : Frame} (h : readFrame n got = some f) :
    f.sender = u8 got 1 := by
  unfold readFrame readBeacon at h
  repeat' split at h
  all_goals cases h
  all_goals rfl

theorem disposeFrame_keepsTable {c : Configuration} {s : State} (hc : s.cl = .good c) (k : Capture) (g : Nat)
    (f : Frame) : KeepsTable s (disposeFrame c k g f.sender f s) := by
  refine .ite (.of_eq ⟨rfl, rfl⟩) ?_
  split
  · exact .of_eq ⟨rfl, rfl⟩
  · next hown =>
    refine .of_good hc (by simp) fun law => tableTakes_law ?_ k hown
    exact law

theorem completeFrame_keepsTable (k : Capture) (n : Nat) (got : List Byte) (f b : Byte) (s : State) :
    KeepsTable s (completeFrame k n got f b s) := by
  unfold completeFrame
  split
  · next c hc =>
    refine .ite ?_ (.of_eq (by simp))
    split
    · next g hg =>
      rw [← readFrame_sender hg]
      exact .of_start (disposeFrame_keepsTable (s := setReceiver .hunt s) (cl_of_config hc) k _ g) ⟨rfl, rfl⟩
    · exact .of_eq (by simp)
  · exact .refl s

theorem receiveByte_keepsTable (b : Byte) (e : Bool) (s : State) : KeepsTable s (receiveByte b e s) := by
  unfold receiveByte
  split
  case h_1 => exact .ite (.of_eq (by simp)) (.refl s)
  case h_2 => exact .ite (.of_eq (by simp)) (.ite (.refl s) (.of_eq (by simp)))
  case h_3 => exact .ite (.of_eq (by simp)) (.of_eq (by simp))
  case h_4 => exact .ite (.of_eq (by simp)) (.ite (.of_eq (by simp)) (.of_eq (by simp)))
  case h_5 =>
    refine .ite (.of_eq (by simp)) ?_
    split
    · exact .of_eq (by simp)
    · exact completeFrame_keepsTable _ _ _ _ _ s

theorem linkByteArrives_keepsTable (b : Byte) (e : Bool) (s : State) : KeepsTable s (linkByteArrives b e s) :=
  .ite (receiveByte_keepsTable b e s) (.refl s)

theorem lastCheckByte_keepsTable (b : Byte) (s : State) : KeepsTable s (lastCheckByte b s) := by
  unfold lastCheckByte
  split
  · exact completeFrame_keepsTable _ _ _ _ _ s
  · exact .refl s

/-! ### Aging has it -/

theorem entryTurnsQuiet_keepsTable (n : Nat) (s : State) : KeepsTable s (entryTurnsQuiet n s) := by
  unfold entryTurnsQuiet
  split
  · refine .ite (.of_law rfl (by simp +contextual) fun c law => ?_) (.refl s)
    exact law.map fun e => by split <;> exact ⟨rfl, rfl⟩
  · exact .refl s

theorem loseStation_keepsTable (n : Nat) (s : State) : KeepsTable s (loseStation n s) := by
  have hless : (loseStation n s).nt.entries.Sublist s.nt.entries := by
    rw [loseStation_entries]
    exact withoutStation_sublist n _
  exact .of_law (by simp) (fun h => List.sublist_nil.mp (h ▸ hless)) fun c law => law.sublist hless

theorem entryExpires_keepsTable (n : Nat) (s : State) : KeepsTable s (entryExpires n s) := by
  unfold entryExpires
  split
  · exact .ite (loseStation_keepsTable n s) (.refl s)
  · exact .refl s

theorem tick_keepsTable (s : State) : KeepsTable s (tick s) :=
  .of_law rfl (by simp +contextual [tick]) fun _ law => law.map fun _ => ⟨rfl, rfl⟩

theorem idle_keepsTable (s : State) : KeepsTable s (idle s) :=
  .ite (.ite (tick_keepsTable s) (.of_eq ⟨rfl, rfl⟩)) (.refl s)

/-! ### Loads and resets have it -/

/-- A load ends while none is in force, so with an empty table (R41, R179). -/
theorem completeLoad_keepsTable (o : LoadObservation) (s : State) : KeepsTable s (completeLoad o s) := by
  cases hcl : s.cl with
  | loading =>
    refine ⟨fun hs => ?_⟩
    have hempty := hs.empty (by simp [State.config, hcl])
    exact tableObeys_of_empty (by simpa using hempty)
  | good c | bad i =>
    simp only [completeLoad, hcl]
    exact .refl s

theorem resetBlocks_keepsTable (f m : Word16) (n : Counters) (s : State) : KeepsTable s (resetBlocks f m n s) :=
  ⟨fun _ => tableObeys_of_empty rfl⟩

theorem responseDone_keepsTable (s : State) : KeepsTable s (responseDone s) := by
  unfold responseDone
  split
  case h_1 => exact resetBlocks_keepsTable _ _ _ s
  case h_2 => exact .of_eq ⟨rfl, rfl⟩
  case h_3 => exact .refl s

/-! ### The other events of the link leave the table alone -/

theorem idleGap_keepsTable (s : State) : KeepsTable s (idleGap s) := .ite (.of_eq (by simp)) (.refl s)

theorem deferralRunsOut_keepsTable (s : State) : KeepsTable s (deferralRunsOut s) := .ite (.of_eq ⟨rfl, rfl⟩) (.refl s)

theorem frameMarkPasses_keepsTable (s : State) : KeepsTable s (frameMarkPasses s) := by
  unfold frameMarkPasses
  split
  · exact .ite (.of_eq (by simp)) (.refl s)
  · exact .ite (.of_eq (by simp)) (.refl s)

theorem collisionFound_keepsTable (s : State) : KeepsTable s (collisionFound s) := by
  unfold collisionFound
  split
  · exact .of_eq (by simp)
  · exact .refl s

theorem attemptDone_keepsTable (s : State) : KeepsTable s (attemptDone s) := by
  unfold attemptDone
  split
  · exact .ite (.of_eq (by simp)) (.refl s)
  · exact .refl s

theorem beaconTimerOut_keepsTable (s : State) : KeepsTable s (beaconTimerOut s) := by
  unfold beaconTimerOut
  split
  · exact .ite (.of_eq (by simp)) (.refl s)
  · exact .refl s

theorem silenceTimerOut_keepsTable (s : State) : KeepsTable s (silenceTimerOut s) := .ite (.of_eq (by simp)) (.refl s)

/-! ### The events of the clock leave the entries alone -/

theorem clockSteps_keepsTable (s : State) : KeepsTable s (clockSteps s) := .ite (.of_eq (by simp)) (.refl s)

theorem clockWraps_keepsTable (s : State) : KeepsTable s (clockWraps s) := .ite (.of_eq (by simp)) (.refl s)

/-- A completion changes the last reference, and no entry (R39, R102). -/
@[simp] theorem doCompletion_entries (n : Snapshot) (s : State) : (doCompletion n s).nt.entries = s.nt.entries := by
  unfold doCompletion
  dsimp only
  repeat' split
  all_goals simp [applyResults]

theorem computationCompletes_keepsTable (s : State) : KeepsTable s (computationCompletes s) := by
  unfold computationCompletes
  split
  · exact .ite (.of_eq (by simp)) (.refl s)
  · exact .refl s

theorem markComesDue_keepsTable (m : Num8) (s : State) : KeepsTable s (markComesDue m s) := by
  unfold markComesDue
  split
  · exact .ite (.ite (.of_eq (by simp)) (.of_eq (by simp))) (.refl s)
  · exact .refl s

theorem gatePointComes_keepsTable (d : Direction) (s : State) : KeepsTable s (gatePointComes d s) := by
  unfold gatePointComes
  split
  · exact .ite (.of_eq (by simp)) (.refl s)
  · exact .refl s

theorem windowOpens_keepsTable (s : State) : KeepsTable s (windowOpens s) := by
  unfold windowOpens
  split
  · exact .ite (.of_eq (by simp)) (.refl s)
  · exact .refl s

theorem extensionRunsOut_keepsTable (s : State) : KeepsTable s (extensionRunsOut s) := by
  unfold extensionRunsOut
  split
  · exact .ite (.of_eq (by simp)) (.refl s)
  · exact .refl s

theorem requestRunsOut_keepsTable (k : Num8) (s : State) : KeepsTable s (requestRunsOut k s) := by
  unfold requestRunsOut
  split
  · exact .ite (.of_eq (by simp)) (.refl s)
  · exact .refl s

/-! ### The events of the detector lines leave the table alone -/

theorem filterLevel_keepsTable (c : Configuration) (p : Plan) (k : Num8) (s : State) :
    KeepsTable s (filterLevel c p k s) :=
  .ite (.of_eq (by simp)) (.ite (.ite (.of_eq (by simp)) (.of_eq (by simp))) (.of_eq (by simp)))

theorem detectorChanges_keepsTable (k : Num8) (v : Bool) (s : State) : KeepsTable s (detectorChanges k v s) := by
  unfold detectorChanges
  split
  · exact .ite (.of_start (filterLevel_keepsTable _ _ k _) (by simp)) (.of_eq (by simp))
  · exact .of_eq (by simp)

theorem lineRises_keepsTable (k : Num8) (s : State) : KeepsTable s (lineRises k s) := by
  unfold lineRises
  split
  · exact .ite (.of_eq (by simp)) (.refl s)
  · exact .refl s

theorem lineFalls_keepsTable (k : Num8) (s : State) : KeepsTable s (lineFalls k s) := by
  unfold lineFalls
  split
  · exact .ite (.of_eq (by simp)) (.refl s)
  · exact .refl s

theorem lineSticksOn_keepsTable (k : Num8) (s : State) : KeepsTable s (lineSticksOn k s) := by
  unfold lineSticksOn
  split
  · exact .ite (.of_eq (by simp)) (.refl s)
  · exact .refl s

theorem directionFills_keepsTable (d : Direction) (s : State) : KeepsTable s (directionFills d s) := by
  unfold directionFills
  split
  · exact .of_eq (by simp)
  · exact .refl s

theorem directionClears_keepsTable (d : Direction) (s : State) : KeepsTable s (directionClears d s) := by
  unfold directionClears
  split
  · exact .ite (.of_eq (by simp)) (.refl s)
  · exact .refl s

/-! ### The events of the cabinet leave the entries alone -/

/-- Leaving charge clears the last reference, and no entry (R39, R87). -/
@[simp] theorem leaveCharge_entries (m : Mode) (s : State) : (leaveCharge m s).nt.entries = s.nt.entries := by
  unfold leaveCharge
  split <;> simp

theorem changeInput_keepsTable (f : FilteredInput → FilteredInput) (n : CabinetInput) (s : State) :
    KeepsTable s (changeInput f n s) := by
  cases n with
  | sync | preempt => exact .of_eq ⟨rfl, rfl⟩

theorem takeCharge_keepsTable (s : State) : KeepsTable s (takeCharge s) := .of_eq (by simp)

theorem syncRises_keepsTable (s : State) : KeepsTable s (syncRises s) := by
  have hin := changeInput_keepsTable (inputEdge true) .sync s
  exact .ite (.ite (hin.trans (takeCharge_keepsTable _)) hin) (.refl s)

theorem syncFalls_keepsTable (s : State) : KeepsTable s (syncFalls s) :=
  .ite (changeInput_keepsTable _ _ s) (.refl s)

theorem preemptUnit_keepsTable (s : State) : KeepsTable s (preemptUnit s) := by
  unfold preemptUnit
  split
  case h_1 | h_2 => exact .of_eq (by simp)
  case h_3 | h_4 => exact .refl s

theorem preemptRises_keepsTable (s : State) : KeepsTable s (preemptRises s) :=
  .ite ((changeInput_keepsTable _ _ s).trans (preemptUnit_keepsTable _)) (.refl s)

theorem preemptFalls_keepsTable (s : State) : KeepsTable s (preemptFalls s) := by
  have hin := changeInput_keepsTable (inputEdge false) .preempt s
  exact .ite (.ite (hin.trans (takeCharge_keepsTable _)) hin) (.refl s)

theorem pickupRunsOut_keepsTable (s : State) : KeepsTable s (pickupRunsOut s) := by
  unfold pickupRunsOut
  split
  · exact .ite (.of_eq (by simp)) (.refl s)
  · exact .refl s

/-! ### The cabinet port leaves the entries alone -/

theorem answerOk_keepsTable (k : HostKind) (d : List Byte) (s : State) : KeepsTable s (answerOk k d s) :=
  .of_eq ⟨rfl, rfl⟩

theorem answerRefused_keepsTable (e : Byte) (r : RefusalReason) (s : State) : KeepsTable s (answerRefused e r s) :=
  .of_eq ⟨rfl, rfl⟩

theorem setPort_keepsTable (r : PortReceiver) (s : State) : KeepsTable s (setPort r s) := .of_eq ⟨rfl, rfl⟩

@[simp] theorem holdUnit_entries (s : State) : (holdUnit s).nt.entries = s.nt.entries := by
  unfold holdUnit
  split <;> simp

theorem actLog_keepsTable (s : State) : KeepsTable s (actLog s) := by
  unfold actLog
  split <;> exact .of_eq ⟨rfl, rfl⟩

theorem actClear_keepsTable (w : Word16) (s : State) : KeepsTable s (actClear w s) :=
  .ite (answerRefused_keepsTable _ _ s) (.of_eq ⟨rfl, rfl⟩)

theorem actMask_keepsTable (w : Word16) (s : State) : KeepsTable s (actMask w s) :=
  .ite (answerRefused_keepsTable _ _ s) (.of_eq ⟨rfl, rfl⟩)

theorem actPlan_keepsTable (b : Byte) (s : State) : KeepsTable s (actPlan b s) := by
  unfold actPlan
  split
  · exact answerRefused_keepsTable _ _ s
  · split
    · exact .of_start (answerOk_keepsTable .plan [] _) (by simp)
    · exact answerRefused_keepsTable _ _ s

theorem actManual_keepsTable (k v : Byte) (s : State) : KeepsTable s (actManual k v s) := by
  unfold actManual
  split <;> exact .of_eq ⟨rfl, rfl⟩

theorem actRelease_keepsTable (k : Byte) (s : State) : KeepsTable s (actRelease k s) := by
  unfold actRelease
  split <;> exact .of_eq ⟨rfl, rfl⟩

theorem actHold_keepsTable (s : State) : KeepsTable s (actHold s) :=
  .of_start (answerOk_keepsTable .hold [] _) (by simp)

theorem actResume_keepsTable (s : State) : KeepsTable s (actResume s) := by
  unfold actResume
  split
  · exact .ite (.of_start (answerOk_keepsTable .resume [] _) (by simp)) (answerRefused_keepsTable _ _ s)
  · exact answerRefused_keepsTable _ _ s

theorem actKind_keepsTable (k : HostKind) (args : List Byte) (s : State) : KeepsTable s (actKind k args s) := by
  cases k with
  | status | table | counters | flags | restart => exact .of_eq ⟨rfl, rfl⟩
  | log => exact actLog_keepsTable s
  | clear => exact actClear_keepsTable _ s
  | mask => exact actMask_keepsTable _ s
  | plan => exact actPlan_keepsTable _ s
  | manual => exact actManual_keepsTable _ _ s
  | release => exact actRelease_keepsTable _ s
  | hold => exact actHold_keepsTable s
  | resume => exact actResume_keepsTable s

theorem takeMessage_keepsTable {f : State → State} (hf : ∀ s, KeepsTable s (f s)) (s : State) :
    KeepsTable s (takeMessage f s) := by
  unfold takeMessage
  split
  · exact (setPort_keepsTable .wait s).trans (hf _)
  · exact .refl s

theorem endMalformed_keepsTable (o : Bool) (e : Byte) (s : State) : KeepsTable s (endMalformed o e s) := by
  have hwait := setPort_keepsTable .wait s
  exact .ite hwait (hwait.trans (takeMessage_keepsTable (answerRefused_keepsTable e _) _))

theorem endMessage_keepsTable (o : Bool) (n : Nat) (got : List Byte) (b : Byte) (s : State) :
    KeepsTable s (endMessage o n got b s) := by
  have hwait := setPort_keepsTable .wait s
  refine .ite hwait (.ite (endMalformed_keepsTable _ _ s) ?_)
  split
  · exact .ite (hwait.trans (takeMessage_keepsTable (actKind_keepsTable _ _) _)) (endMalformed_keepsTable _ _ s)
  · exact endMalformed_keepsTable _ _ s

theorem openMessage_keepsTable (s : State) : KeepsTable s (openMessage s) := by
  unfold openMessage
  split <;> exact .of_eq ⟨rfl, rfl⟩

theorem portByte_keepsTable (b : Byte) (e : Bool) (s : State) : KeepsTable s (portByte b e s) := by
  unfold portByte
  split
  case h_1 => exact .ite (openMessage_keepsTable s) (.refl s)
  case h_2 => exact .ite (setPort_keepsTable _ s) (endMalformed_keepsTable _ _ s)
  case h_3 =>
    exact .ite (endMalformed_keepsTable _ _ s) (.ite (setPort_keepsTable _ s) (setPort_keepsTable _ s))
  case h_4 => exact .ite (endMalformed_keepsTable _ _ s) (endMessage_keepsTable _ _ _ b s)

theorem portTimeout_keepsTable (s : State) : KeepsTable s (portTimeout s) := by
  unfold portTimeout
  split
  case h_1 => exact .refl s
  case h_2 | h_3 | h_4 => exact endMalformed_keepsTable _ _ s

theorem startByteOverruns_keepsTable (s : State) : KeepsTable s (startByteOverruns s) :=
  .ite (openMessage_keepsTable s) (.refl s)

/-! ### Every command has it -/

/-- On a unit a meaning is its operation or nothing. -/
theorem onUnit_next {f : State → State} {s t : State} (h : onUnit f s = .next t) : t = f s ∨ t = s := by
  cases hp : s.powered with
  | true =>
    rw [onUnit_powered hp] at h
    cases h
    exact .inl rfl
  | false =>
    rw [onUnit_unpowered hp] at h
    cases h
    exact .inr rfl

theorem onUnit_keepsTable {f : State → State} (hf : ∀ s, KeepsTable s (f s)) {s t : State}
    (h : onUnit f s = .next t) : KeepsTable s t := by
  rcases onUnit_next h with rfl | rfl
  · exact hf s
  · exact .refl _

/-- A meaning that follows an input also while the unit does not work keeps what both its operations keep. -/
theorem either_keepsTable {b : Bool} {s u v t : State} (hu : KeepsTable s u) (hv : KeepsTable s v)
    (h : (if b then (.next u : Host.Outcome State Fault Refusal) else .next v) = .next t) : KeepsTable s t := by
  split at h
  · cases h
    exact hu
  · cases h
    exact hv

theorem exec_keepsTable {c : Instr} {s t : State} (h : exec c s = .next t) : KeepsTable s t := by
  cases c with
  | powerUp =>
    cases h
    exact ⟨fun _ => tableObeys_of_empty rfl⟩
  | configLoadComplete o => exact onUnit_keepsTable (completeLoad_keepsTable o) h
  | lineBusy =>
    exact either_keepsTable (u := startBit s) (v := { s with lc := { s.lc with line := .busy } })
      (.of_eq ⟨rfl, rfl⟩) (.of_eq ⟨rfl, rfl⟩) h
  | lineIdle =>
    exact either_keepsTable (v := { s with lc := { s.lc with line := .idle } })
      (idleGap_keepsTable s) (.of_eq ⟨rfl, rfl⟩) h
  | deferralEnd => exact onUnit_keepsTable deferralRunsOut_keepsTable h
  | frameMark => exact onUnit_keepsTable frameMarkPasses_keepsTable h
  | frameReceived b => exact onUnit_keepsTable (lastCheckByte_keepsTable b) h
  | collision => exact onUnit_keepsTable collisionFound_keepsTable h
  | attemptSuccess => exact onUnit_keepsTable attemptDone_keepsTable h
  | beaconTimerExpiry => exact onUnit_keepsTable beaconTimerOut_keepsTable h
  | linkSilent => exact onUnit_keepsTable silenceTimerOut_keepsTable h
  | entryQuiet n => exact onUnit_keepsTable (entryTurnsQuiet_keepsTable n) h
  | expiry n => exact onUnit_keepsTable (entryExpires_keepsTable n) h
  | clockStep => exact onUnit_keepsTable clockSteps_keepsTable h
  | wrap => exact onUnit_keepsTable clockWraps_keepsTable h
  | completion => exact onUnit_keepsTable computationCompletes_keepsTable h
  | markDue m => exact onUnit_keepsTable (markComesDue_keepsTable m) h
  | gatePointReached d => exact onUnit_keepsTable (gatePointComes_keepsTable d) h
  | windowOpening => exact onUnit_keepsTable windowOpens_keepsTable h
  | extensionLimit => exact onUnit_keepsTable extensionRunsOut_keepsTable h
  | requestExpiry k => exact onUnit_keepsTable (requestRunsOut_keepsTable k) h
  | detectorInputChange k v =>
    exact either_keepsTable (detectorChanges_keepsTable k v s) (v := setRaw k v s) (.of_eq ⟨rfl, rfl⟩) h
  | filteredRisingEdge k => exact onUnit_keepsTable (lineRises_keepsTable k) h
  | filteredFallingEdge k => exact onUnit_keepsTable (lineFalls_keepsTable k) h
  | stuckOn k => exact onUnit_keepsTable (lineSticksOn_keepsTable k) h
  | fullEntry d => exact onUnit_keepsTable (directionFills_keepsTable d) h
  | fullRelease d => exact onUnit_keepsTable (directionClears_keepsTable d) h
  | cabinetInputChange n v =>
    exact either_keepsTable (changeInput_keepsTable (inputLevel v) n s) (changeInput_keepsTable (inputRaw v) n s) h
  | syncRisingEdge => exact onUnit_keepsTable syncRises_keepsTable h
  | syncFallingEdge => exact onUnit_keepsTable syncFalls_keepsTable h
  | preemptRisingEdge => exact onUnit_keepsTable preemptRises_keepsTable h
  | preemptFallingEdge => exact onUnit_keepsTable preemptFalls_keepsTable h
  | pickupTimeout => exact onUnit_keepsTable pickupRunsOut_keepsTable h
  | malformedMessage e => exact onUnit_keepsTable (takeMessage_keepsTable (answerRefused_keepsTable e .badMessage)) h
  | messageTimeout => exact onUnit_keepsTable portTimeout_keepsTable h
  | portOverrun => exact onUnit_keepsTable startByteOverruns_keepsTable h
  | responseSent => exact onUnit_keepsTable responseDone_keepsTable h
  | status => exact onUnit_keepsTable (takeMessage_keepsTable (actKind_keepsTable .status [])) h
  | table => exact onUnit_keepsTable (takeMessage_keepsTable (actKind_keepsTable .table [])) h
  | counters => exact onUnit_keepsTable (takeMessage_keepsTable (actKind_keepsTable .counters [])) h
  | log => exact onUnit_keepsTable (takeMessage_keepsTable actLog_keepsTable) h
  | flags => exact onUnit_keepsTable (takeMessage_keepsTable (actKind_keepsTable .flags [])) h
  | clear w => exact onUnit_keepsTable (takeMessage_keepsTable (actClear_keepsTable w)) h
  | mask w => exact onUnit_keepsTable (takeMessage_keepsTable (actMask_keepsTable w)) h
  | plan n => exact onUnit_keepsTable (takeMessage_keepsTable (actPlan_keepsTable n)) h
  | manual k v => exact onUnit_keepsTable (takeMessage_keepsTable (actManual_keepsTable k v)) h
  | release k => exact onUnit_keepsTable (takeMessage_keepsTable (actRelease_keepsTable k)) h
  | hold => exact onUnit_keepsTable (takeMessage_keepsTable actHold_keepsTable) h
  | resume => exact onUnit_keepsTable (takeMessage_keepsTable actResume_keepsTable) h
  | restart => exact onUnit_keepsTable (takeMessage_keepsTable (actKind_keepsTable .restart [])) h
  | linkByteReceived b e => exact onUnit_keepsTable (linkByteArrives_keepsTable b e) h
  | portByteReceived b e => exact onUnit_keepsTable (portByte_keepsTable b e) h
  | passThroughChange k v | resetAsserted | supplyOutOfRange =>
    cases h
    exact .of_eq ⟨rfl, rfl⟩

/-! ### The statement -/

/-- Settles O23: every command and the passing of time have `KeepsTable`. -/
theorem tableLawIsKept : Obligations.TableLawIsKept := by
  intro s t hs h
  unfold step at h
  split at h
  · next c rest _ =>
    have hrest : KeepsTable s { s with pending := rest } := .of_eq ⟨rfl, rfl⟩
    exact (exec_keepsTable h).tableObeys (hrest.tableObeys hs)
  · cases h
    exact (idle_keepsTable s).tableObeys hs

end Sys2Proof.Machine

/-! ## The demand of a junction (R104 to R106)

Webster's rule falls as its divisor grows, so the ends of the divisor give its range; a move of a quarter stays between
the values it moves from and to; and a clamp to multiples of 20 keeps a multiple of 20. -/

namespace Sys2Proof.Machine

/-! ### Clamping (R1) -/

theorem clampNat_of_lt {x lo hi : Nat} (h : x < lo) : clampNat x lo hi = lo := if_pos h

theorem clampNat_of_gt {x lo hi : Nat} (hlimits : lo ≤ hi) (h : hi < x) : clampNat x lo hi = hi := by
  rw [clampNat, if_neg (by omega), if_pos h]

theorem clampNat_of_mem {x lo hi : Nat} (hlo : lo ≤ x) (hhi : x ≤ hi) : clampNat x lo hi = x := by
  rw [clampNat, if_neg (by omega), if_neg (by omega)]

/-- A clamped value is the lower limit, the upper limit, or the value itself within the limits. -/
theorem clampNat_cases (x : Nat) {lo hi : Nat} (hlimits : lo ≤ hi) :
    clampNat x lo hi = lo ∨ clampNat x lo hi = hi ∨ (clampNat x lo hi = x ∧ lo ≤ x ∧ x ≤ hi) := by
  rcases lt_or_ge x lo with hlow | hlow
  · exact .inl (clampNat_of_lt hlow)
  rcases lt_or_ge hi x with hhigh | hhigh
  · exact .inr (.inl (clampNat_of_gt hlimits hhigh))
  · exact .inr (.inr ⟨clampNat_of_mem hlow hhigh, hlow, hhigh⟩)

theorem clampNat_mem (x : Nat) {lo hi : Nat} (hlimits : lo ≤ hi) :
    lo ≤ clampNat x lo hi ∧ clampNat x lo hi ≤ hi := by
  rcases clampNat_cases x hlimits with h | h | ⟨h, hlow, hhigh⟩ <;> rw [h]
  · exact ⟨le_rfl, hlimits⟩
  · exact ⟨hlimits, le_rfl⟩
  · exact ⟨hlow, hhigh⟩

/-! ### The local demand (R105) -/

theorem localDemand_of_full (p : Plan) {y : Nat} (h : 900 ≤ y) : localDemand p y = p.cMax := if_pos h

theorem localDemand_of_lower (p : Plan) {y : Nat} (h : y < 900) :
    localDemand p y = (3 * p.lostTime + 100) * 1000 / (2 * (1000 - y)) := if_neg (by omega)

/-- Webster's rule is least at the least lost time and ratio 0, and greatest at the greatest lost time and 899. -/
theorem localDemand_range {p : Plan} (hp : p.Checked) (y : Nat) :
    80 ≤ localDemand p y ∧ localDemand p y ≤ 6435 := by
  rcases lt_or_ge y 900 with hy | hy
  · obtain ⟨hleast, hgreatest⟩ := hp.lostTime
    rw [localDemand_of_lower p hy]
    constructor
    · calc 80 = (3 * 20 + 100) * 1000 / (2 * 1000) := rfl
        _ ≤ _ := Nat.div_le_div (by omega) (by omega) (by omega)
    · calc _ ≤ (3 * 400 + 100) * 1000 / (2 * 101) := Nat.div_le_div (by omega) (by omega) (by omega)
        _ = 6435 := rfl
  · obtain ⟨hleast, hgreatest, -⟩ := hp.cMax
    rw [localDemand_of_full p hy]
    omega

/-! ### The smoothed demand (R105) -/

theorem smoothDemand_of_le {old d : Nat} (h : old ≤ d) : smoothDemand old d = old + (d - old) / 4 := by
  have hquarter : Int.tdiv ((d : Int) - old) 4 = ((d : Int) - old) / 4 := Int.tdiv_eq_ediv_of_nonneg (by omega)
  rw [smoothDemand, hquarter]
  omega

/-- The division rounds toward zero, so a fall is the quarter of the difference rounded down. -/
theorem smoothDemand_of_ge {old d : Nat} (h : d ≤ old) : smoothDemand old d = old - (old - d) / 4 := by
  have hquarter : Int.tdiv ((d : Int) - old) 4 = -(((old : Int) - d) / 4) := by
    rw [← neg_sub (old : Int) d, Int.neg_tdiv, Int.tdiv_eq_ediv_of_nonneg (by omega)]
  rw [smoothDemand, hquarter]
  omega

theorem smoothDemand_between (old d : Nat) : min old d ≤ smoothDemand old d ∧ smoothDemand old d ≤ max old d := by
  rcases le_total old d with h | h
  · rw [smoothDemand_of_le h]
    omega
  · rw [smoothDemand_of_ge h]
    omega

/-! ### The quantised demand (R106) -/

theorem cMin_le_cMax_of_checked {p : Plan} (hp : p.Checked) : p.cMin ≤ p.cMax := by
  obtain ⟨hmin, hmax⟩ := hp.limits
  exact hmin.trans hmax

/-- Both limits of a checked plan are multiples of 20, and so is the value that is clamped. -/
theorem quantise_mod {p : Plan} (hp : p.Checked) (df : Nat) : quantise p df % 20 = 0 := by
  obtain ⟨-, -, hmin⟩ := hp.cMin
  obtain ⟨-, -, hmax⟩ := hp.cMax
  unfold quantise
  rcases clampNat_cases ((df + 19) / 20 * 20) (cMin_le_cMax_of_checked hp) with h | h | ⟨h, -, -⟩ <;> rw [h]
  · exact hmin
  · exact hmax
  · exact Nat.mul_mod_left _ _

theorem quantise_range {p : Plan} (hp : p.Checked) (df : Nat) : p.cMin ≤ quantise p df ∧ quantise p df ≤ p.cMax :=
  clampNat_mem _ (cMin_le_cMax_of_checked hp)

/-- Cmin is a multiple of 20, so rounding up from below reaches at most Cmin itself. -/
theorem quantise_of_lt {p : Plan} (hp : p.Checked) {df : Nat} (h : df < p.cMin) : quantise p df = p.cMin := by
  obtain ⟨-, -, hmin⟩ := hp.cMin
  have hround : (df + 19) / 20 * 20 ≤ p.cMin := by omega
  rcases hround.lt_or_eq with hlow | heq
  · exact clampNat_of_lt hlow
  · rw [quantise, heq]
    exact clampNat_of_mem le_rfl (cMin_le_cMax_of_checked hp)

theorem quantise_of_gt {p : Plan} (hp : p.Checked) {df : Nat} (h : p.cMax < df) : quantise p df = p.cMax :=
  clampNat_of_gt (cMin_le_cMax_of_checked hp) (by omega)

/-- Cmax is a multiple of 20, so rounding up from within the limits stays within them. -/
theorem quantise_of_mem {p : Plan} (hp : p.Checked) {df : Nat} (hlow : p.cMin ≤ df) (hhigh : df ≤ p.cMax) :
    quantise p df = (df + 19) / 20 * 20 := by
  obtain ⟨-, -, hmax⟩ := hp.cMax
  exact clampNat_of_mem (by omega) (by omega)

/-- Settles O29: the ratio by its definition, and each demand by the cases of its rule. -/
theorem demandStaysInRange : Obligations.DemandStaysInRange := by
  intro p r cPrev hp
  refine ⟨fun y arterial hy harterial => ?_, fun y => localDemand_of_full p, fun y => localDemand_of_lower p,
    localDemand_range hp,
    fun old d => ⟨smoothDemand_of_le, smoothDemand_of_ge, smoothDemand_between old d⟩,
    fun df => ?_⟩
  · have hflow : y = fun n f => flowRatio n cPrev f := funext₂ hy
    rw [harterial, hflow, junctionRatio]
  · obtain ⟨hmin, hmax⟩ := quantise_range hp df
    refine ⟨quantise_mod hp df, hmin, hmax, quantise_of_lt hp, quantise_of_gt hp, fun hlow hhigh => ?_⟩
    rw [quantise_of_mem hp hlow hhigh]
    omega

end Sys2Proof.Machine

/-! ## The output lines (R159, R160, R162)

The mode and the manual level choose a line's source; on a working unit the line's level is that of its source. -/

namespace Sys2Proof.Machine

/-! ### The marks a line can name -/

theorem usesMark_iff {p : Plan} {j : Num8} : p.usesMark j = true ↔ p.base j ≠ 0 := by
  simp [Plan.usesMark]

theorem lineMarkUsed_iff {o : OutputSetting} {p : Plan} :
    lineMarkUsed o p = true ↔ ∃ j, o.mark = some j ∧ p.base j ≠ 0 := by
  cases hmark : o.mark with
  | none => simp [lineMarkUsed, hmark]
  | some j => simp [lineMarkUsed, hmark, usesMark_iff]

/-! ### The source by rank (R159) -/

theorem source_of_aside {s : State} (k : Num8) (h : s.mc.mode = .pass ∨ s.mc.mode = .pickup) :
    s.source k = .passThrough := by
  rcases h with h | h <;> rw [State.source, h, sourceOf]

theorem source_of_preempted {s : State} (k : Num8) (h : s.mc.mode = .preempted) : s.source k = .inactive := by
  rw [State.source, h, sourceOf]

theorem source_of_manual {s : State} {k : Num8} {m : ChargeMode} {v : Bool} (h : s.mc.mode = .inCharge m)
    (hv : (s.olu.get k).manual = some v) : s.source k = .manual := by
  simp [State.source, h, sourceOf, hv]

theorem source_of_no_manual {s : State} {k : Num8} {m : ChargeMode} (h : s.mc.mode = .inCharge m)
    (hv : (s.olu.get k).manual = none) : s.source k = .markDrive := by
  simp [State.source, h, sourceOf, hv]

/-! ### The level of each source -/

theorem outputLevel_of_passThrough {s : State} {k : Num8} (hpow : s.powered = true) (h : s.source k = .passThrough) :
    s.outputLevel k = (s.olu.get k).passThrough := by
  simp [State.outputLevel, hpow, h]

theorem outputLevel_of_inactive {s : State} {k : Num8} (h : s.source k = .inactive) : s.outputLevel k = false := by
  simp [State.outputLevel, h]

theorem outputLevel_of_manual {s : State} {k : Num8} {v : Bool} (hpow : s.powered = true) (h : s.source k = .manual)
    (hv : (s.olu.get k).manual = some v) : s.outputLevel k = v := by
  simp [State.outputLevel, hpow, h, hv]

theorem outputLevel_of_markDrive {s : State} {k : Num8} (hpow : s.powered = true) (h : s.source k = .markDrive) :
    s.outputLevel k = s.markDriveLevel k := by
  simp [State.outputLevel, hpow, h]

/-! ### The level under mark drive (R162) -/

theorem markDriveLevel_of_used {s : State} {c : Configuration} {p : Plan} {k : Num8} (h : s.setup = some (c, p))
    (hused : lineMarkUsed (c.outputs.get k) p = true) :
    s.markDriveLevel k = (match (c.outputs.get k).polarity with
      | .direct => (s.olu.get k).drive
      | .inverted => !(s.olu.get k).drive) := by
  cases hpolarity : (c.outputs.get k).polarity with
  | direct => simp [State.markDriveLevel, h, hused, hpolarity]
  | inverted => simp [State.markDriveLevel, h, hused, hpolarity]

theorem markDriveLevel_of_unused {s : State} {c : Configuration} {p : Plan} {k : Num8} (h : s.setup = some (c, p))
    (hunused : lineMarkUsed (c.outputs.get k) p = false) : s.markDriveLevel k = false := by
  simp only [State.markDriveLevel, h, hunused, Bool.false_and]

/-! ### The source and the level in each mode -/

theorem passThrough_law {s : State} (k : Num8) (hpow : s.powered = true) (h : s.mc.mode = .pass ∨ s.mc.mode = .pickup) :
    s.outputLevel k = (s.olu.get k).passThrough :=
  outputLevel_of_passThrough hpow (source_of_aside k h)

/-- Settles O54: the rank gives the source, mode by mode, and the source its level. -/
theorem outputLinesTakeTheirSources : Obligations.OutputLinesTakeTheirSources := by
  refine ⟨⟨fun s k v => rfl, fun s k => passThrough_law k⟩, fun s k hpow => ⟨fun haside => ?_, fun hpre => ?_, ?_⟩⟩
  · exact ⟨source_of_aside k haside, passThrough_law k hpow haside⟩
  · have hsource := source_of_preempted k hpre
    exact ⟨hsource, outputLevel_of_inactive hsource⟩
  · intro m hcharge
    refine ⟨fun v hv => ?_, fun hv => ?_⟩
    · have hsource := source_of_manual hcharge hv
      exact ⟨hsource, outputLevel_of_manual hpow hsource hv⟩
    · have hsource := source_of_no_manual hcharge hv
      refine ⟨hsource, fun c p hsetup => ?_⟩
      rw [outputLevel_of_markDrive hpow hsource]
      refine ⟨fun j hmark hbase => ?_, fun hunused => ?_⟩
      · exact markDriveLevel_of_used hsetup (lineMarkUsed_iff.mpr ⟨j, hmark, hbase⟩)
      · have hnone : ¬ ∃ j, (c.outputs.get k).mark = some j ∧ p.base j ≠ 0 :=
          fun ⟨j, hmark, hbase⟩ => hbase (hunused j hmark)
        exact markDriveLevel_of_unused hsetup (Bool.eq_false_iff.mpr (mt lineMarkUsed_iff.mp hnone))

end Sys2Proof.Machine

/-! ## What every command does, as one function (log entries 4 and 5)

Every command answers a next state: `worked` gives it on a working unit and `ignored` on one whose reset input is held or
whose supply is out of range. What a step does is then read off `stepped`, so that an invariant is proved of these functions
and not of `exec` arm by arm. -/

namespace Sys2Proof.Machine

/-- The state after a command on a working unit. -/
def worked (c : Instr) (s : State) : State :=
  match c with
  | .powerUp => resetBlocks 0 0 .zero { s with resetHeld := false, supplyOut := false }
  | .configLoadComplete o => completeLoad o s
  | .lineBusy => startBit s
  | .lineIdle => idleGap s
  | .deferralEnd => deferralRunsOut s
  | .frameMark => frameMarkPasses s
  | .frameReceived b => lastCheckByte b s
  | .collision => collisionFound s
  | .attemptSuccess => attemptDone s
  | .beaconTimerExpiry => beaconTimerOut s
  | .linkSilent => silenceTimerOut s
  | .entryQuiet n => entryTurnsQuiet n s
  | .expiry n => entryExpires n s
  | .clockStep => clockSteps s
  | .wrap => clockWraps s
  | .completion => computationCompletes s
  | .markDue m => markComesDue m s
  | .gatePointReached d => gatePointComes d s
  | .windowOpening => windowOpens s
  | .extensionLimit => extensionRunsOut s
  | .requestExpiry k => requestRunsOut k s
  | .detectorInputChange k v => detectorChanges k v s
  | .filteredRisingEdge k => lineRises k s
  | .filteredFallingEdge k => lineFalls k s
  | .stuckOn k => lineSticksOn k s
  | .fullEntry d => directionFills d s
  | .fullRelease d => directionClears d s
  | .cabinetInputChange n v => changeInput (inputLevel v) n s
  | .syncRisingEdge => syncRises s
  | .syncFallingEdge => syncFalls s
  | .preemptRisingEdge => preemptRises s
  | .preemptFallingEdge => preemptFalls s
  | .pickupTimeout => pickupRunsOut s
  | .passThroughChange k v => setPassThrough k v s
  | .malformedMessage b => takeMessage (answerRefused b .badMessage) s
  | .messageTimeout => portTimeout s
  | .portOverrun => startByteOverruns s
  | .responseSent => responseDone s
  | .status => takeMessage actStatus s
  | .table => takeMessage actTable s
  | .counters => takeMessage actCounters s
  | .log => takeMessage actLog s
  | .flags => takeMessage actFlags s
  | .clear w => takeMessage (actClear w) s
  | .mask w => takeMessage (actMask w) s
  | .plan n => takeMessage (actPlan n) s
  | .manual k v => takeMessage (actManual k v) s
  | .release k => takeMessage (actRelease k) s
  | .hold => takeMessage actHold s
  | .resume => takeMessage actResume s
  | .restart => takeMessage actRestartTaken s
  | .linkByteReceived b e => linkByteArrives b e s
  | .portByteReceived b e => portByte b e s
  | .resetAsserted => { s with resetHeld := true }
  | .supplyOutOfRange => { s with supplyOut := true }

/-- The state after a command on a unit whose reset input is held or whose supply is out of range. -/
def ignored (c : Instr) (s : State) : State :=
  match c with
  | .powerUp => resetBlocks 0 0 .zero { s with resetHeld := false, supplyOut := false }
  | .lineBusy => { s with lc := { s.lc with line := .busy } }
  | .lineIdle => { s with lc := { s.lc with line := .idle } }
  | .detectorInputChange k v => setRaw k v s
  | .cabinetInputChange n v => changeInput (inputRaw v) n s
  | .passThroughChange k v => setPassThrough k v s
  | .resetAsserted => { s with resetHeld := true }
  | .supplyOutOfRange => { s with supplyOut := true }
  | _ => s

/-- A choice between two next states is the next state chosen. -/
theorem next_ite {b : Bool} (u v : State) :
    (if b then (.next u : Host.Outcome State Fault Refusal) else .next v) = .next (if b then u else v) := by
  cases b <;> rfl

/-- Every command completes: with `worked` on a working unit and with `ignored` on another. -/
theorem exec_eq (c : Instr) (s : State) : exec c s = .next (if s.powered then worked c s else ignored c s) := by
  cases c with
  | powerUp | passThroughChange | resetAsserted | supplyOutOfRange => exact congrArg Host.Outcome.next (ite_self _).symm
  | lineBusy | lineIdle | detectorInputChange | cabinetInputChange => exact next_ite _ _
  | _ => rfl

theorem exec_worked {s : State} (c : Instr) (h : s.powered = true) : exec c s = .next (worked c s) := by
  rw [exec_eq, if_pos h]

theorem exec_ignored {s : State} (c : Instr) (h : s.powered = false) : exec c s = .next (ignored c s) := by
  simp [exec_eq, h]

/-- A step is the command at the front of the queue, or the passing of time. -/
theorem step_cases {s t : State} (h : step s = .next t) :
    (∃ c rest, s.pending = c :: rest ∧ exec c { s with pending := rest } = .next t)
      ∨ s.pending = [] ∧ t = idle s := by
  unfold step at h
  split at h
  · next c rest hq => exact .inl ⟨c, rest, hq, h⟩
  · next hq => cases h; exact .inr ⟨hq, rfl⟩

/-- The principle of an invariant: what does not depend on the queue, and what every command and the passing of time keep,
every step keeps. -/
theorem step_keeps {q : State → Prop} (hqueue : ∀ s l, q s → q { s with pending := l })
    (hworked : ∀ c s, s.powered = true → q s → q (worked c s))
    (hignored : ∀ c s, s.powered = false → q s → q (ignored c s))
    (hidle : ∀ s, q s → q (idle s)) {s t : State} (hs : q s) (h : step s = .next t) : q t := by
  obtain ⟨c, rest, -, h⟩ | ⟨-, rfl⟩ := step_cases h
  · have hrest := hqueue s rest hs
    cases hpow : ({ s with pending := rest } : State).powered with
    | true => rw [exec_worked c hpow] at h; cases h; exact hworked c _ hpow hrest
    | false => rw [exec_ignored c hpow] at h; cases h; exact hignored c _ hpow hrest
  · exact hidle s hs

/-- Settles O1, by the queue's first command. -/
theorem stepRunsFrontCommand : Obligations.StepRunsFrontCommand := by
  intro c rest s h
  simp only [step, h]

/-- The same for a relation that a step keeps between its two states. -/
theorem step_relates {r : State → State → Prop} (hqueue : ∀ s l t, r { s with pending := l } t → r s t)
    (hworked : ∀ c s, s.powered = true → r s (worked c s)) (hignored : ∀ c s, s.powered = false → r s (ignored c s))
    (hidle : ∀ s, r s (idle s)) {s t : State} (h : step s = .next t) : r s t := by
  obtain ⟨c, rest, -, h⟩ | ⟨-, rfl⟩ := step_cases h
  · refine hqueue s rest t ?_
    cases hpow : ({ s with pending := rest } : State).powered with
    | true => rw [exec_worked c hpow] at h; cases h; exact hworked c _ hpow
    | false => rw [exec_ignored c hpow] at h; cases h; exact hignored c _ hpow
  · exact hidle s

end Sys2Proof.Machine

/-! ## What every operation keeps: the queue, the transmitter's law and the sticky flags (R14 to R19, R173)

Of the operations of the unit none touches the commands that wait, each keeps the transmitter's law, and each only sets
sticky flags, but for CLEAR, which clears those of its word. `Orderly w` says the three together, with `w` the word a
command clears. -/

namespace Sys2Proof.Machine

/-! ### The transmitter's law, operation by operation -/

namespace LinkLaw

/-- The law reads the line, the slots, the attempt, the deferral and the attempt count, and keeps where slots are filled. -/
theorem fills {l m : LC} (h : LinkLaw l) (hline : m.line = l.line) (hholds : ∀ k, l.holds k = true → m.holds k = true)
    (hdef : m.deferral = l.deferral) (hatt : m.attempt = l.attempt) (hcont : m.contention = l.contention) : LinkLaw m := by
  refine ⟨fun d hd => ?_, fun a ha => ?_, fun c hc => h.count c (hcont ▸ hc)⟩
  · obtain ⟨hidle, hnone, hk⟩ := h.deferral d (hdef ▸ hd)
    exact ⟨hline ▸ hidle, hatt ▸ hnone, hholds _ hk⟩
  · obtain ⟨hbusy, hk⟩ := h.attempt a (hatt ▸ ha)
    exact ⟨hline ▸ hbusy, hholds _ hk⟩

/-- While an attempt runs no deferral does. -/
theorem no_deferral {l : LC} (h : LinkLaw l) {a : Attempt} (ha : l.attempt = some a) : l.deferral = none := by
  cases hd : l.deferral with
  | none => rfl
  | some d => rw [(h.deferral d hd).2.1] at ha; cases ha

/-- With neither deferral nor attempt the law is that of the attempt count. -/
theorem of_rest {l : LC} (hdef : l.deferral = none) (hatt : l.attempt = none)
    (hcont : ∀ c, l.contention = some c → 1 ≤ c.count ∧ c.count ≤ 8) : LinkLaw l :=
  ⟨fun d hd => by simp [hdef] at hd, fun a ha => by simp [hatt] at ha, hcont⟩

theorem initial (x : LineState) : LinkLaw (LC.initial x) := of_rest rfl rfl fun _ h => by simp [LC.initial] at h

theorem contentionCount_mem {l : LC} (h : LinkLaw l) (k : FrameKind) :
    1 ≤ contentionCount l k ∧ contentionCount l k ≤ 8 := by
  unfold contentionCount
  split
  · next c hc =>
    split
    · exact h.count c hc
    · omega
  · omega

end LinkLaw

/-- The frame chosen is one whose slot is occupied. -/
theorem holds_of_chooseFrame {l : LC} {k : FrameKind} (h : chooseFrame l = some k) : l.holds k = true := by
  unfold chooseFrame at h
  split at h
  · cases h; assumption
  · split at h
    · cases h; assumption
    · split at h
      · cases h; assumption
      · cases h

namespace LinkLaw

theorem beginDeferral {l : LC} (h : LinkLaw l) (hline : l.line = .idle) (hatt : l.attempt = none) :
    LinkLaw (beginDeferral l) := by
  unfold Machine.beginDeferral
  split
  · exact h
  · next k hk =>
    have hheld := holds_of_chooseFrame hk
    refine ⟨fun d hd => ?_, fun a ha => by simp [hatt] at ha, fun c hc => ?_⟩
    · cases hd
      exact ⟨hline, hatt, hheld⟩
    · cases hc
      exact h.contentionCount_mem k

theorem deferWhenIdle {l : LC} (h : LinkLaw l) : LinkLaw (deferWhenIdle l) := by
  unfold Machine.deferWhenIdle
  split
  · next hidle => exact h.beginDeferral hidle.1 hidle.2.2
  · exact h

theorem fillBeacon {l : LC} (h : LinkLaw l) : LinkLaw (fillBeacon l) := by
  unfold Machine.fillBeacon
  split
  · split
    · exact h.fills rfl (fun k hk => by cases k <;> exact hk) rfl rfl rfl
    · exact h
  · refine (h.fills (m := { l with beacon := true }) rfl (fun k hk => ?_) rfl rfl rfl).deferWhenIdle
    cases k with
    | beacon => rfl
    | storage | depart => exact hk

theorem fillStorage {l : LC} (h : LinkLaw l) : LinkLaw (fillStorage l) := by
  unfold Machine.fillStorage
  split
  · split
    · exact h.fills rfl (fun k hk => by cases k <;> exact hk) rfl rfl rfl
    · exact h
  · refine (h.fills (m := { l with storage := true }) rfl (fun k hk => ?_) rfl rfl rfl).deferWhenIdle
    cases k with
    | storage => rfl
    | beacon | depart => exact hk

theorem holds_depart {l : LC} (r : DepartReason) (b : Bool) (k : FrameKind) (hk : l.holds k = true) :
    LC.holds { l with depart := some r, departRenewal := b } k = true := by
  cases k with
  | depart => rfl
  | beacon | storage => exact hk

theorem fillDepart {l : LC} (h : LinkLaw l) (r : DepartReason) : LinkLaw (fillDepart r l) := by
  unfold Machine.fillDepart
  split
  · exact h.fills rfl (holds_depart r _) rfl rfl rfl
  · exact (h.fills (m := { l with depart := some r }) rfl (holds_depart r l.departRenewal) rfl rfl rfl).deferWhenIdle

end LinkLaw

/-! ### Emptying a slot -/

theorem clearSlot_holds (k j : FrameKind) (l : LC) : (clearSlot k l).holds j = if j = k then false else l.holds j := by
  cases k <;> cases j <;> rfl

@[simp] theorem clearSlot_rest (k : FrameKind) (l : LC) :
    (clearSlot k l).line = l.line ∧ (clearSlot k l).deferral = l.deferral ∧ (clearSlot k l).attempt = l.attempt
      ∧ (clearSlot k l).contention = l.contention := by
  cases k <;> exact ⟨rfl, rfl, rfl, rfl⟩

@[simp] theorem clearRenewal_rest (k : FrameKind) (l : LC) :
    (clearRenewal k l).line = l.line ∧ (clearRenewal k l).deferral = l.deferral
      ∧ (clearRenewal k l).attempt = l.attempt ∧ (clearRenewal k l).contention = l.contention := by
  cases k <;> exact ⟨rfl, rfl, rfl, rfl⟩

theorem stopAttempt_eq (k : FrameKind) (l : LC) : stopAttempt k l = { l with
    receiver := if l.attempt.any (fun a => decide (a.kind = k)) then .hunt else l.receiver
    attempt := l.attempt.filter (fun a => decide (a.kind ≠ k)) } := by
  obtain ⟨_, _, _, _, _, _, _, _, _, _, attempt, _, _, _⟩ := l
  cases attempt with
  | none => rfl
  | some a => by_cases hk : a.kind = k <;> simp [stopAttempt, Option.filter, hk]

theorem endDeferral_eq (k : FrameKind) (l : LC) :
    endDeferral k l = { l with deferral := l.deferral.filter (fun d => decide (d.kind ≠ k)) } := by
  obtain ⟨_, _, _, _, _, _, _, _, _, deferral, _, _, _, _⟩ := l
  cases deferral with
  | none => rfl
  | some d => by_cases hk : d.kind = k <;> simp [endDeferral, Option.filter, hk]

theorem dropContention_eq (k : FrameKind) (l : LC) :
    dropContention k l = { l with contention := l.contention.filter (fun c => decide (c.kind ≠ k)) } := by
  obtain ⟨_, _, _, _, _, _, _, _, contention, _, _, _, _, _⟩ := l
  cases contention with
  | none => rfl
  | some c => by_cases hk : c.kind = k <;> simp [dropContention, Option.filter, hk]

/-- A slot emptied by a change of mode: its frame on the line, its deferral and its attempt count have gone, and those of
the other slots stand (R21). -/
theorem emptySlot_eq (k : FrameKind) (l : LC) :
    emptySlot k l = { clearSlot k l with
      receiver := if l.attempt.any (fun a => decide (a.kind = k)) then .hunt else l.receiver
      attempt := l.attempt.filter (fun a => decide (a.kind ≠ k))
      deferral := l.deferral.filter (fun d => decide (d.kind ≠ k))
      contention := l.contention.filter (fun c => decide (c.kind ≠ k)) } := by
  rw [emptySlot, dropContention_eq, endDeferral_eq, stopAttempt_eq]
  cases k <;> rfl

theorem emptySlot_holds (k j : FrameKind) (l : LC) : (emptySlot k l).holds j = if j = k then false else l.holds j := by
  rw [emptySlot_eq, ← clearSlot_holds]
  cases j <;> rfl

@[simp] theorem emptySlot_line (k : FrameKind) (l : LC) : (emptySlot k l).line = l.line := by
  rw [emptySlot_eq]
  exact (clearSlot_rest k l).1

theorem LinkLaw.emptySlot {l : LC} (h : LinkLaw l) (k : FrameKind) : LinkLaw (emptySlot k l) := by
  refine ⟨fun d hd => ?_, fun a ha => ?_, fun c hc => ?_⟩
  · rw [emptySlot_eq] at hd
    obtain ⟨hd, hk⟩ := Option.filter_eq_some_iff.mp hd
    obtain ⟨hline, hatt, hholds⟩ := h.deferral d hd
    rw [emptySlot_line, emptySlot_holds, if_neg (of_decide_eq_true hk), emptySlot_eq]
    exact ⟨hline, by simp [hatt], hholds⟩
  · rw [emptySlot_eq] at ha
    obtain ⟨ha, hk⟩ := Option.filter_eq_some_iff.mp ha
    obtain ⟨hline, hholds⟩ := h.attempt a ha
    rw [emptySlot_line, emptySlot_holds, if_neg (of_decide_eq_true hk)]
    exact ⟨hline, hholds⟩
  · rw [emptySlot_eq] at hc
    exact h.count c (Option.filter_eq_some_iff.mp hc).1

/-- The law does not read the receiver, the generator and the timers. -/
theorem LinkLaw.of_eq {l m : LC} (h : LinkLaw l) (hm : m = { l with
    receiver := m.receiver, generator := m.generator, beaconTimer := m.beaconTimer, silenceTimer := m.silenceTimer,
    departRenewal := m.departRenewal, storageRenewal := m.storageRenewal, beaconRenewal := m.beaconRenewal }) :
    LinkLaw m := by
  rw [hm]
  exact h.fills rfl (fun k hk => by cases k <;> exact hk) rfl rfl rfl

theorem LinkLaw.linkTakesCharge {l : LC} (h : LinkLaw l) (n : Nat) : LinkLaw (linkTakesCharge n l) :=
  (h.emptySlot .depart).of_eq rfl

theorem LinkLaw.linkLeavesCharge {l : LC} (h : LinkLaw l) : LinkLaw (linkLeavesCharge l) :=
  (((h.of_eq (m := { l with beaconTimer := none }) rfl).emptySlot .storage).emptySlot .beacon).deferWhenIdle

theorem LinkLaw.startAttempt {l : LC} (h : LinkLaw l) : LinkLaw (startAttempt l) := by
  unfold Machine.startAttempt
  split
  · next d hd =>
    refine ⟨fun d hd => (nomatch hd), fun a ha => ?_, h.count⟩
    cases ha
    exact ⟨rfl, (h.deferral d hd).2.2⟩
  · exact h

/-- An attempt that ends leaves neither attempt nor deferral. -/
theorem LinkLaw.attemptEnds {l m : LC} (h : LinkLaw l) {a : Attempt} (ha : l.attempt = some a)
    (hdef : m.deferral = l.deferral) (hatt : m.attempt = none)
    (hcont : ∀ c, m.contention = some c → 1 ≤ c.count ∧ c.count ≤ 8) : LinkLaw m :=
  of_rest (hdef.trans (h.no_deferral ha)) hatt hcont

/-! ### The relation that every operation has -/

/-- Whether a flag is set once another has been (R173). -/
theorem flagIn_setFlag (f g : Flag) (w : Word16) : flagIn f (w ||| g.word) = (flagIn f w || decide (f = g)) := by
  have hword : flagIn f g.word = decide (f = g) := by cases f <;> cases g <;> decide
  rw [← hword]
  simp [flagIn]

/-- From `s` to `t` the waiting commands stand, the transmitter's law is kept, and no sticky flag is cleared but those of
a word. -/
structure Orderly (w : Word16) (s t : State) : Prop where
  pending : t.pending = s.pending
  link : LinkLaw s.lc → LinkLaw t.lc
  flags : ∀ f, flagIn f s.cp.flags = true → flagIn f t.cp.flags = true ∨ flagIn f w = true

namespace Orderly

variable {w : Word16}

theorem of_eq {s t : State} (h : t.lc = s.lc ∧ t.cp.flags = s.cp.flags ∧ t.pending = s.pending) : Orderly w s t := by
  obtain ⟨hlc, hflags, hpending⟩ := h
  exact ⟨hpending, by simp [hlc], fun f hf => .inl (hflags ▸ hf)⟩

theorem refl (s : State) : Orderly w s s := of_eq ⟨rfl, rfl, rfl⟩

theorem trans {s t u : State} (h : Orderly w s t) (h' : Orderly w t u) : Orderly w s u :=
  ⟨h'.pending.trans h.pending, h'.link ∘ h.link, fun f hf => (h.flags f hf).elim (h'.flags f) .inr⟩

theorem of_start {s t u : State} (h : Orderly w t u)
    (hs : t.lc = s.lc ∧ t.cp.flags = s.cp.flags ∧ t.pending = s.pending) : Orderly w s u := (of_eq hs).trans h

theorem link_of {s t : State} (hl : LinkLaw s.lc → LinkLaw t.lc) (h : t.cp.flags = s.cp.flags ∧ t.pending = s.pending) :
    Orderly w s t := ⟨h.2, hl, fun _ hf => .inl (h.1 ▸ hf)⟩

theorem flag (f : Flag) (s : State) : Orderly w s (setFlag f s) :=
  ⟨rfl, id, fun _ hg => .inl (by simp [flagIn_setFlag, hg])⟩

theorem foldl {α : Type} {f : State → α → State} (hf : ∀ s a, Orderly w s (f s a)) (l : List α) (s : State) :
    Orderly w s (l.foldl f s) := by
  induction l generalizing s with
  | nil => exact .refl s
  | cons a l ih => exact (hf s a).trans (ih _)

theorem ite {b : Prop} [Decidable b] {s t u : State} (ht : Orderly w s t) (hu : Orderly w s u) :
    Orderly w s (if b then t else u) := by
  split
  · exact ht
  · exact hu

end Orderly

/-! ### The shared operations have it -/

section
variable {w : Word16}

theorem requestBeacon_orderly (s : State) : Orderly w s (requestBeacon s) :=
  .ite (.link_of LinkLaw.fillBeacon ⟨rfl, rfl⟩) (.refl s)

theorem requestStorage_orderly (s : State) : Orderly w s (requestStorage s) :=
  .ite (.link_of LinkLaw.fillStorage ⟨rfl, rfl⟩) (.refl s)

theorem requestDepart_orderly (r : DepartReason) (s : State) : Orderly w s (requestDepart r s) :=
  .link_of (fun h => h.fillDepart r) ⟨rfl, rfl⟩

theorem setStorage_orderly (d : Direction) (v : Storage) (s : State) : Orderly w s (setStorage d v s) := by
  unfold setStorage
  exact .ite (.of_eq ⟨rfl, rfl, rfl⟩) (.of_start (requestStorage_orderly _) ⟨rfl, rfl, rfl⟩)

theorem enterFault_orderly (c : Configuration) (k : Num8) (v : FaultState) (s : State) :
    Orderly w s (enterFault c k v s) := by
  have hflag : ∀ l, Orderly w s (setFlag .detectorFault (count .detectorFault (setLine k l s))) := fun l =>
    .of_start (.flag .detectorFault _) ⟨rfl, rfl, rfl⟩
  unfold enterFault
  dsimp only
  split
  · exact (hflag _).trans (setStorage_orderly _ _ _)
  · exact hflag _

theorem storageRecovers_orderly (c : Configuration) (k : Num8) (s : State) : Orderly w s (storageRecovers c k s) := by
  unfold storageRecovers
  split
  · exact .ite (setStorage_orderly _ _ s) (.refl s)
  · exact .refl s

theorem judgeStorage_orderly (c : Configuration) (p : Plan) (d : Direction) (s : State) :
    Orderly w s (judgeStorage c p d s) := by
  unfold judgeStorage
  split
  · exact .ite (setStorage_orderly _ _ s) (.refl s)
  · exact .refl s

theorem closeCycle_orderly (c : Configuration) (p : Plan) (s : State) : Orderly w s (closeCycle c p s) := by
  unfold closeCycle
  refine .trans ?_ (judgeStorage_orderly c p _ _)
  refine .trans ?_ (judgeStorage_orderly c p _ _)
  refine .trans ?_ (.foldl (fun s _ => .ite (enterFault_orderly c _ _ s) (.refl s)) _ _)
  exact .of_eq ⟨rfl, rfl, rfl⟩

theorem enterFullWhenDue_orderly (c : Configuration) (p : Plan) (d : Direction) (s : State) :
    Orderly w s (enterFullWhenDue c p d s) := .ite (setStorage_orderly _ _ s) (.refl s)

theorem enterGating_orderly (c : Configuration) (p : Plan) (d : Direction) (n : Nat) (s : State) :
    Orderly w s (enterGating c p d n s) := by
  have hflag : Orderly w s (setFlag .gatingEntered (setGate d { s.gt.get d with
      station := some n, marks := { (s.gt.get d).marks with active := true, entered := true } } s)) :=
    .of_start (.flag .gatingEntered _) ⟨rfl, rfl, rfl⟩
  unfold enterGating
  dsimp only
  split
  · exact hflag
  · exact hflag.trans (.of_eq (by simp))

theorem judgeDirection_orderly (c : Configuration) (p : Plan) (r : Option Nat) (d : Direction) (s : State) :
    Orderly w s (judgeDirection c p r d s) := by
  unfold judgeDirection
  split
  · exact enterGating_orderly c p d _ s
  · exact .of_eq ⟨rfl, rfl, rfl⟩
  · exact .of_eq ⟨rfl, rfl, rfl⟩
  · exact .refl s

theorem judgeGating_orderly (c : Configuration) (p : Plan) (r : Option Nat) (s : State) :
    Orderly w s (judgeGating c p r s) :=
  .ite ((judgeDirection_orderly c p r _ s).trans (judgeDirection_orderly c p r _ _)) (.refl s)

theorem reportToGating_orderly (r : Option Nat) (s : State) : Orderly w s (reportToGating r s) := by
  unfold reportToGating
  split
  · exact judgeGating_orderly _ _ r s
  · exact .refl s

theorem expireRequest_orderly (k : Num8) (s : State) : Orderly w s (expireRequest k s) :=
  .of_start (.flag .priorityExpired _) ⟨rfl, rfl, rfl⟩

theorem expireAged_orderly (p : Plan) (s : State) : Orderly w s (expireAged p s) :=
  .foldl (fun s _ => .ite (expireRequest_orderly _ s) (.refl s)) _ s

theorem refuseEntry_orderly (s : State) : Orderly w s (refuseEntry s) :=
  .of_start (.flag .tableFull (count .tableRefused s)) ⟨rfl, rfl, rfl⟩

theorem removeEntry_orderly (n : Nat) (s : State) : Orderly w s (removeEntry n s) :=
  .of_start (reportToGating_orderly _ _) ⟨rfl, rfl, rfl⟩

theorem placeEntry_orderly (e : Entry) (s : State) : Orderly w s (placeEntry e s) :=
  .of_start (reportToGating_orderly _ _) ⟨rfl, rfl, rfl⟩

theorem beaconKnown_orderly (c : Configuration) (o n : Entry) (s : State) : Orderly w s (beaconKnown c o n s) :=
  .ite (placeEntry_orderly n s) (.ite (removeEntry_orderly _ s)
    (.ite ((removeEntry_orderly _ s).trans (refuseEntry_orderly _)) (placeEntry_orderly n s)))

theorem beaconUnknown_orderly (c : Configuration) (n : Entry) (s : State) : Orderly w s (beaconUnknown c n s) := by
  refine .ite (.refl s) (.ite (refuseEntry_orderly s) (.ite (placeEntry_orderly n s) ?_))
  split
  · exact .ite ((removeEntry_orderly _ s).trans (placeEntry_orderly n _)) (refuseEntry_orderly s)
  · exact .refl s

theorem loseStation_orderly (n : Nat) (s : State) : Orderly w s (loseStation n s) :=
  (removeEntry_orderly n s).trans (.ite (.of_start (.flag .referenceLost _) ⟨rfl, rfl, rfl⟩) (.refl _))

theorem storageFrame_orderly (n : Nat) (a : PerDir Approach) (s : State) : Orderly w s (storageFrame n a s) := by
  unfold storageFrame
  split
  · exact .of_start (reportToGating_orderly _ _) ⟨rfl, rfl, rfl⟩
  · exact .refl s

theorem tableTakes_orderly (c : Configuration) (k : Capture) (f : Frame) (s : State) :
    Orderly w s (tableTakes c k f s) := by
  cases f with
  | beacon n b a =>
    unfold tableTakes
    dsimp only
    split
    · exact beaconKnown_orderly _ _ _ s
    · exact beaconUnknown_orderly _ _ s
  | storage n a => exact storageFrame_orderly n a s
  | depart n =>
    unfold tableTakes
    dsimp only
    split
    · exact loseStation_orderly n s
    · exact .refl s

/-! ### Receiving has it -/

theorem setReceiver_orderly (r : Receiver) (s : State) : Orderly w s (setReceiver r s) :=
  .link_of (fun h => h.of_eq rfl) ⟨rfl, rfl⟩

theorem discardFrame_orderly (s : State) : Orderly w s (discardFrame s) :=
  (setReceiver_orderly .hunt s).trans (.of_start (.flag .rxError _) ⟨rfl, rfl, rfl⟩)

theorem disposeFrame_orderly (c : Configuration) (k : Capture) (g n : Nat) (f : Frame) (s : State) :
    Orderly w s (disposeFrame c k g n f s) := by
  refine .ite (.of_eq ⟨rfl, rfl, rfl⟩) (.ite (.flag .duplicateNumber s) ?_)
  refine .trans ?_ (tableTakes_orderly c k f _)
  exact .link_of (fun h => h.of_eq rfl) ⟨rfl, rfl⟩

theorem completeFrame_orderly (k : Capture) (n : Nat) (got : List Byte) (f b : Byte) (s : State) :
    Orderly w s (completeFrame k n got f b s) := by
  unfold completeFrame
  split
  · refine .ite ?_ (discardFrame_orderly s)
    split
    · exact (setReceiver_orderly .hunt s).trans (disposeFrame_orderly _ _ _ _ _ _)
    · exact discardFrame_orderly s
  · exact .refl s

theorem receiveByte_orderly (b : Byte) (e : Bool) (s : State) : Orderly w s (receiveByte b e s) := by
  unfold receiveByte
  split
  · exact .ite (setReceiver_orderly _ s) (.refl s)
  · exact .ite (setReceiver_orderly _ s) (.ite (.refl s) (setReceiver_orderly _ s))
  · exact .ite (setReceiver_orderly _ s) (discardFrame_orderly s)
  · exact .ite (discardFrame_orderly s) (.ite (setReceiver_orderly _ s) (setReceiver_orderly _ s))
  · refine .ite (discardFrame_orderly s) ?_
    split
    · exact setReceiver_orderly _ s
    · exact completeFrame_orderly _ _ _ _ _ s

theorem cutShort_orderly (s : State) : Orderly w s (cutShort s) := by
  unfold cutShort
  split
  · exact .refl s
  · exact .refl s
  · exact discardFrame_orderly s
  · exact discardFrame_orderly s
  · exact discardFrame_orderly s

/-! ### The operations across the blocks have it -/

theorem planStanding_orderly (c : Configuration) (n : Num4) (p : Plan) (s : State) :
    Orderly w s (planStanding c n p s) := by
  refine .trans ?_ (enterFullWhenDue_orderly c p _ _)
  refine .trans ?_ (enterFullWhenDue_orderly c p _ _)
  exact .of_start (expireAged_orderly p _) ⟨rfl, rfl, rfl⟩

theorem pendingTakesEffect_orderly (c : Configuration) (s : State) : Orderly w s (pendingTakesEffect c s) := by
  unfold pendingTakesEffect
  split
  · split
    · exact planStanding_orderly _ _ _ s
    · exact .refl s
  · exact .of_eq ⟨rfl, rfl, rfl⟩

theorem takeReachedDeciding_orderly (c : Configuration) (p : Plan) (s : State) :
    Orderly w s (takeReachedDeciding c p s) := .of_eq (by simp)

theorem takeCharge_orderly (s : State) : Orderly w s (takeCharge s) := by
  unfold takeCharge
  split
  · next c p _ =>
    refine .trans ?_ (takeReachedDeciding_orderly c p _)
    refine .trans ?_ (judgeGating_orderly c p none _)
    refine .trans ?_ (requestBeacon_orderly _)
    exact .link_of (fun h => h.linkTakesCharge c.period) ⟨rfl, rfl⟩
  · exact .refl s

theorem leaveCharge_orderly (m : Mode) (s : State) : Orderly w s (leaveCharge m s) := by
  unfold leaveCharge
  split
  · refine .trans ?_ (pendingTakesEffect_orderly _ _)
    exact .link_of (fun h => h.linkLeavesCharge) ⟨rfl, rfl⟩
  · exact .refl s

theorem enterPreempted_orderly (s : State) : Orderly w s (enterPreempted s) :=
  .of_start (.flag .preempted _) ⟨rfl, rfl, rfl⟩

theorem leavePass_orderly (c : Configuration) (s : State) : Orderly w s (leavePass c s) :=
  .ite (enterPreempted_orderly s) (.ite (.of_eq ⟨rfl, rfl, rfl⟩) (takeCharge_orderly s))

theorem pickupExpires_orderly (s : State) : Orderly w s (pickupExpires s) :=
  (Orderly.flag .pickupTimeout s).trans (takeCharge_orderly _)

theorem appendRecord_orderly (c : Configuration) (r : LogRecord) (s : State) : Orderly w s (appendRecord c r s) := by
  refine .trans (.foldl (fun s _ => ?_) _ s) (.of_eq ⟨rfl, rfl, rfl⟩)
  exact .of_start (.flag .logTimeout (count .logTimeout s)) ⟨rfl, rfl, rfl⟩

theorem gatingWrap_orderly (c : Configuration) (p : Plan) (s : State) : Orderly w s (gatingWrap c p s) :=
  .of_eq (by simp)

theorem recordAndOpen_orderly (c : Configuration) (p : Plan) (m : ChargeMode) (f : CT) (r : LogRecord) (a : PA)
    (s : State) :
    Orderly w s (setGreens true (clearLines { startComputation c p m f (appendRecord c r s) with pa := a })) :=
  (appendRecord_orderly c r s).trans (.of_eq (by simp))

theorem doWrap_orderly (s : State) : Orderly w s (doWrap s) := by
  unfold doWrap
  split
  · next c p m _ _ =>
    refine .trans ?_ (takeReachedDeciding_orderly c p _)
    refine .trans ?_ (gatingWrap_orderly c p _)
    refine .trans ?_ (recordAndOpen_orderly c p m s.ct _ _ _)
    exact .of_start (closeCycle_orderly c p _) ⟨rfl, rfl, rfl⟩
  · exact .refl s

theorem doStep_orderly (s : State) : Orderly w s (doStep s) := by
  unfold doStep
  refine .ite (doWrap_orderly s) (.ite ?_ (.of_eq ⟨rfl, rfl, rfl⟩))
  split
  · exact .ite (.of_eq ⟨rfl, rfl, rfl⟩) (.refl s)
  · exact .refl s

theorem replaceGate_orderly (c : Configuration) (p : Plan) (d : Direction) (s : State) :
    Orderly w s (replaceGate c p d s) := .of_eq (by simp)

theorem planAtCompletion_orderly (c : Configuration) (p : Plan) (s : State) :
    Orderly w s (planAtCompletion c p s) := by
  refine .trans ?_ (replaceGate_orderly c p _ _)
  refine .trans ?_ (replaceGate_orderly c p _ _)
  refine .trans ?_ (enterFullWhenDue_orderly c p _ _)
  exact (expireAged_orderly p s).trans (enterFullWhenDue_orderly c p _ _)

theorem doCompletion_orderly (n : Snapshot) (s : State) : Orderly w s (doCompletion n s) := by
  unfold doCompletion
  split
  · next c _ =>
    split
    · next k p _ =>
      refine .trans ?_ (.ite (.refl _) (takeReachedDeciding_orderly c p _))
      refine .trans ?_ (.ite (planAtCompletion_orderly c p _) (.refl _))
      exact .of_eq ⟨rfl, rfl, rfl⟩
    · exact .refl s
  · exact .refl s

theorem loadGood_orderly (c : Configuration) (s : State) : Orderly w s (loadGood c s) := by
  unfold loadGood
  split
  · refine .trans ?_ (leavePass_orderly c _)
    exact .link_of (fun h => h.of_eq rfl) ⟨rfl, rfl⟩
  · exact .refl s

theorem completeLoad_orderly (o : LoadObservation) (s : State) : Orderly w s (completeLoad o s) := by
  unfold completeLoad
  split
  · exact loadGood_orderly _ s
  · exact .of_start (.flag .configBad _) ⟨rfl, rfl, rfl⟩
  · exact .refl s
  · exact .refl s
  · exact .refl s

theorem actRestart_orderly (s : State) : Orderly w s (actRestart s) :=
  ⟨rfl, fun _ => .initial _, fun _ h => .inl h⟩

theorem requestArrives_orderly (p : Plan) (k : Num8) (g : TransitGroup) (s : State) :
    Orderly w s (requestArrives p k g s) := .of_eq (by simp)

theorem withdraw_orderly (c : Configuration) (p : Plan) (k : Num8) (s : State) : Orderly w s (withdraw c p k s) :=
  .of_eq (by simp)

theorem risingEdge_orderly (c : Configuration) (p : Plan) (k : Num8) (s : State) : Orderly w s (risingEdge c p k s) := by
  have hline : ∀ l, Orderly w s (setLine k l s) := fun _ => .of_eq ⟨rfl, rfl, rfl⟩
  unfold risingEdge
  dsimp only
  split
  · refine .trans ?_ (.ite (requestArrives_orderly p k _ _) (.refl _))
    exact (hline _).trans (.ite (storageRecovers_orderly c k _) (.refl _))
  · exact (hline _).trans (.ite (storageRecovers_orderly c k _) (.refl _))

theorem fallingEdge_orderly (c : Configuration) (p : Plan) (k : Num8) (s : State) :
    Orderly w s (fallingEdge c p k s) := by
  have hline : ∀ l, Orderly w s (setLine k l s) := fun _ => .of_eq ⟨rfl, rfl, rfl⟩
  unfold fallingEdge
  dsimp only
  split
  · refine .trans ?_ (withdraw_orderly c p k _)
    exact (hline _).trans (.ite (storageRecovers_orderly c k _) (.refl _))
  · exact (hline _).trans (.ite (storageRecovers_orderly c k _) (.refl _))

theorem filterLevel_orderly (c : Configuration) (p : Plan) (k : Num8) (s : State) :
    Orderly w s (filterLevel c p k s) :=
  .ite (.of_eq ⟨rfl, rfl, rfl⟩) (.ite (.ite (risingEdge_orderly c p k s) (fallingEdge_orderly c p k s))
    (.of_eq ⟨rfl, rfl, rfl⟩))

/-! ### The events of the link have it -/

theorem startBit_orderly (s : State) : Orderly w s (startBit s) :=
  .link_of (fun h => ⟨fun _ hd => (nomatch hd), fun a ha => ⟨rfl, (h.attempt a ha).2⟩, h.count⟩) ⟨rfl, rfl⟩

theorem idleGap_orderly (s : State) : Orderly w s (idleGap s) := by
  unfold idleGap
  split
  · next hatt =>
    have hidle : Orderly w s { s with lc := { s.lc with line := .idle } } := .link_of
      (fun h => ⟨fun d hd => ⟨rfl, hatt, (h.deferral d hd).2.2⟩, fun a ha => by simp [hatt] at ha, h.count⟩) ⟨rfl, rfl⟩
    exact hidle.trans ((cutShort_orderly _).trans (.link_of LinkLaw.deferWhenIdle ⟨rfl, rfl⟩))
  · exact .refl s

theorem deferralRunsOut_orderly (s : State) : Orderly w s (deferralRunsOut s) :=
  .ite (.link_of LinkLaw.startAttempt ⟨rfl, rfl⟩) (.refl s)

/-- An attempt that reaches its mark is the same attempt to the law. -/
theorem ownMark_orderly {a : Attempt} {s : State} (ha : s.lc.attempt = some a) : Orderly w s (ownMark a s) := by
  unfold ownMark
  split
  · refine .link_of (fun h => ⟨fun d hd => ?_, fun b hb => ?_, h.count⟩) ⟨rfl, rfl⟩
    · exact absurd hd (by simp [h.no_deferral ha])
    · cases hb
      exact h.attempt a ha
  · exact .refl s

theorem frameMarkPasses_orderly (s : State) : Orderly w s (frameMarkPasses s) := by
  unfold frameMarkPasses
  split
  · next a ha => exact .ite (ownMark_orderly ha) (.refl s)
  · exact .ite (setReceiver_orderly _ s) (.refl s)

theorem lastCheckByte_orderly (b : Byte) (s : State) : Orderly w s (lastCheckByte b s) := by
  unfold lastCheckByte
  split
  · exact completeFrame_orderly _ _ _ _ _ s
  · exact .refl s

/-- A collision leaves the attempt count at 8 at most: the ninth count abandons the frame (R18, R19). -/
theorem collide_orderly {a : Attempt} {s : State} (ha : s.lc.attempt = some a) (k : FrameKind) :
    Orderly w s (collide k s) := by
  unfold collide
  dsimp only
  split
  · refine .trans (.link_of (t := count .txAbandoned { s with lc := { clearSlot k (clearRenewal k { s.lc with
      attempt := none, receiver := .hunt, contention := some ⟨k, attemptCount s.lc + 1⟩ }) with contention := none } })
      (fun h => h.attemptEnds ha ?_ ?_ fun _ hc => nomatch hc) ⟨rfl, rfl⟩) (.of_start (.flag .txAbandoned _) ⟨rfl, rfl, rfl⟩)
    · cases k <;> rfl
    · cases k <;> rfl
  · next hk =>
    refine .link_of (fun h => h.attemptEnds ha ?_ ?_ fun c hc => ?_) ⟨rfl, rfl⟩
    · cases k <;> rfl
    · cases k <;> rfl
    · simp at hc
      subst hc
      exact ⟨Nat.succ_pos _, Nat.le_of_not_lt hk⟩

/-- The slots after a success of a frame of a kind (R17). -/
def slotsAfterSuccess (k : FrameKind) (l : LC) : LC :=
  if k = .depart then clearSlot .beacon (clearSlot .storage (if renewal l k then clearRenewal k l else clearSlot k l))
  else if renewal l k then clearRenewal k l else clearSlot k l

theorem succeed_eq (k : FrameKind) (s : State) : succeed k s = count .sent { s with
    lc := slotsAfterSuccess k { s.lc with attempt := none, receiver := .hunt, contention := none } } := rfl

theorem slotsAfterSuccess_rest (k : FrameKind) (l : LC) :
    (slotsAfterSuccess k l).deferral = l.deferral ∧ (slotsAfterSuccess k l).attempt = l.attempt
      ∧ (slotsAfterSuccess k l).contention = l.contention := by
  have hslot : ∀ b : Bool, (if b then clearRenewal k l else clearSlot k l).deferral = l.deferral
      ∧ (if b then clearRenewal k l else clearSlot k l).attempt = l.attempt
      ∧ (if b then clearRenewal k l else clearSlot k l).contention = l.contention := by
    intro b
    cases b <;> simp
  unfold slotsAfterSuccess
  split
  · exact hslot _
  · exact hslot _

theorem succeed_orderly {a : Attempt} {s : State} (ha : s.lc.attempt = some a) (k : FrameKind) :
    Orderly w s (succeed k s) := by
  obtain ⟨hdef, hatt, hcont⟩ :=
    slotsAfterSuccess_rest k { s.lc with attempt := none, receiver := .hunt, contention := none }
  rw [succeed_eq]
  exact .link_of (fun h => h.attemptEnds ha hdef hatt fun c hc => by simp [hcont] at hc) ⟨rfl, rfl⟩

/-! ### The other events have it -/

theorem collisionFound_orderly (s : State) : Orderly w s (collisionFound s) := by
  unfold collisionFound
  split
  · next ha => exact collide_orderly ha _
  · exact .refl s

theorem attemptDone_orderly (s : State) : Orderly w s (attemptDone s) := by
  unfold attemptDone
  split
  · next ha => exact .ite (succeed_orderly ha _) (.refl s)
  · exact .refl s

theorem beaconTimerOut_orderly (s : State) : Orderly w s (beaconTimerOut s) := by
  unfold beaconTimerOut
  split
  · refine .ite (.trans ?_ (requestBeacon_orderly _)) (.refl s)
    exact .link_of (fun h => h.of_eq rfl) ⟨rfl, rfl⟩
  · exact .refl s

theorem silenceTimerOut_orderly (s : State) : Orderly w s (silenceTimerOut s) := by
  refine .ite (.trans ?_ (.flag .linkSilent _)) (.refl s)
  exact .link_of (fun h => h.of_eq rfl) ⟨rfl, rfl⟩

theorem entryTurnsQuiet_orderly (n : Nat) (s : State) : Orderly w s (entryTurnsQuiet n s) := by
  unfold entryTurnsQuiet
  split
  · exact .ite (.of_eq ⟨rfl, rfl, rfl⟩) (.refl s)
  · exact .refl s

theorem entryExpires_orderly (n : Nat) (s : State) : Orderly w s (entryExpires n s) := by
  unfold entryExpires
  split
  · exact .ite (loseStation_orderly n s) (.refl s)
  · exact .refl s

theorem computationCompletes_orderly (s : State) : Orderly w s (computationCompletes s) := by
  unfold computationCompletes
  split
  · exact .ite (.of_start (doCompletion_orderly _ _) (by simp)) (.refl s)
  · exact .refl s

theorem markComesDue_orderly (m : Num8) (s : State) : Orderly w s (markComesDue m s) := by
  unfold markComesDue
  split
  · exact .ite (.ite (.of_eq (by simp)) (.of_eq (by simp))) (.refl s)
  · exact .refl s

theorem gatePointComes_orderly (d : Direction) (s : State) : Orderly w s (gatePointComes d s) := by
  unfold gatePointComes
  split
  · exact .ite (.of_eq (by simp)) (.refl s)
  · exact .refl s

theorem windowOpens_orderly (s : State) : Orderly w s (windowOpens s) := by
  unfold windowOpens
  split
  · exact .ite (.of_eq (by simp)) (.refl s)
  · exact .refl s

theorem extensionRunsOut_orderly (s : State) : Orderly w s (extensionRunsOut s) := by
  unfold extensionRunsOut
  split
  · exact .ite (.of_eq (by simp)) (.refl s)
  · exact .refl s

theorem requestRunsOut_orderly (k : Num8) (s : State) : Orderly w s (requestRunsOut k s) := by
  unfold requestRunsOut
  split
  · exact .ite (expireRequest_orderly k s) (.refl s)
  · exact .refl s

theorem setRaw_orderly (k : Num8) (v : Bool) (s : State) : Orderly w s (setRaw k v s) := .of_eq ⟨rfl, rfl, rfl⟩

theorem detectorChanges_orderly (k : Num8) (v : Bool) (s : State) : Orderly w s (detectorChanges k v s) := by
  unfold detectorChanges
  split
  · exact .ite ((setRaw_orderly k v s).trans (filterLevel_orderly _ _ k _)) (setRaw_orderly k v s)
  · exact setRaw_orderly k v s

theorem lineRises_orderly (k : Num8) (s : State) : Orderly w s (lineRises k s) := by
  unfold lineRises
  split
  · exact .ite (risingEdge_orderly _ _ k s) (.refl s)
  · exact .refl s

theorem lineFalls_orderly (k : Num8) (s : State) : Orderly w s (lineFalls k s) := by
  unfold lineFalls
  split
  · exact .ite (fallingEdge_orderly _ _ k s) (.refl s)
  · exact .refl s

theorem lineSticksOn_orderly (k : Num8) (s : State) : Orderly w s (lineSticksOn k s) := by
  unfold lineSticksOn
  split
  · exact .ite (enterFault_orderly _ k _ s) (.refl s)
  · exact .refl s

theorem directionFills_orderly (d : Direction) (s : State) : Orderly w s (directionFills d s) := by
  unfold directionFills
  split
  · exact enterFullWhenDue_orderly _ _ d s
  · exact .refl s

theorem directionClears_orderly (d : Direction) (s : State) : Orderly w s (directionClears d s) := by
  unfold directionClears
  split
  · exact .ite (setStorage_orderly d _ s) (.refl s)
  · exact .refl s

theorem changeInput_orderly (f : FilteredInput → FilteredInput) (n : CabinetInput) (s : State) :
    Orderly w s (changeInput f n s) := by
  cases n <;> exact .of_eq ⟨rfl, rfl, rfl⟩

theorem syncRises_orderly (s : State) : Orderly w s (syncRises s) :=
  .ite ((changeInput_orderly _ .sync s).trans (.ite (takeCharge_orderly _) (.refl _))) (.refl s)

theorem preemptUnit_orderly (s : State) : Orderly w s (preemptUnit s) := by
  unfold preemptUnit
  split
  · exact (leaveCharge_orderly _ s).trans ((enterPreempted_orderly _).trans (requestDepart_orderly _ _))
  · exact enterPreempted_orderly s
  · exact .refl s
  · exact .refl s

theorem preemptRises_orderly (s : State) : Orderly w s (preemptRises s) :=
  .ite ((changeInput_orderly _ .preempt s).trans (preemptUnit_orderly _)) (.refl s)

theorem preemptFalls_orderly (s : State) : Orderly w s (preemptFalls s) :=
  .ite ((changeInput_orderly _ .preempt s).trans (.ite (takeCharge_orderly _) (.refl _))) (.refl s)

theorem pickupRunsOut_orderly (s : State) : Orderly w s (pickupRunsOut s) := by
  unfold pickupRunsOut
  split
  · exact .ite (pickupExpires_orderly s) (.refl s)
  · exact .refl s

/-! ### The cabinet port has it -/

theorem respond_orderly (h : InHand) (b : List Byte) (s : State) : Orderly w s (respond h b s) :=
  .of_eq ⟨rfl, rfl, rfl⟩

theorem setPort_orderly (r : PortReceiver) (s : State) : Orderly w s (setPort r s) := .of_eq ⟨rfl, rfl, rfl⟩

theorem actLog_orderly (s : State) : Orderly w s (actLog s) := by
  unfold actLog
  split <;> exact .of_eq ⟨rfl, rfl, rfl⟩

theorem actClear_orderly (s : State) : Orderly w s (actClear w s) := by
  refine .ite (respond_orderly _ _ s) ⟨rfl, id, fun f hf => ?_⟩
  have hf' : s.cp.flags.getLsbD f.bit = true := hf
  have hbit : f.bit < 16 := by cases f <;> decide
  show (s.cp.flags &&& ~~~w).getLsbD f.bit = true ∨ w.getLsbD f.bit = true
  rw [BitVec.getLsbD_and, BitVec.getLsbD_not, hf', decide_eq_true hbit]
  cases w.getLsbD f.bit
  · exact .inl rfl
  · exact .inr rfl

theorem actMask_orderly (v : Word16) (s : State) : Orderly w s (actMask v s) :=
  .ite (respond_orderly _ _ s) (.of_eq ⟨rfl, rfl, rfl⟩)

theorem choosePlan_orderly (c : Configuration) (n : Num4) (p : Plan) (s : State) :
    Orderly w s (choosePlan c n p s) :=
  .ite (.of_eq ⟨rfl, rfl, rfl⟩)
    ((planStanding_orderly c n p s).trans (.ite (pickupExpires_orderly _) (.refl _)))

theorem actPlan_orderly (b : Byte) (s : State) : Orderly w s (actPlan b s) := by
  unfold actPlan
  split
  · exact respond_orderly _ _ s
  · split
    · exact (choosePlan_orderly _ _ _ s).trans (respond_orderly _ _ _)
    · exact respond_orderly _ _ s

theorem actManual_orderly (k v : Byte) (s : State) : Orderly w s (actManual k v s) := by
  unfold actManual
  split <;> exact .of_eq ⟨rfl, rfl, rfl⟩

theorem actRelease_orderly (k : Byte) (s : State) : Orderly w s (actRelease k s) := by
  unfold actRelease
  split <;> exact .of_eq ⟨rfl, rfl, rfl⟩

theorem holdUnit_orderly (s : State) : Orderly w s (holdUnit s) := by
  unfold holdUnit
  split
  · exact (leaveCharge_orderly _ s).trans (requestDepart_orderly _ _)
  · exact .of_eq ⟨rfl, rfl, rfl⟩
  · exact .of_eq ⟨rfl, rfl, rfl⟩
  · exact .refl s

theorem actResume_orderly (s : State) : Orderly w s (actResume s) := by
  unfold actResume
  split
  · exact .ite ((leavePass_orderly _ s).trans (respond_orderly _ _ _)) (respond_orderly _ _ s)
  · exact respond_orderly _ _ s

/-- A command of the port, where `w` is the word of a CLEAR. -/
theorem actKind_orderly (k : HostKind) (args : List Byte) (hclear : k = .clear → BitVec.ofNat 16 (u16 args 0) = w)
    (s : State) : Orderly w s (actKind k args s) := by
  cases k with
  | status | table | counters | flags => exact respond_orderly _ _ s
  | log => exact actLog_orderly s
  | clear => exact hclear rfl ▸ actClear_orderly s
  | mask => exact actMask_orderly _ s
  | plan => exact actPlan_orderly _ s
  | manual => exact actManual_orderly _ _ s
  | release => exact actRelease_orderly _ s
  | hold => exact (holdUnit_orderly s).trans (respond_orderly _ _ _)
  | resume => exact actResume_orderly s
  | restart => exact .of_eq ⟨rfl, rfl, rfl⟩

theorem takeMessage_orderly {f : State → State} (hf : ∀ s, Orderly w s (f s)) (s : State) :
    Orderly w s (takeMessage f s) := by
  unfold takeMessage
  split
  · exact (setPort_orderly _ s).trans (hf _)
  · exact .refl s

theorem endMalformed_orderly (o : Bool) (e : Byte) (s : State) : Orderly w s (endMalformed o e s) :=
  .ite (setPort_orderly _ s) ((setPort_orderly _ s).trans (takeMessage_orderly (fun s => respond_orderly _ _ s) _))

/-- A kind byte of CLEAR. -/
theorem hostKindOf_clear {b : Byte} (h : hostKindOf b = some .clear) : b = 0x06#8 := by
  revert h b; decide

/-- The word a message clears: that of a whole CLEAR message. -/
theorem endMessage_orderly (o : Bool) (n : Nat) (got : List Byte) (b : Byte)
    (hclear : o = false → n = 3 → got.getD 0 0 = 0x06#8 → BitVec.ofNat 16 (u16 (got.drop 1) 0) = w) (s : State) :
    Orderly w s (endMessage o n got b s) := by
  unfold endMessage
  split
  · exact setPort_orderly _ s
  · next ho =>
    refine .ite (endMalformed_orderly _ _ s) ?_
    split
    · next k hk =>
      split
      · next hn =>
        refine (setPort_orderly _ s).trans (takeMessage_orderly (actKind_orderly k _ fun hkind => ?_) _)
        subst hkind
        exact hclear (Bool.eq_false_iff.mpr ho) hn (hostKindOf_clear hk)
      · exact endMalformed_orderly _ _ s
    · exact endMalformed_orderly _ _ s

theorem openMessage_orderly (s : State) : Orderly w s (openMessage s) := by
  unfold openMessage
  split
  · exact setPort_orderly _ s
  · exact .of_start (.flag .portOverrun _) ⟨rfl, rfl, rfl⟩

theorem portByte_orderly (b : Byte) (e : Bool) (s : State)
    (hclear : e = false → ∀ got, s.cp.receiver = .check false 3 got → got.getD 0 0 = 0x06#8 →
      BitVec.ofNat 16 (u16 (got.drop 1) 0) = w) : Orderly w s (portByte b e s) := by
  unfold portByte
  split
  · exact .ite (openMessage_orderly s) (.refl s)
  · exact .ite (setPort_orderly _ s) (endMalformed_orderly _ _ s)
  · exact .ite (endMalformed_orderly _ _ s) (.ite (setPort_orderly _ s) (setPort_orderly _ s))
  · next o n got hr =>
    split
    · exact endMalformed_orderly _ _ s
    · next he =>
      refine endMessage_orderly o n got b (fun ho hn hk => ?_) s
      subst ho hn
      exact hclear (Bool.eq_false_iff.mpr he) got hr hk

theorem portTimeout_orderly (s : State) : Orderly w s (portTimeout s) := by
  unfold portTimeout
  split
  · exact .refl s
  · exact endMalformed_orderly _ _ s
  · exact endMalformed_orderly _ _ s
  · exact endMalformed_orderly _ _ s

theorem responseDone_orderly (s : State) : Orderly w s (responseDone s) := by
  unfold responseDone
  split
  · exact actRestart_orderly s
  · exact .of_eq ⟨rfl, rfl, rfl⟩
  · exact .refl s

end

/-! ### Every command but POWER_UP has it -/

/-- The flag word that a command clears: that of CLEAR, as a command or as its message's last byte. -/
def clearedBy (c : Instr) (s : State) : Word16 :=
  match c, s.cp.receiver with
  | .clear w, _ => w
  | .portByteReceived _ false, .check false 3 got =>
    if got.getD 0 0 = 0x06#8 then BitVec.ofNat 16 (u16 (got.drop 1) 0) else 0
  | _, _ => 0

theorem worked_orderly (c : Instr) (s : State) (hc : c ≠ .powerUp) : Orderly (clearedBy c s) s (worked c s) := by
  cases c with
  | powerUp => exact absurd rfl hc
  | configLoadComplete o => exact completeLoad_orderly o s
  | lineBusy => exact startBit_orderly s
  | lineIdle => exact idleGap_orderly s
  | deferralEnd => exact deferralRunsOut_orderly s
  | frameMark => exact frameMarkPasses_orderly s
  | frameReceived b => exact lastCheckByte_orderly b s
  | collision => exact collisionFound_orderly s
  | attemptSuccess => exact attemptDone_orderly s
  | beaconTimerExpiry => exact beaconTimerOut_orderly s
  | linkSilent => exact silenceTimerOut_orderly s
  | entryQuiet n => exact entryTurnsQuiet_orderly n s
  | expiry n => exact entryExpires_orderly n s
  | clockStep => exact .ite (doStep_orderly s) (.refl s)
  | wrap => exact .ite (doWrap_orderly s) (.refl s)
  | completion => exact computationCompletes_orderly s
  | markDue m => exact markComesDue_orderly m s
  | gatePointReached d => exact gatePointComes_orderly d s
  | windowOpening => exact windowOpens_orderly s
  | extensionLimit => exact extensionRunsOut_orderly s
  | requestExpiry k => exact requestRunsOut_orderly k s
  | detectorInputChange k v => exact detectorChanges_orderly k v s
  | filteredRisingEdge k => exact lineRises_orderly k s
  | filteredFallingEdge k => exact lineFalls_orderly k s
  | stuckOn k => exact lineSticksOn_orderly k s
  | fullEntry d => exact directionFills_orderly d s
  | fullRelease d => exact directionClears_orderly d s
  | cabinetInputChange n v => exact changeInput_orderly _ n s
  | syncRisingEdge => exact syncRises_orderly s
  | syncFallingEdge => exact .ite (changeInput_orderly _ .sync s) (.refl s)
  | preemptRisingEdge => exact preemptRises_orderly s
  | preemptFallingEdge => exact preemptFalls_orderly s
  | pickupTimeout => exact pickupRunsOut_orderly s
  | malformedMessage b => exact takeMessage_orderly (fun s => respond_orderly _ _ s) s
  | messageTimeout => exact portTimeout_orderly s
  | portOverrun => exact .ite (openMessage_orderly s) (.refl s)
  | responseSent => exact responseDone_orderly s
  | status => exact takeMessage_orderly (actKind_orderly .status [] nofun) s
  | table => exact takeMessage_orderly (actKind_orderly .table [] nofun) s
  | counters => exact takeMessage_orderly (actKind_orderly .counters [] nofun) s
  | flags => exact takeMessage_orderly (actKind_orderly .flags [] nofun) s
  | log => exact takeMessage_orderly actLog_orderly s
  | clear w => exact takeMessage_orderly actClear_orderly s
  | mask w => exact takeMessage_orderly (actMask_orderly w) s
  | plan n => exact takeMessage_orderly (actPlan_orderly n) s
  | manual k v => exact takeMessage_orderly (actManual_orderly k v) s
  | release k => exact takeMessage_orderly (actRelease_orderly k) s
  | hold => exact takeMessage_orderly (actKind_orderly .hold [] nofun) s
  | resume => exact takeMessage_orderly actResume_orderly s
  | restart => exact takeMessage_orderly (actKind_orderly .restart [] nofun) s
  | linkByteReceived b e => exact .ite (receiveByte_orderly b e s) (.refl s)
  | portByteReceived b e =>
    refine portByte_orderly b e s fun he got hr hk => ?_
    subst he
    unfold clearedBy
    rw [hr]
    exact (if_pos hk).symm
  | passThroughChange k v | resetAsserted | supplyOutOfRange => exact .of_eq ⟨rfl, rfl, rfl⟩

/-- A unit that does not work keeps its queue, its flags and its attempt, but for POWER_UP. -/
theorem ignored_rest (c : Instr) (s : State) (hc : c ≠ .powerUp) :
    (ignored c s).pending = s.pending ∧ (ignored c s).cp = s.cp ∧ (s.powered = false → (ignored c s).powered = false) := by
  cases c with
  | powerUp => exact absurd rfl hc
  | cabinetInputChange n v => cases n <;> exact ⟨rfl, rfl, id⟩
  | resetAsserted => exact ⟨rfl, rfl, fun _ => rfl⟩
  | supplyOutOfRange => exact ⟨rfl, rfl, fun _ => by simp [ignored, State.powered]⟩
  | _ => exact ⟨rfl, rfl, id⟩

/-- The passing of time sets no timer of the transmitter's law, and no flag. -/
theorem idle_lc_flags (s : State) : (LinkLaw s.lc → LinkLaw (idle s).lc) ∧ (idle s).cp = s.cp := by
  unfold idle
  split
  · split
    · exact ⟨fun h => h.of_eq rfl, rfl⟩
    · exact ⟨id, rfl⟩
  · exact ⟨id, rfl⟩

@[simp] theorem idle_powered (s : State) : (idle s).powered = s.powered := by
  unfold idle
  repeat' split
  all_goals rfl

/-! ### The statements -/

/-- Settles O3: every command answers `worked` or `ignored`, and either leaves the queue alone. -/
theorem everyCommandCompletes : Obligations.EveryCommandCompletes := by
  intro c s
  refine ⟨_, exec_eq c s, ?_⟩
  by_cases hc : c = .powerUp
  · subst hc
    split <;> rfl
  · split
    · exact (worked_orderly c s hc).pending
    · exact (ignored_rest c s hc).1

/-- Settles O19: a working unit's transmitter keeps its law at every operation, and POWER_UP, which alone makes a unit
work, gives it one that obeys it. -/
theorem transmitterLawIsKept : Obligations.TransmitterLawIsKept := by
  intro s t
  refine step_keeps (q := State.LinkObeys) (fun _ _ h => h) (fun c s hpow h ht => ?_) (fun c s hpow _ ht => ?_)
    (fun s h ht => (idle_lc_flags s).1 (h (idle_powered s ▸ ht)))
  · by_cases hc : c = .powerUp
    · subst hc
      exact .initial _
    · exact (worked_orderly c s hc).link (h hpow)
  · by_cases hc : c = .powerUp
    · subst hc
      exact .initial _
    · rw [(ignored_rest c s hc).2.2 hpow] at ht
      cases ht

/-- A flag that a command clears is one of a CLEAR's word. -/
theorem flagIn_clearedBy {f : Flag} {c : Instr} {s : State} (h : flagIn f (clearedBy c s) = true) :
    (∃ w, c = .clear w ∧ w.getLsbD f.bit = true)
      ∨ ∃ b got, c = .portByteReceived b false ∧ s.cp.receiver = .check false 3 got ∧ got.getD 0 0 = 0x06#8
        ∧ (BitVec.ofNat 16 (u16 (got.drop 1) 0)).getLsbD f.bit = true := by
  have hzero : flagIn f 0 ≠ true := by simp [flagIn]
  unfold clearedBy at h
  split at h
  · exact .inl ⟨_, rfl, h⟩
  · next b got hr =>
    split at h
    · next hk => exact .inr ⟨b, got, rfl, hr, hk, h⟩
    · exact absurd h hzero
  · exact absurd h hzero

/-- Settles O42: a flag falls only where POWER_UP is taken or the word of a CLEAR names it. -/
theorem stickyFlagsStaySet : Obligations.StickyFlagsStaySet := by
  intro s t f h hf
  obtain ⟨c, rest, hq, h⟩ | ⟨-, rfl⟩ := step_cases h
  · by_cases hc : c = .powerUp
    · exact .inr (.inl (by simp [hq, hc]))
    · have hstays : flagIn f t.cp.flags = true ∨ flagIn f (clearedBy c { s with pending := rest }) = true := by
        rw [exec_eq] at h
        cases h
        split
        · exact (worked_orderly c _ hc).flags f hf
        · exact .inl (by rw [(ignored_rest c _ hc).2.1]; exact hf)
      refine hstays.imp_right fun hcleared => .inr ?_
      obtain ⟨w, rfl, hw⟩ | ⟨b, got, rfl, hr, hk, hw⟩ := flagIn_clearedBy hcleared
      · exact .inl ⟨w, by simp [hq], hw⟩
      · exact .inr ⟨b, got, by simp [hq], hr, hk, hw⟩
  · exact .inl (by rw [(idle_lc_flags s).2]; exact hf)

end Sys2Proof.Machine

/-! ## The machine, its resets and the cabinet port (chapter Cabinet Port, section 10.1)

What a command does is read off `worked`; a whole message acts on the unit whose port's receiver is back in WAIT. -/

namespace Sys2Proof.Machine

/-- What a command does on a working unit is what its operation gives. -/
theorem exec_of_worked {c : Instr} {s t : State} (h : s.powered = true) (ht : worked c s = t) : exec c s = .next t := by
  rw [exec_worked c h, ht]

theorem powered_iff {s : State} : s.powered = true ↔ s.resetHeld = false ∧ s.supplyOut = false := by
  simp [State.powered]

theorem config_good {s : State} {c : Configuration} (h : s.cl = .good c) : s.config = some c := by
  simp [State.config, h]

theorem config_none {s : State} (h : ∀ c, s.cl ≠ .good c) : s.config = none := by
  unfold State.config
  split
  · next c hc => exact absurd hc (h c)
  · rfl
  · rfl

/-! ### The passing of time -/

theorem step_empty {s : State} (h : s.pending = []) : step s = .next (idle s) := by
  simp only [step, h]

theorem idle_unpowered {s : State} (h : s.powered = false) : idle s = s := by
  simp [idle, h]

theorem idle_due {s : State} (h : s.powered = true) (hdue : dueNow s ≠ []) : idle s = { s with pending := dueNow s } := by
  simp [idle, h, hdue]

theorem idle_passes {s : State} (h : s.powered = true) (hdue : dueNow s = []) : idle s = tick s := by
  simp [idle, h, hdue]

theorem countDown_eq (t : Option Nat) : countDown t = t.map (· - 1) := by
  match t with
  | none => rfl
  | some 0 => rfl
  | some (n + 1) => rfl

theorem pickupTick_eq (m : MC) :
    pickupTick m = { m with pickupElapsed := if m.mode = .pickup then m.pickupElapsed + 1 else m.pickupElapsed } := by
  unfold pickupTick
  split <;> rfl

theorem clockCommand_eq (t : CT) : clockCommand t = if t.running then
    (if t.extension ≠ .running ∧ t.cRun ≤ t.position + 1 then [Instr.wrap] else [Instr.clockStep]) else [] := by
  unfold clockCommand
  split
  · next h => simp [wrapDue, h]
  · rfl

theorem roleUsed_iff {r : Role} : roleUsed r = true ↔ r ≠ .unused := by
  cases r <;> decide

theorem lineTick_used {d : DetectorSetting} (h : d.role ≠ .unused) (l : DetectorLine) : lineTick d l =
    if l.occupied then { l with occupiedRun := min (l.occupiedRun + 1) 65535 }
    else { l with vacantRun := min (l.vacantRun + 1) 65535 } := by
  rw [lineTick, if_pos (roleUsed_iff.mpr h)]
  rfl

/-- Settles O2: the three ways of `idle`, and the fields of `tick`. -/
theorem emptyQueueLetsTimePass : Obligations.EmptyQueueLetsTimePass := by
  intro s hq
  refine ⟨fun h => ?_, fun h hdue => ?_, fun h hdue => ⟨tick s, ?_, ?_⟩⟩
  · rw [step_empty hq, idle_unpowered h]
  · rw [step_empty hq, idle_due h hdue]
  · rw [step_empty hq, idle_passes h hdue]
  · refine ⟨?_, rfl, rfl, pickupTick_eq s.mc, clockCommand_eq s.ct, fun c k hc hk => ?_, rfl, rfl, rfl, rfl, rfl, rfl, rfl⟩
    · simp only [tick, countDown_eq]
    · simp only [tick, linesTick, hc, Eight.get_mapNum]
      exact lineTick_used hk _

/-! ### A unit that does not work, and the resets -/

/-- Settles O4, command by command. -/
theorem unpoweredUnitIgnores : Obligations.UnpoweredUnitIgnores := by
  intro c s h
  cases c with
  | powerUp => trivial
  | cabinetInputChange n v => cases n <;> exact exec_ignored _ h
  | _ => exact exec_ignored _ h

theorem outputs_silent {s : State} (h : s.powered = false) :
    (∀ k, s.outputLevel k = false) ∧ s.alertOutput = false ∧ s.chargeOutput = false :=
  ⟨fun k => by simp [State.outputLevel, h], by simp [State.alertOutput, h], by simp [State.chargeOutput, h]⟩

/-- Settles O7: either condition takes the unit out of work. -/
theorem resetAndSupplySilenceOutputs : Obligations.ResetAndSupplySilenceOutputs := by
  refine fun s => ⟨rfl, rfl, fun t ht => outputs_silent ?_⟩
  rcases ht with ht | ht
  · cases ht
    exact Bool.and_eq_false_iff.mpr (.inl rfl)
  · cases ht
    exact Bool.and_eq_false_iff.mpr (.inr rfl)

/-- Settles O6: both are `resetBlocks`. -/
theorem powerUpAndRestartResetTheUnit : Obligations.PowerUpAndRestartResetTheUnit := by
  refine ⟨fun s => rfl, fun s h hhand => ?_⟩
  obtain ⟨hreset, hsupply⟩ := powered_iff.mp h
  refine ⟨actRestart s, _, exec_of_worked h ?_, rfl, ?_, ?_⟩
  · simp only [worked, responseDone, hhand]
  · simp only [actRestart, resetBlocks, hreset, hsupply]
    rfl
  · rfl

/-! ### Messages of the cabinet port -/

theorem takeMessage_free {s : State} (h : s.cp.inHand = none) (act : State → State) :
    takeMessage act s = act (setPort .wait s) := by
  simp [takeMessage, h]

theorem takeMessage_busy {s : State} (h : s.cp.inHand ≠ none) (act : State → State) : takeMessage act s = s := by
  unfold takeMessage
  split
  · next hnone => exact absurd hnone h
  · rfl

theorem setPort_setPort (q r : PortReceiver) (s : State) : setPort q (setPort r s) = setPort q s := rfl

theorem takeMessage_setPort (act : State → State) (s : State) (h : s.cp.inHand = none) :
    takeMessage act (setPort .wait s) = takeMessage act s := by
  rw [takeMessage_free h, takeMessage_free (by simpa using h), setPort_setPort]


theorem ofNumber_toNat (k : Num8) : Num8.ofNumber k.toNat = some k := by cases k <;> rfl

theorem ofNumber_none {n : Nat} (h : n = 0 ∨ 8 < n) : Num8.ofNumber n = none := by
  unfold Num8.ofNumber
  split
  case h_9 => rfl
  all_goals omega

theorem manualLevel_eq {b : Byte} {v : Bool} (h : b.toNat = if v then 1 else 0) : manualLevel b = some v := by
  have hb : b = BitVec.ofNat 8 (if v then 1 else 0) := BitVec.eq_of_toNat_eq (by cases v <;> simp_all)
  cases v <;> simp [manualLevel, hb]

theorem manualLevel_none {b : Byte} (h : 1 < b.toNat) : manualLevel b = none := by
  have h0 : b ≠ 0#8 := fun e => by simp [e] at h
  have h1 : b ≠ 1#8 := fun e => by simp [e] at h
  simp [manualLevel, h0, h1]

/-- Settles O55, by the line and the level that the bytes name. -/
theorem manualAndReleasePinLines : Obligations.ManualAndReleasePinLines := by
  intro s line level h hfree
  refine ⟨fun k hk => ⟨fun v hv => exec_of_worked h ?_, exec_of_worked h ?_⟩,
    fun hbad => exec_of_worked h ?_, fun hbad => exec_of_worked h ?_⟩
  · rw [worked, takeMessage_free hfree, actManual, ← hk, ofNumber_toNat, manualLevel_eq hv]
    rfl
  · rw [worked, takeMessage_free hfree, actRelease, ← hk, ofNumber_toNat]
    rfl
  · rw [worked, takeMessage_free hfree, actManual]
    rcases hbad with hbad | hbad | hbad
    · rw [ofNumber_none (.inl hbad)]; rfl
    · rw [ofNumber_none (.inr hbad)]; rfl
    · rw [manualLevel_none hbad]
      cases Num8.ofNumber line.toNat <;> rfl
  · rw [worked, takeMessage_free hfree, actRelease, ofNumber_none hbad]
    rfl

theorem namesNoFlag_eq (w : Word16) : namesNoFlag w = decide (16384 ≤ w.toNat) := by
  have hw := w.isLt
  have h15 : w.getLsbD 15 = decide (32768 ≤ w.toNat) := by
    simp only [BitVec.getLsbD, Nat.testBit_eq_decide_div_mod_eq]
    exact decide_eq_decide.mpr (by omega)
  have h14 : w.getLsbD 14 = decide (w.toNat / 16384 % 2 = 1) := by
    simp only [BitVec.getLsbD, Nat.testBit_eq_decide_div_mod_eq]
  rw [namesNoFlag, h14, h15, ← Bool.decide_or]
  exact decide_eq_decide.mpr (by omega)

theorem and_ne_zero_iff (v w : Word16) : v &&& w ≠ 0 ↔ ∃ i, v.getLsbD i = true ∧ w.getLsbD i = true := by
  constructor
  · intro h
    by_contra hnone
    refine h (BitVec.eq_of_getLsbD_eq fun i _ => ?_)
    have hbits : ¬ (v.getLsbD i = true ∧ w.getLsbD i = true) := fun hi => hnone ⟨i, hi⟩
    rw [BitVec.getLsbD_and, Bool.eq_false_iff.mpr (fun e => hbits (Bool.and_eq_true _ _ ▸ e))]
    exact BitVec.getLsbD_zero.symm
  · rintro ⟨i, hv, hw⟩ h
    have hbit := congrArg (fun x : Word16 => x.getLsbD i) h
    simp [hv, hw] at hbit

/-- Settles O56, command by command. -/
theorem hostReadsAndFlags : Obligations.HostReadsAndFlags := by
  refine ⟨fun s h hfree => ⟨?_, ?_, ?_, ?_, _, exec_of_worked h rfl, ?_, ?_⟩, fun s h hfree => ⟨fun hlog => ?_, ?_⟩,
    fun s w h hfree => ⟨fun hw => ⟨?_, ?_⟩, fun hw => ⟨exec_of_worked h ?_, exec_of_worked h ?_⟩, ?_⟩⟩
  iterate 4 exact exec_of_worked h (takeMessage_free hfree _)
  · exact takeMessage_free hfree _
  · rw [worked, takeMessage_free hfree]
    exact exec_of_worked h rfl
  · refine exec_of_worked h ((takeMessage_free hfree _).trans ?_)
    simp only [actLog, setPort_cp, hlog]
    rfl
  · rintro r rest u hlog rfl
    refine exec_of_worked h ((takeMessage_free hfree _).trans ?_)
    simp only [actLog, setPort_cp, hlog]
    rfl
  · rintro u rfl
    refine exec_of_worked h ((takeMessage_free hfree _).trans ?_)
    rw [actClear, namesNoFlag_eq, if_neg (by simpa using hw)]
    rfl
  · rintro u rfl
    refine exec_of_worked h ((takeMessage_free hfree _).trans ?_)
    rw [actMask, namesNoFlag_eq, if_neg (by simpa using hw)]
    rfl
  · rw [worked, takeMessage_free hfree, actClear, namesNoFlag_eq, if_pos (by simpa using hw)]
    rfl
  · rw [worked, takeMessage_free hfree, actMask, namesNoFlag_eq, if_pos (by simpa using hw)]
    rfl
  · simp only [State.alertOutput, h, Bool.true_and, decide_eq_true_eq]
    exact and_ne_zero_iff _ _

/-! ### The receiver of the cabinet port, byte by byte -/

theorem inRange_iff {n lo hi : Nat} : inRange n lo hi = true ↔ lo ≤ n ∧ n ≤ hi := by simp [inRange]

/-- A malformed message that is no overrun is refused where the port is free. -/
theorem endMalformed_refused {s : State} (h : s.cp.inHand = none) (e : Byte) :
    endMalformed false e s = s.answers .refused (responseBytes 0x82 e [1]) := by
  rw [endMalformed, if_neg (by decide), takeMessage_setPort _ _ h, takeMessage_free h]
  rfl

theorem portByte_wait {s : State} (h : s.cp.receiver = .wait) (b : Byte) (e : Bool) :
    portByte b e s = if e = false ∧ b = 0x5A#8 then openMessage s else s := by
  rw [portByte, h]

theorem portByte_length {s : State} {o : Bool} (h : s.cp.receiver = .length o) (b : Byte) (e : Bool) :
    portByte b e s = if e = false ∧ 1 ≤ b.toNat ∧ b.toNat ≤ 3 then setPort (.body o b.toNat []) s
      else endMalformed o 0 s := by
  simp only [portByte, h, inRange_iff]

theorem portByte_body {s : State} {o : Bool} {n : Nat} {got : List Byte} (h : s.cp.receiver = .body o n got) (b : Byte) :
    portByte b false s = setPort (if got.length + 1 < n then .body o n (got ++ [b]) else .check o n (got ++ [b])) s
      ∧ portByte b true s = endMalformed o (echoOf got) s := by
  simp only [portByte, h]
  refine ⟨?_, rfl⟩
  by_cases hn : got.length + 1 < n
  · simp [hn, Nat.not_le.mpr hn]
  · simp [hn, Nat.not_lt.mp hn]

theorem portByte_check {s : State} {o : Bool} {n : Nat} {got : List Byte} (h : s.cp.receiver = .check o n got) (b : Byte) :
    portByte b false s = endMessage o n got b s ∧ portByte b true s = endMalformed o (echoOf got) s := by
  simp only [portByte, h]
  exact ⟨rfl, rfl⟩

theorem openMessage_busy {s : State} (h : s.cp.inHand ≠ none) :
    openMessage s = setFlag .portOverrun (count .portOverrun (setPort (.length true) s)) := by
  unfold openMessage
  split
  · next hnone => exact absurd hnone h
  · rfl

/-- Settles O58, receive state by receive state. -/
theorem portReceiverMovesByteByByte : Obligations.PortReceiverMovesByteByByte := by
  intro s b e u h hu
  have hu' : ∀ x, u x = setPort x s := hu
  refine ⟨fun hr => ⟨fun hb => ?_, fun hb he hfree => ?_, fun hbusy t ht => ?_⟩, fun o hr he hlo hhi => ?_,
    fun o n got hr he => ?_, fun n got hr => ?_, fun n got hr => ?_, fun hr hb => ?_⟩
  · refine exec_of_worked h ((portByte_wait hr b e).trans (if_neg ?_))
    rintro ⟨he, rfl⟩
    simp [he] at hb
  · refine exec_of_worked h ((portByte_wait hr b e).trans ?_)
    rw [if_pos ⟨he, hb⟩, openMessage, hfree, hu']
  · have hover : openMessage s = t := (openMessage_busy hbusy).trans ht.symm
    refine ⟨exec_of_worked h ?_, fun hb he => exec_of_worked h ?_⟩
    · rw [worked, startByteOverruns, if_pos ⟨hr, Option.isSome_iff_ne_none.mpr hbusy⟩, hover]
    · rw [worked, portByte_wait hr, if_pos ⟨he, hb⟩, hover]
  · rw [hu']
    exact exec_of_worked h ((portByte_length hr b e).trans (if_pos ⟨he, hlo, hhi⟩))
  · rw [hu', he]
    exact exec_of_worked h (portByte_body hr b).1
  · rw [hu']
    cases e with
    | false => exact exec_of_worked h (portByte_check hr b).1
    | true => exact exec_of_worked h (portByte_check hr b).2
  · rw [hu']
    rcases hr with hr | hr | hr
    · exact ⟨exec_of_worked h (by simp only [worked, portTimeout, hr]; rfl),
        exec_of_worked h ((portByte_length hr b true).trans (if_neg (by simp)))⟩
    · exact ⟨exec_of_worked h (by simp only [worked, portTimeout, hr]; rfl), exec_of_worked h (portByte_body hr b).2⟩
    · exact ⟨exec_of_worked h (by simp only [worked, portTimeout, hr]; rfl), exec_of_worked h (portByte_check hr b).2⟩
  · rw [hu']
    exact exec_of_worked h ((portByte_length hr b e).trans (if_neg (by omega)))

/-- A well-formed message that is no overrun acts as its kind does. -/
theorem endMessage_acts {s : State} (h : s.cp.inHand = none) {n : Nat} {got : List Byte} {b : Byte} {k : HostKind}
    (hsum : byteSum (put8 n ++ got ++ [b]) = 0) (hk : hostKindOf (echoOf got) = some k) (hn : n = hostKindLength k) :
    endMessage false n got b s = takeMessage (actKind k (got.drop 1)) s := by
  simp only [endMessage, if_neg (not_not_intro hsum), hk, if_pos hn, if_false, Bool.false_eq_true]
  exact takeMessage_setPort _ _ h

/-- A message whose sum, kind or length is wrong is malformed. -/
theorem endMessage_malformed {s : State} {n : Nat} {got : List Byte} {b : Byte}
    (hbad : byteSum (put8 n ++ got ++ [b]) ≠ 0 ∨ hostKindOf (echoOf got) = none
      ∨ ∀ k, hostKindOf (echoOf got) = some k → n ≠ hostKindLength k) :
    endMessage false n got b s = endMalformed false (echoOf got) s := by
  by_cases hsum : byteSum (put8 n ++ got ++ [b]) = 0
  · cases hk : hostKindOf (echoOf got) with
    | none => simp only [endMessage, if_neg (not_not_intro hsum), hk, if_false, Bool.false_eq_true]
    | some k =>
      have hn : n ≠ hostKindLength k := by
        rcases hbad with hbad | hbad | hbad
        · exact absurd hsum hbad
        · simp [hk] at hbad
        · exact hbad k hk
      simp only [endMessage, if_neg (not_not_intro hsum), hk, if_neg hn, if_false, Bool.false_eq_true]
  · simp only [endMessage, if_pos hsum, if_false, Bool.false_eq_true]

theorem word_of_append (hi lo : Byte) : BitVec.ofNat 16 (u16 [hi, lo] 0) = hi ++ lo := by
  apply BitVec.eq_of_toNat_eq
  have hh := hi.isLt
  have hl := lo.isLt
  rw [BitVec.toNat_append, ← Nat.shiftLeft_add_eq_or_of_lt hl, Nat.shiftLeft_eq]
  simp only [u16, u8, List.getD_cons_zero, List.getD_cons_succ, BitVec.toNat_ofNat]
  omega

/-- Settles O59: the thirteen kinds, each with the length of its row. -/
theorem messageIsItsCommand : Obligations.MessageIsItsCommand := by
  intro s check hi lo n args kind i h hfree hr hn hsum hrow
  have key : ∀ k, hostKindOf kind = some k → n = hostKindLength k →
      exec (.portByteReceived check false) s = .next (takeMessage (actKind k args) s) := fun k hk hlen =>
    exec_of_worked h ((portByte_check hr check).1.trans (endMessage_acts hfree hsum hk hlen))
  rcases hrow with ⟨rfl, rfl, rfl⟩ | ⟨rfl, rfl, rfl⟩ | ⟨rfl, rfl, rfl⟩ | ⟨rfl, rfl, rfl⟩ | ⟨rfl, rfl, rfl⟩
    | ⟨rfl, rfl, rfl⟩ | ⟨rfl, rfl, rfl⟩ | ⟨rfl, rfl, rfl⟩ | ⟨rfl, rfl, rfl⟩ | ⟨rfl, rfl, rfl⟩ | ⟨rfl, rfl, rfl⟩
    | ⟨rfl, rfl, rfl⟩ | ⟨rfl, rfl, rfl⟩
  case inr.inr.inr.inr.inr.inl =>
    rw [key .clear rfl hn, exec_worked _ h, worked, ← word_of_append]
    rfl
  case inr.inr.inr.inr.inr.inr.inl =>
    rw [key .mask rfl hn, exec_worked _ h, worked, ← word_of_append]
    rfl
  all_goals rw [key _ rfl hn, exec_worked _ h]; rfl

/-- Settles O60: each of these ends is `endMalformed` on a free port. -/
theorem malformedMessageIsRefused : Obligations.MalformedMessageIsRefused := by
  refine ⟨fun s b u h hfree hu => ?_, fun s k h hk hnot => exec_of_worked h ?_⟩
  · have hend : ∀ e, endMalformed false e s = u e := fun e => (endMalformed_refused hfree e).trans (hu e).symm
    refine ⟨fun kind => exec_of_worked h ?_, fun hr => ⟨exec_of_worked h ?_, exec_of_worked h ?_, fun hb => ?_⟩,
      fun n got hr => ?_, fun n got hr hbad => ?_⟩
    · rw [worked, takeMessage_free hfree, hu]
      rfl
    · simp only [worked, portTimeout, hr, hend]
    · rw [worked, portByte_length hr, if_neg (by simp), hend]
    · exact exec_of_worked h ((portByte_length hr b false).trans ((if_neg (by omega)).trans (hend 0)))
    · rcases hr with hr | hr
      · exact ⟨exec_of_worked h (by simp only [worked, portTimeout, hr, hend]; rfl),
          exec_of_worked h ((portByte_body hr b).2.trans (hend _))⟩
      · exact ⟨exec_of_worked h (by simp only [worked, portTimeout, hr, hend]; rfl),
          exec_of_worked h ((portByte_check hr b).2.trans (hend _))⟩
    · exact exec_of_worked h ((portByte_check hr b).1.trans ((endMessage_malformed hbad).trans (hend _)))
  · simp only [worked, responseDone, hk]

end Sys2Proof.Machine

/-! ## The arterial link: line, receiver and requests (chapter The Arterial Link) -/

namespace Sys2Proof.Machine

/-! ### The beginning of a deferral -/

/-- The frame that goes first (R14): DEPART before STORAGE and STORAGE before BEACON. -/
theorem chooseFrame_eq {l : LC} {k : FrameKind} (h : k = .depart ∧ l.depart ≠ none
    ∨ k = .storage ∧ l.depart = none ∧ l.storage = true
    ∨ k = .beacon ∧ l.depart = none ∧ l.storage = false ∧ l.beacon = true) : chooseFrame l = some k := by
  rcases h with ⟨rfl, hd⟩ | ⟨rfl, hd, hs⟩ | ⟨rfl, hd, hs, hb⟩
  · simp [chooseFrame, Option.isSome_iff_ne_none.mpr hd]
  · simp [chooseFrame, hd, hs]
  · simp [chooseFrame, hd, hs, hb]

theorem chooseFrame_none {l : LC} (hd : l.depart = none) (hs : l.storage = false) (hb : l.beacon = false) :
    chooseFrame l = none := by
  simp [chooseFrame, hd, hs, hb]

theorem contentionCount_eq {l : LC} {kind : FrameKind} {k : Nat}
    (h : l.contention = some ⟨kind, k⟩ ∨ (∀ c, l.contention = some c → c.kind ≠ kind) ∧ k = 1) :
    contentionCount l kind = k := by
  rcases h with h | ⟨h, rfl⟩
  · simp [contentionCount, h]
  · unfold contentionCount
    split
    · next c hc => exact if_neg (h c hc)
    · rfl

theorem advanceGenerator_eq (g : Word16) :
    advanceGenerator g = BitVec.ofNat 16 ((g.toNat * 25173 + 13849) % 65536) := by
  apply BitVec.eq_of_toNat_eq
  simp [advanceGenerator]

theorem drawWidth_eq (kind : FrameKind) (k : Nat) :
    drawWidth kind k = min ((if kind = .beacon then 16 else 4) * 2 ^ (k - 1)) 64 := by
  cases kind <;> rfl

theorem deferralSlots_eq (kind : FrameKind) (n : Nat) :
    deferralSlots kind n = (if kind = .beacon then 4 else 0) + n := by
  cases kind <;> simp [deferralSlots]

/-- What the beginning of a deferral makes of the Link Controller (R14, R15). -/
theorem beginDeferral_eq {l : LC} {kind : FrameKind} {k : Nat} (hkind : chooseFrame l = some kind)
    (hk : l.contention = some ⟨kind, k⟩ ∨ (∀ c, l.contention = some c → c.kind ≠ kind) ∧ k = 1) {g : Word16}
    (hg : g = BitVec.ofNat 16 ((l.generator.toNat * 25173 + 13849) % 65536)) {w : Nat}
    (hw : w = min ((if kind = .beacon then 16 else 4) * 2 ^ (k - 1)) 64) :
    beginDeferral l = { l with
      contention := some ⟨kind, k⟩, generator := g,
      deferral := some ⟨kind, (if kind = .beacon then 4 else 0) + g.toNat * w / 65536⟩ } := by
  simp only [beginDeferral, hkind, contentionCount_eq hk, advanceGenerator_eq, ← hg, drawWidth_eq, ← hw, deferralSlots_eq,
    drawFrom]

theorem beginDeferral_nothing {l : LC} (h : chooseFrame l = none) : beginDeferral l = l := by
  simp [beginDeferral, h]

/-- A deferral that begins changes no more than the contention, the generator and the deferral. -/
theorem beginDeferral_rest (l : LC) : beginDeferral l = { l with
    contention := (beginDeferral l).contention, generator := (beginDeferral l).generator,
    deferral := (beginDeferral l).deferral } := by
  unfold beginDeferral
  split <;> rfl

theorem deferWhenIdle_begins {l : LC} (hline : l.line = .idle) (hdef : l.deferral = none) (hatt : l.attempt = none) :
    deferWhenIdle l = beginDeferral l := if_pos ⟨hline, hdef, hatt⟩

theorem deferWhenIdle_waits {l : LC} (h : l.line = .busy ∨ l.deferral ≠ none ∨ l.attempt ≠ none) :
    deferWhenIdle l = l := by
  refine if_neg ?_
  rintro ⟨hline, hdef, hatt⟩
  rcases h with h | h | h
  · simp [hline] at h
  · exact h hdef
  · exact h hatt

theorem deferWhenIdle_rest (l : LC) : deferWhenIdle l = { l with
    contention := (deferWhenIdle l).contention, generator := (deferWhenIdle l).generator,
    deferral := (deferWhenIdle l).deferral } := by
  unfold deferWhenIdle
  split
  · exact beginDeferral_rest l
  · rfl

/-! ### The line going idle -/

theorem idleGap_eq {s u : State} (h : s.lc.attempt = none) (hu : cutShort { s with lc := { s.lc with line := .idle } } = u) :
    idleGap s = { u with lc := deferWhenIdle u.lc } := by
  subst hu
  exact if_pos h

theorem cutShort_before_mark {s : State} (h : s.lc.receiver = .hunt ∨ s.lc.receiver = .start2) : cutShort s = s := by
  rcases h with h | h
  · simp only [cutShort, h]
  · simp only [cutShort, h]

theorem cutShort_after_mark {s : State} (h : ∃ c, s.lc.receiver = .length c
    ∨ (∃ n got, s.lc.receiver = .body c n got) ∨ ∃ n got f, s.lc.receiver = .check c n got f) :
    cutShort s = discardFrame s := by
  obtain ⟨c, h | ⟨n, got, h⟩ | ⟨n, got, f, h⟩⟩ := h
  · simp only [cutShort, h]
  · simp only [cutShort, h]
  · simp only [cutShort, h]

theorem idleGap_before_mark {s : State} (h : s.lc.attempt = none)
    (hr : s.lc.receiver = .hunt ∨ s.lc.receiver = .start2) {m : LC}
    (hm : deferWhenIdle { s.lc with line := .idle } = m) : idleGap s = { s with lc := m } := by
  subst hm
  exact idleGap_eq h (cutShort_before_mark hr)

/-- Settles O12, by the cases of `idleGap` and of the beginning of a deferral. -/
theorem lineStateAndDeferral : Obligations.LineStateAndDeferral := by
  refine ⟨fun s h => exec_of_worked h rfl, fun s h hatt hdef hr => ⟨fun hd hs hb => exec_of_worked h ?_, ?_⟩,
    fun s h hatt hr => ⟨_, exec_of_worked h rfl, ?_⟩, fun s d h hline hatt hd => exec_of_worked h ?_⟩
  · refine idleGap_before_mark hatt hr ((deferWhenIdle_begins rfl ?_ ?_).trans (beginDeferral_nothing ?_))
    exacts [hdef, hatt, chooseFrame_none hd hs hb]
  · intro kind k g w hkind hk hg hw
    refine exec_of_worked h (idleGap_before_mark hatt hr
      ((deferWhenIdle_begins rfl ?_ ?_).trans (beginDeferral_eq (chooseFrame_eq ?_) ?_ ?_ hw)))
    exacts [hdef, hatt, hkind, hk, hg]
  · rw [worked, idleGap_eq hatt (cutShort_after_mark hr)]
    exact ⟨rfl, deferWhenIdle_rest _⟩
  · rw [worked, deferralRunsOut, if_pos ⟨hline, hatt⟩, startAttempt, hd]

/-! ### The timers and the requests -/

theorem fillBeacon_held {l : LC} (h : l.beacon = true) :
    fillBeacon l = { l with beaconRenewal := l.beaconRenewal || pastMark l .beacon } := by
  rw [fillBeacon, if_pos h]
  split
  · next hp => simp [hp]
  · next hp => simp [hp]

theorem fillStorage_held {l : LC} (h : l.storage = true) :
    fillStorage l = { l with storageRenewal := l.storageRenewal || pastMark l .storage } := by
  rw [fillStorage, if_pos h]
  split
  · next hp => simp [hp]
  · next hp => simp [hp]

theorem fillDepart_held {l : LC} (h : l.depart.isSome = true) (r : DepartReason) :
    fillDepart r l = { l with depart := some r, departRenewal := l.departRenewal || pastMark l .depart } := if_pos h

theorem fillBeacon_empty {l : LC} (h : l.beacon = false) : fillBeacon l = deferWhenIdle { l with beacon := true } := by
  simp [fillBeacon, h]

theorem fillStorage_empty {l : LC} (h : l.storage = false) :
    fillStorage l = deferWhenIdle { l with storage := true } := by
  simp [fillStorage, h]

theorem fillDepart_empty {l : LC} (h : l.depart = none) (r : DepartReason) :
    fillDepart r l = deferWhenIdle { l with depart := some r } := by
  simp [fillDepart, h]

/-- Settles O18: the two timers, and the filling of a slot as `deferWhenIdle` of the slot filled. -/
theorem linkTimersAndRequests : Obligations.LinkTimersAndRequests := by
  refine ⟨fun s c h hc hin hz => exec_of_worked h ?_, fun s h hz => exec_of_worked h ?_,
    fun l r => ⟨fillBeacon_held, fillStorage_held, fun h => fillDepart_held h r, fun u t hut => ?_⟩⟩
  · rw [worked, beaconTimerOut, config_good hc]
    exact (if_pos ⟨hin, hz⟩).trans (if_pos hin)
  · rw [worked, silenceTimerOut, if_pos hz]
    rfl
  · have hfill : t = deferWhenIdle u ∧ u.line = l.line ∧ u.deferral = l.deferral ∧ u.attempt = l.attempt
        ∧ u.contention = l.contention ∧ u.generator = l.generator
        ∧ (u.depart = none → u.storage = false → u.beacon = true) := by
      rcases hut with ⟨he, rfl, rfl⟩ | ⟨he, rfl, rfl⟩ | ⟨he, rfl, rfl⟩
      · exact ⟨fillBeacon_empty he, rfl, rfl, rfl, rfl, rfl, fun _ _ => rfl⟩
      · exact ⟨fillStorage_empty he, rfl, rfl, rfl, rfl, rfl, fun _ h => nomatch h⟩
      · exact ⟨fillDepart_empty he r, rfl, rfl, rfl, rfl, rfl, fun h => nomatch h⟩
    obtain ⟨rfl, hline, hdef, hatt, hcont, hgen, hfirst⟩ := hfill
    refine ⟨fun hw => deferWhenIdle_waits (by rwa [hline, hdef, hatt]), ?_⟩
    intro hidle hnodef hnoatt kind k g w hkind hk hg hw
    rw [deferWhenIdle_begins (hline.trans hidle) (hdef.trans hnodef) (hatt.trans hnoatt)]
    refine beginDeferral_eq (chooseFrame_eq ?_) (hcont ▸ hk) (hgen ▸ hg) hw
    rcases hkind with hkind | hkind | ⟨rfl, hd, hs⟩
    · exact .inl hkind
    · exact .inr (.inl hkind)
    · exact .inr (.inr ⟨rfl, hd, hs, hfirst hd hs⟩)

/-! ### The receiver, byte by byte -/

theorem receiverActive_of_good {s : State} {c : Configuration} (hc : s.cl = .good c) (h : s.lc.attempt = none) :
    receiverActive s = true := by
  simp [receiverActive, config_good hc, h]

theorem frameMarkPasses_receives {s : State} (hactive : receiverActive s = true) (h : s.lc.attempt = none)
    (hr : s.lc.receiver = .start2) : frameMarkPasses s = receivedMark s := by
  simp only [frameMarkPasses, h]
  exact if_pos (show receiverActive s = true ∧ s.lc.receiver = .start2 from ⟨hactive, hr⟩)

theorem receiveByte_hunt {s : State} (hr : s.lc.receiver = .hunt) (b : Byte) (e : Bool) :
    receiveByte b e s = setReceiver (if b = 0xA5 ∧ e = false then .start2 else .hunt) s := by
  simp only [receiveByte, hr]
  by_cases hb : b = 0xA5 ∧ e = false
  · rw [if_pos hb]
    exact if_pos hb.symm
  · rw [if_neg hb, ← hr]
    exact if_neg fun h => hb h.symm

theorem receiveByte_start2 {s : State} (hr : s.lc.receiver = .start2) (b : Byte) (e : Bool) :
    receiveByte b e s = setReceiver (if e then .hunt else if b = 0x3C then .length ⟨s.ct.position, s.ct.wrapCount⟩
      else if b = 0xA5 then .start2 else .hunt) s := by
  simp only [receiveByte, hr]
  cases e with
  | true => rfl
  | false =>
    by_cases hmark : b = 0x3C
    · simp only [hmark, Bool.false_eq_true, if_false, if_true]
      rfl
    · by_cases hstart : b = 0xA5
      · rw [if_neg (fun h => hmark h.2), if_pos ⟨rfl, hstart⟩, if_neg (by decide), if_neg hmark, if_pos hstart, ← hr]
        rfl
      · rw [if_neg (fun h => hmark h.2), if_neg (fun h => hstart h.2), if_neg (by decide), if_neg hmark, if_neg hstart]

/-- Settles O14, receive state by receive state. -/
theorem receiverMovesByteByByte : Obligations.ReceiverMovesByteByByte := by
  intro s c b e h hc hatt
  have hactive := receiverActive_of_good hc hatt
  have hbyte : ∀ t, receiveByte b e s = t → exec (.linkByteReceived b e) s = .next t := fun t ht =>
    exec_of_worked h ((if_pos hactive).trans ht)
  refine ⟨fun hr => hbyte _ ?_, fun hr => ⟨hbyte _ ?_, exec_of_worked h ?_⟩, fun k hr he hlo hhi => hbyte _ ?_,
    fun k n got hr he => hbyte _ ?_, fun k n got hr he => hbyte _ ?_, fun k n got f hr he => ?_, ?_⟩
  · exact receiveByte_hunt hr b e
  · exact receiveByte_start2 hr b e
  · exact frameMarkPasses_receives hactive hatt hr
  · simp only [receiveByte, hr]
    rw [if_pos ⟨he, inRange_iff.mpr ⟨hlo, hhi⟩⟩]
    rfl
  · simp only [receiveByte, hr, he, Bool.false_eq_true, if_false]
    by_cases hn : got.length + 1 < n
    · rw [if_neg (Nat.not_le.mpr hn), if_pos hn]
      rfl
    · rw [if_pos (Nat.not_lt.mp hn), if_neg hn]
      rfl
  · simp only [receiveByte, hr, he, Bool.false_eq_true, if_false]
    rfl
  · refine (hbyte _ rfl).trans (exec_of_worked h ?_).symm
    simp only [worked, lastCheckByte, hactive, receiveByte, hr, he, Bool.false_eq_true, if_false]
  · rintro ⟨k, hbad⟩
    refine hbyte (discardFrame s) ?_
    rcases hbad with ⟨hr, hbad⟩ | ⟨n, got, hr, rfl⟩ | ⟨n, got, f, hr, rfl⟩
    · simp only [receiveByte, hr]
      refine if_neg ?_
      rintro ⟨he, hb⟩
      have := inRange_iff.mp hb
      rcases hbad with hbad | hbad | hbad
      · simp [he] at hbad
      · omega
      · omega
    · simp only [receiveByte, hr, if_true]
    · simp only [receiveByte, hr, if_true]

end Sys2Proof.Machine

/-! ## Frames on the arterial link: laid out, read, and read back (sections 1.2 and 1.3) -/

namespace Sys2Proof.Machine

/-! ### The check and the frames the unit sends -/

theorem crcBit_eq (r : Word16) (b : Bool) :
    crcBit r b = if r.getLsbD 15 = b then r <<< 1 else (r <<< 1) ^^^ 0x1021#16 := by
  by_cases h : r.getLsbD 15 = b
  · rw [crcBit, if_pos h, if_neg (by simpa using h)]
  · rw [crcBit, if_neg h, if_pos (by simpa using h)]

theorem crc16_append (bytes : List Byte) (b : Byte) : crc16 (bytes ++ [b]) = crcByte (crc16 bytes) b := by
  simp [crc16, List.foldl_append]

theorem crcByte_eq (reg : Word16) (b : Byte) : crcByte reg b = [7, 6, 5, 4, 3, 2, 1, 0].foldl
    (fun (r : Word16) (i : Nat) => if r.getLsbD 15 = b.getLsbD i then r <<< 1 else (r <<< 1) ^^^ 0x1021#16) reg := by
  simp only [crcByte, crcBit_eq]

theorem beaconBytes_length (s : State) (c : Configuration) (p : Plan) (m : ChargeMode) :
    (beaconBytes s c p m).length = 20 := rfl

theorem storageBytes_length (s : State) (c : Configuration) : (storageBytes s c).length = 7 := rfl

theorem departBytes_length (c : Configuration) (r : DepartReason) : (departBytes c r).length = 4 := rfl

theorem frameOf_eq {body : List Byte} {n : Nat} (h : body.length = n) :
    frameOf body = [0xA5, 0x3C, BitVec.ofNat 8 n] ++ body ++ putWord (crc16 body) := by
  subst h
  rfl

/-- The unit's own mark puts the frame of its contents into the attempt (R5, R17). -/
theorem exec_frameMark_own {s : State} {k : FrameKind} {body : List Byte} (hatt : s.lc.attempt = some ⟨k, none⟩)
    (hbody : frameContents s k = some body) (h : s.powered = true) :
    exec .frameMark s = .next { s with lc := { s.lc with attempt := some ⟨k, some (frameOf body)⟩ } } := by
  refine exec_of_worked h ?_
  simp only [worked, frameMarkPasses, hatt, Option.isNone_none, if_true, ownMark, hbody]

theorem frameContents_beacon {s : State} {c : Configuration} {p : Plan} {m : ChargeMode} (h : s.setup = some (c, p))
    (hm : s.mc.mode = .inCharge m) : frameContents s .beacon = some (beaconBytes s c p m) := by
  simp only [frameContents, h, hm]

theorem frameContents_storage {s : State} {c : Configuration} (h : s.config = some c) :
    frameContents s .storage = some (storageBytes s c) := by
  simp only [frameContents, h]

theorem frameContents_depart {s : State} {c : Configuration} {r : DepartReason} (h : s.config = some c)
    (hr : s.lc.depart = some r) : frameContents s .depart = some (departBytes c r) := by
  simp only [frameContents, h, hr]

/-- Settles O13, kind by kind. -/
theorem ownMarkReadsFrame : Obligations.OwnMarkReadsFrame := by
  refine ⟨⟨fun own entries d => ⟨fun e he => ?_, fun hnone => ?_⟩, rfl, fun bytes b => ?_⟩,
    fun s c p m r h hset => ⟨fun hm hatt body hbody => ?_, fun hatt body hbody => ?_, fun hatt hr body hbody => ?_⟩⟩
  · simp only [fedBySelection, he]
  · simp only [fedBySelection, hnone]
  · rw [crc16_append, crcByte_eq]
  · have hcontents : beaconBytes s c p m = body := by
      simp only [hbody, beaconBytes, put8, put16, putWord, List.cons_append, List.nil_append]
      cases m <;> cases p.direction <;> rfl
    have hread := hcontents ▸ frameContents_beacon hset hm
    have hlen : body.length = 20 := by rw [← hcontents, beaconBytes_length]
    clear hbody hcontents
    rw [exec_frameMark_own hatt hread h, frameOf_eq hlen]
    rfl
  · have hcontents : storageBytes s c = body := by
      simp only [hbody, storageBytes, put8, List.cons_append, List.nil_append]
      rfl
    have hlen : body.length = 7 := by rw [← hcontents, storageBytes_length]
    rw [exec_frameMark_own hatt (hcontents ▸ frameContents_storage (setup_some hset).2.1) h, frameOf_eq hlen]
    rfl
  · have hcontents : departBytes c r = body := by
      rw [hbody]
      cases r <;> rfl
    have hlen : body.length = 4 := by rw [← hcontents, departBytes_length]
    rw [exec_frameMark_own hatt (hcontents ▸ frameContents_depart (setup_some hset).2.1 hr) h, frameOf_eq hlen]
    rfl

/-! ### The codes of a frame -/

theorem storageOf_code (v : Storage) : storageOf (storageCode v) = some v := by cases v <;> rfl

theorem exists_storage {n : Nat} (h : n ≤ 3) : ∃ v, storageCode v = n := by
  interval_cases n
  exacts [⟨.clear, rfl⟩, ⟨.filling, rfl⟩, ⟨.full, rfl⟩, ⟨.unknown, rfl⟩]

theorem storageCode_le (v : Storage) : storageCode v ≤ 3 := by cases v <;> decide

theorem storageOf_none {n : Nat} (h : ¬ n ≤ 3) : storageOf n = none := by
  unfold storageOf
  split
  case h_5 => rfl
  all_goals omega

theorem storageCode_injective {v w : Storage} (h : storageCode v = storageCode w) : v = w :=
  Option.some_injective _ (by rw [← storageOf_code v, h, storageOf_code])

theorem chargeModeOf_code (m : ChargeMode) : chargeModeOf (chargeModeCode m) = some m := by cases m <;> rfl

theorem exists_chargeMode {n : Nat} (h : 1 ≤ n ∧ n ≤ 3) : ∃ m, chargeModeCode m = n := by
  obtain ⟨hlo, hhi⟩ := h
  interval_cases n
  exacts [⟨.leading, rfl⟩, ⟨.seeking, rfl⟩, ⟨.inStep, rfl⟩]

theorem chargeModeOf_none {n : Nat} (h : ¬ (1 ≤ n ∧ n ≤ 3)) : chargeModeOf n = none := by
  unfold chargeModeOf
  split
  case h_4 => rfl
  all_goals omega

theorem directionOf_code (d : Direction) : directionOf (directionCode d) = some d := by cases d <;> rfl

theorem exists_direction {n : Nat} (h : n = 1 ∨ n = 2) : ∃ d, directionCode d = n := by
  rcases h with rfl | rfl
  exacts [⟨.inbound, rfl⟩, ⟨.outbound, rfl⟩]

theorem directionOf_none {n : Nat} (h : ¬ (n = 1 ∨ n = 2)) : directionOf n = none := by
  unfold directionOf
  split
  case h_3 => rfl
  all_goals omega

theorem reasonOf_isSome {n : Nat} : (reasonOf n).isSome = true ↔ n = 1 ∨ n = 2 := by
  unfold reasonOf
  split
  case h_3 h1 h2 =>
    simp only [Option.isSome_none, Bool.false_eq_true, false_iff, not_or]
    exact ⟨h1, h2⟩
  all_goals simp

/-! ### The reading of a frame -/

theorem cycleOk_iff {n : Nat} : cycleOk n = true ↔ CycleValue n := by
  simp [cycleOk, inRange_iff, CycleValue, and_assoc]

theorem headOk_iff {b : List Byte} : headOk b = true ↔ (1 ≤ u8 b 1 ∧ u8 b 1 ≤ 250) ∧ u8 b 2 ≤ 15 := by
  simp [headOk, inRange_iff]

theorem readApproaches_of_ok {b : List Byte} {off : Nat} (h : ApproachesOk b off) :
    ∃ a, readApproaches b off = some a ∧ ApproachesRead b off a := by
  obtain ⟨hsi, hfi, hso, hfo⟩ := h
  obtain ⟨i, hi⟩ := exists_storage hsi
  obtain ⟨o, ho⟩ := exists_storage hso
  refine ⟨⟨⟨i, u8 b (off + 1)⟩, ⟨o, u8 b (off + 3)⟩⟩, ?_, hi, rfl, ho, rfl⟩
  simp only [readApproaches, ← hi, ← ho, storageOf_code]
  exact if_pos (by simp [inRange_iff, hfi, hfo])

theorem readApproaches_of_bad {b : List Byte} {off : Nat} (h : ¬ ApproachesOk b off) : readApproaches b off = none := by
  unfold readApproaches
  split
  · next i o hi ho =>
    refine if_neg fun hr => h ?_
    have hcode : ∀ {n v}, storageOf n = some v → n ≤ 3 := fun hv => by
      by_contra hn
      rw [storageOf_none hn] at hv
      cases hv
    obtain ⟨hfi, hfo⟩ := Bool.and_eq_true _ _ ▸ hr
    exact ⟨hcode hi, (inRange_iff.mp hfi).2, hcode ho, (inRange_iff.mp hfo).2⟩
  · rfl

theorem ApproachesRead.unique {b : List Byte} {off : Nat} {a e : PerDir Approach} (ha : ApproachesRead b off a)
    (he : ApproachesRead b off e) : a = e := by
  obtain ⟨⟨i, x⟩, o, y⟩ := a
  obtain ⟨⟨i', x'⟩, o', y'⟩ := e
  obtain ⟨hi, hx, ho, hy⟩ := ha
  obtain ⟨hi', hx', ho', hy'⟩ := he
  cases storageCode_injective (hi.trans hi'.symm)
  cases storageCode_injective (ho.trans ho'.symm)
  cases hx.trans hx'.symm
  cases hy.trans hy'.symm
  rfl

theorem beaconOk_iff {b : List Byte} : beaconOk b = true ↔ headOk b = true ∧ (10 ≤ u8 b 5 ∧ u8 b 5 ≤ 50)
    ∧ CycleValue (u16 b 8) ∧ CycleValue (u16 b 12) ∧ u16 b 10 ≤ 3179 ∧ (1 ≤ u8 b 14 ∧ u8 b 14 ≤ 250)
    ∧ u8 b 15 ≤ 7 ∧ (u8 b 15 = 0 → u8 b 14 = u8 b 1) := by
  simp only [beaconOk, Bool.and_eq_true, Bool.or_eq_true, decide_eq_true_eq, inRange_iff, cycleOk_iff, and_assoc,
    Nat.zero_le, true_and, ne_eq, ← imp_iff_not_or]

/-- A BEACON whose fields pass is read as they stand (R6, section 1.3). -/
theorem readBeacon_of_ok {b : List Byte} (hhead : headOk b = true) (h : BeaconFieldsOk b) :
    ∃ x a, readBeacon b = some (.beacon (u8 b 1) x a) ∧ x.position = u16 b 3 ∧ x.period = u8 b 5
      ∧ chargeModeCode x.mode = u8 b 6 ∧ directionCode x.direction = u8 b 7
      ∧ x.cycle = u16 b 8 ∧ x.stamped = u16 b 10 ∧ x.triple = ⟨u16 b 12, u8 b 14, u8 b 15⟩ ∧ ApproachesRead b 16 a := by
  obtain ⟨m, hm⟩ := exists_chargeMode h.mode
  obtain ⟨d, hd⟩ := exists_direction h.direction
  obtain ⟨a, ha, hread⟩ := readApproaches_of_ok h.approaches
  have hok : beaconOk b = true := beaconOk_iff.mpr ⟨hhead, h.period, h.cycle, h.value, h.stamped, h.origin, h.hops⟩
  refine ⟨⟨u16 b 3, u8 b 5, m, d, u16 b 8, u16 b 10, ⟨u16 b 12, u8 b 14, u8 b 15⟩⟩, a, ?_, rfl, rfl, hm, hd, rfl, rfl,
    rfl, hread⟩
  simp only [readBeacon, ← hm, ← hd, chargeModeOf_code, directionOf_code, ha, if_pos hok]

theorem readBeacon_of_bad {b : List Byte} (h : ¬ (headOk b = true ∧ BeaconFieldsOk b)) : readBeacon b = none := by
  by_contra hsome
  refine h ?_
  have hm : 1 ≤ u8 b 6 ∧ u8 b 6 ≤ 3 := by
    by_contra hn
    simp [readBeacon, chargeModeOf_none hn] at hsome
  have hd : u8 b 7 = 1 ∨ u8 b 7 = 2 := by
    by_contra hn
    simp [readBeacon, directionOf_none hn] at hsome
  have ha : ApproachesOk b 16 := by
    by_contra hn
    simp [readBeacon, readApproaches_of_bad hn] at hsome
  have hok : beaconOk b = true := by
    by_contra hn
    refine hsome ?_
    unfold readBeacon
    split
    · exact if_neg hn
    · rfl
  obtain ⟨hhead, hperiod, hcycle, hvalue, hstamped, horigin, hhops⟩ := beaconOk_iff.mp hok
  exact ⟨hhead, hperiod, hm, hd, hcycle, hstamped, hvalue, horigin, hhops, ha⟩

theorem readFrame_beacon {n : Nat} {b : List Byte} (h : u8 b 0 = 1) :
    readFrame n b = if n = 20 then readBeacon b else none := by
  simp only [readFrame, h]

theorem readFrame_storage {n : Nat} {b : List Byte} (h : u8 b 0 = 2) {a : PerDir Approach}
    (ha : readApproaches b 3 = some a) :
    readFrame n b = if n = 7 ∧ headOk b then some (.storage (u8 b 1) a) else none := by
  simp only [readFrame, h, ha]

theorem readFrame_storage_bad (n : Nat) {b : List Byte} (h : u8 b 0 = 2) (ha : readApproaches b 3 = none) :
    readFrame n b = none := by
  simp only [readFrame, h, ha]

theorem readFrame_depart {n : Nat} {b : List Byte} (h : u8 b 0 = 3) :
    readFrame n b = if (u8 b 3 = 1 ∨ u8 b 3 = 2) ∧ n = 4 ∧ headOk b then some (.depart (u8 b 1)) else none := by
  simp only [readFrame, h]
  cases hr : reasonOf (u8 b 3) with
  | none =>
    have hno : ¬ (u8 b 3 = 1 ∨ u8 b 3 = 2) := fun hy => by simpa [hr] using reasonOf_isSome.mpr hy
    simp [hno]
  | some r =>
    have hyes : u8 b 3 = 1 ∨ u8 b 3 = 2 := reasonOf_isSome.mp (by simp [hr])
    simp [hyes]

theorem FrameOk.headOk {n : Nat} {b : List Byte} (h : FrameOk n b) : headOk b = true := headOk_iff.mpr h.head

/-- A BEACON that passes is read as its fields. -/
theorem FrameOk.reads_beacon {n : Nat} {b : List Byte} (h : FrameOk n b) (hkind : u8 b 0 = 1) :
    ∃ x a, readFrame n b = some (.beacon (u8 b 1) x a) ∧ x.position = u16 b 3 ∧ x.period = u8 b 5
      ∧ chargeModeCode x.mode = u8 b 6 ∧ directionCode x.direction = u8 b 7
      ∧ x.cycle = u16 b 8 ∧ x.stamped = u16 b 10 ∧ x.triple = ⟨u16 b 12, u8 b 14, u8 b 15⟩ ∧ ApproachesRead b 16 a := by
  obtain ⟨-, hn, hok⟩ | ⟨h2, -⟩ | ⟨h3, -⟩ := h.kind
  · rw [readFrame_beacon hkind, if_pos hn]
    exact readBeacon_of_ok h.headOk hok
  · omega
  · omega

theorem FrameOk.reads_storage {n : Nat} {b : List Byte} (h : FrameOk n b) (hkind : u8 b 0 = 2) :
    ∃ a, readFrame n b = some (.storage (u8 b 1) a) ∧ ApproachesRead b 3 a := by
  obtain ⟨h1, -⟩ | ⟨-, hn, hok⟩ | ⟨h3, -⟩ := h.kind
  · omega
  · obtain ⟨a, ha, hread⟩ := readApproaches_of_ok hok
    refine ⟨a, ?_, hread⟩
    rw [readFrame_storage hkind ha]
    exact if_pos ⟨hn, h.headOk⟩
  · omega

theorem FrameOk.reads_depart {n : Nat} {b : List Byte} (h : FrameOk n b) (hkind : u8 b 0 = 3) :
    readFrame n b = some (.depart (u8 b 1)) := by
  obtain ⟨h1, -⟩ | ⟨h2, -⟩ | ⟨-, hn, hok⟩ := h.kind
  · omega
  · omega
  · rw [readFrame_depart hkind]
    exact if_pos ⟨hok, hn, h.headOk⟩

theorem FrameOk.reads {n : Nat} {b : List Byte} (h : FrameOk n b) : readFrame n b ≠ none := by
  obtain ⟨hkind, -⟩ | ⟨hkind, -⟩ | ⟨hkind, -⟩ := h.kind
  · obtain ⟨x, a, hr, -⟩ := h.reads_beacon hkind
    simp [hr]
  · obtain ⟨a, hr, -⟩ := h.reads_storage hkind
    simp [hr]
  · simp [h.reads_depart hkind]

/-- A frame is refused exactly where a test of R9 fails. -/
theorem readFrame_none_iff (n : Nat) (b : List Byte) : readFrame n b = none ↔ ¬ FrameOk n b := by
  refine ⟨fun h hok => hok.reads h, fun h => ?_⟩
  by_contra hsome
  refine h ?_
  by_cases h1 : u8 b 0 = 1
  · rw [readFrame_beacon h1] at hsome
    have hn : n = 20 := by
      by_contra hn
      exact hsome (if_neg hn)
    rw [if_pos hn] at hsome
    obtain ⟨hhead, hok⟩ := not_not.mp fun hbad => hsome (readBeacon_of_bad hbad)
    exact ⟨headOk_iff.mp hhead, .inl ⟨h1, hn, hok⟩⟩
  by_cases h2 : u8 b 0 = 2
  · have hok : ApproachesOk b 3 := by
      by_contra hbad
      exact hsome (readFrame_storage_bad n h2 (readApproaches_of_bad hbad))
    obtain ⟨a, ha, -⟩ := readApproaches_of_ok hok
    rw [readFrame_storage h2 ha] at hsome
    have hrest : n = 7 ∧ headOk b = true := by
      by_contra hbad
      exact hsome (if_neg hbad)
    exact ⟨headOk_iff.mp hrest.2, .inr (.inl ⟨h2, hrest.1, hok⟩)⟩
  by_cases h3 : u8 b 0 = 3
  · rw [readFrame_depart h3] at hsome
    have hrest : (u8 b 3 = 1 ∨ u8 b 3 = 2) ∧ n = 4 ∧ headOk b = true := by
      by_contra hbad
      exact hsome (if_neg hbad)
    exact ⟨headOk_iff.mp hrest.2.2, .inr (.inr ⟨h3, hrest.2.1, hrest.1⟩)⟩
  · refine absurd ?_ hsome
    unfold readFrame
    split
    · next h => exact absurd h h1
    · next h => exact absurd h h2
    · next h => exact absurd h h3
    · rfl

end Sys2Proof.Machine

/-! ## Frames received, read back, and the ends of attempts -/

namespace Sys2Proof.Machine

/-! ### The disposal of a frame -/

theorem lastCheckByte_completes {s : State} {c : Configuration} (hc : s.cl = .good c) (hatt : s.lc.attempt = none)
    {k : Capture} {n : Nat} {got : List Byte} {f : Byte} (hr : s.lc.receiver = .check k n got (some f)) (b : Byte) :
    lastCheckByte b s = completeFrame k n got f b s := by
  simp only [lastCheckByte, receiverActive_of_good hc hatt, hr]

theorem completeFrame_discards {s : State} {c : Configuration} (hc : s.cl = .good c) (k : Capture) {n : Nat}
    {got : List Byte} {f b : Byte} (hbad : u16 [f, b] 0 ≠ (crc16 got).toNat ∨ ¬ FrameOk n got) :
    completeFrame k n got f b s = discardFrame s := by
  simp only [completeFrame, config_good hc]
  split
  · next hcrc =>
    have hno : readFrame n got = none := (readFrame_none_iff n got).mpr
      (hbad.resolve_left (not_not_intro ((putWord_eq_iff _ _ _).mp hcrc)))
    simp only [hno]
  · rfl

theorem completeFrame_disposes {s : State} {c : Configuration} (hc : s.cl = .good c) (k : Capture) {n : Nat}
    {got : List Byte} {f b : Byte} (hcrc : u16 [f, b] 0 = (crc16 got).toNat) {frame : Frame}
    (hread : readFrame n got = some frame) :
    completeFrame k n got f b s = disposeFrame c k (u8 got 2) (u8 got 1) frame (setReceiver .hunt s) := by
  simp only [completeFrame, config_good hc, if_pos ((putWord_eq_iff _ _ _).mpr hcrc), hread]

/-- Settles O15: the tests of `completeFrame` and the cases of `disposeFrame`. -/
theorem frameReceivedIsDisposedOf : Obligations.FrameReceivedIsDisposedOf := by
  refine ⟨fun s c k n got f b h hc hatt hr => ?_, fun n got => ⟨readFrame_none_iff n got, fun hok hk => ?_,
    fun hok hk => hok.reads_storage hk, fun hok hk => hok.reads_depart hk⟩⟩
  · have hbyte : ∀ t, completeFrame k n got f b s = t → exec (.frameReceived b) s = .next t := fun t ht =>
      exec_of_worked h ((lastCheckByte_completes hc hatt hr b).trans ht)
    refine ⟨fun hbad => hbyte _ (completeFrame_discards hc k hbad), fun frame hcrc hread => ?_⟩
    have hdispose : ∀ t, disposeFrame c k (u8 got 2) (u8 got 1) frame (setReceiver .hunt s) = t →
        exec (.frameReceived b) s = .next t := fun t ht =>
      hbyte _ ((completeFrame_disposes hc k hcrc hread).trans ht)
    exact ⟨fun hg => hdispose _ (if_pos hg), fun hg hn => hdispose _ ((if_neg (not_not_intro hg)).trans (if_pos hn)),
      fun hg hn => hdispose _ ((if_neg (not_not_intro hg)).trans (if_neg hn))⟩
  · obtain ⟨x, a, hread, hpos, hper, hmode, hdir, hrest⟩ := hok.reads_beacon hk
    refine ⟨x, a, hread, hpos, hper, hmode ▸ ?_, hdir ▸ ?_, hrest⟩
    · cases x.mode <;> rfl
    · cases x.direction <;> rfl

/-! ### What the unit sends, read back -/

theorem toNat_byte {n : Nat} (h : n ≤ 255) : (BitVec.ofNat 8 n).toNat = n := by
  simp only [BitVec.toNat_ofNat]
  omega

theorem toNat_word {n : Nat} (h : n ≤ 65535) : (BitVec.ofNat 16 n).toNat = n := by
  simp only [BitVec.toNat_ofNat]
  omega

/-- A word in a list of bytes reads as the number it was written from. -/
theorem read_word {n : Nat} (h : n ≤ 65535) : ((BitVec.ofNat 16 n).extractLsb' 8 8).toNat * 256
    + ((BitVec.ofNat 16 n).extractLsb' 0 8).toNat = n := (word_of_bytes _).trans (toNat_word h)

theorem fedBySelection_le {own : Nat} {entries : List Entry} (h : ∀ e ∈ entries, 1 ≤ e.station ∧ e.station ≤ 250)
    (d : Direction) : fedBySelection own entries d ≤ 250 := by
  unfold fedBySelection
  split
  · next e he =>
    refine (h e ?_).2
    cases d with
    | inbound => exact List.mem_of_find?_eq_some he
    | outbound => exact (List.mem_filter.mp (List.mem_of_getLast? he)).1
  · exact Nat.zero_le _

/-- The approaches that a unit's frame carries. -/
def sentApproaches (s : State) (c : Configuration) : PerDir Approach :=
  ⟨⟨s.di.storage.inbound, fedBySelection c.position s.nt.entries .inbound⟩,
    ⟨s.di.storage.outbound, fedBySelection c.position s.nt.entries .outbound⟩⟩

section
variable {s : State} {c : Configuration} (hc : c.Checked) (hnt : ∀ e ∈ s.nt.entries, 1 ≤ e.station ∧ e.station ≤ 250)
include hnt

/-- The four bytes of the approaches, read where they stand. -/
theorem approaches_read {b : List Byte} {off : Nat}
    (hsi : u8 b off = (BitVec.ofNat 8 (storageCode s.di.storage.inbound)).toNat)
    (hfi : u8 b (off + 1) = (BitVec.ofNat 8 (fedBySelection c.position s.nt.entries .inbound)).toNat)
    (hso : u8 b (off + 2) = (BitVec.ofNat 8 (storageCode s.di.storage.outbound)).toNat)
    (hfo : u8 b (off + 3) = (BitVec.ofNat 8 (fedBySelection c.position s.nt.entries .outbound)).toNat) :
    ApproachesOk b off ∧ ApproachesRead b off (sentApproaches s c) := by
  have hsi' := storageCode_le s.di.storage.inbound
  have hso' := storageCode_le s.di.storage.outbound
  have hfi' := fedBySelection_le (own := c.position) hnt .inbound
  have hfo' := fedBySelection_le (own := c.position) hnt .outbound
  rw [toNat_byte (by omega)] at hsi hfi hso hfo
  exact ⟨⟨by omega, by omega, by omega, by omega⟩, hsi.symm, hfi.symm, hso.symm, hfo.symm⟩

theorem beaconBytes_approaches {p : Plan} (m : ChargeMode) {b : List Byte} (hb : b = beaconBytes s c p m) :
    u8 b 0 = 1 ∧ ApproachesOk b 16 ∧ ApproachesRead b 16 (sentApproaches s c) := by
  simp only [beaconBytes, put8, put16, putWord, List.cons_append, List.nil_append] at hb
  subst hb
  exact ⟨rfl, approaches_read hnt rfl rfl rfl rfl⟩

include hc

theorem storageBytes_reads : readFrame 7 (storageBytes s c) = some (.storage c.station (sentApproaches s c)) := by
  have hstation : u8 (storageBytes s c) 1 = c.station := toNat_byte (by have := hc.station; omega)
  have hgroup : u8 (storageBytes s c) 2 = c.group := toNat_byte (by have := hc.group; omega)
  obtain ⟨hok, hread⟩ := approaches_read (c := c) hnt (b := storageBytes s c) (off := 3) rfl rfl rfl rfl
  have hframe : FrameOk 7 (storageBytes s c) :=
    ⟨⟨hstation ▸ hc.station, hgroup ▸ hc.group⟩, .inr (.inl ⟨rfl, rfl, hok⟩)⟩
  obtain ⟨a, ha, hread'⟩ := hframe.reads_storage rfl
  rw [ha, hstation, hread'.unique hread]

omit hnt in
/-- The fields of a BEACON, read where section 1.3 lays them out. -/
theorem beaconBytes_fields {p : Plan} (m : ChargeMode) (hcycle : s.cau.cycle ≤ 2400) (hpos : s.ct.position ≤ 3179)
    (hvalue : s.cau.triple.value ≤ 2400) (horigin : s.cau.triple.origin ≤ 250) (hhops : s.cau.triple.hops ≤ 7)
    {b : List Byte} (hb : b = beaconBytes s c p m) :
    (u8 b 1 = c.station ∧ u8 b 2 = c.group ∧ u16 b 3 = c.position ∧ u8 b 5 = c.period)
    ∧ (u8 b 6 = chargeModeCode m ∧ u8 b 7 = directionCode p.direction ∧ u16 b 8 = s.cau.cycle
      ∧ u16 b 10 = s.ct.position) ∧ u16 b 12 = s.cau.triple.value ∧ u8 b 14 = s.cau.triple.origin
    ∧ u8 b 15 = s.cau.triple.hops := by
  simp only [beaconBytes, put8, put16, putWord, List.cons_append, List.nil_append] at hb
  have hstation := hc.station
  have hgroup := hc.group
  have hposition := hc.position
  have hperiod := hc.period
  have hmode : chargeModeCode m ≤ 255 := by cases m <;> decide
  have hdir : directionCode p.direction ≤ 255 := by cases p.direction <;> decide
  subst hb
  exact ⟨⟨toNat_byte (by omega), toNat_byte (by omega), read_word (by omega), toNat_byte (by omega)⟩,
    ⟨toNat_byte hmode, toNat_byte hdir, read_word (by omega), read_word (by omega)⟩,
    read_word (by omega), toNat_byte (by omega), toNat_byte (by omega)⟩

theorem beaconBytes_reads {p : Plan} (m : ChargeMode) (hcycle : CycleValue s.cau.cycle) (hpos : s.ct.position ≤ 3179)
    (hvalue : CycleValue s.cau.triple.value) (horigin : 1 ≤ s.cau.triple.origin ∧ s.cau.triple.origin ≤ 250)
    (hhops : s.cau.triple.hops ≤ 7) (hown : s.cau.triple.hops = 0 → s.cau.triple.origin = c.station) :
    readFrame 20 (beaconBytes s c p m) = some (.beacon c.station
      { position := c.position, period := c.period, mode := m, direction := p.direction, cycle := s.cau.cycle,
        stamped := s.ct.position, triple := s.cau.triple } (sentApproaches s c)) := by
  obtain ⟨⟨hstation, hgroup, hposition, hperiod⟩, ⟨hmode, hdir, hc8, hc10⟩, hc12, hc14, hc15⟩ :=
    beaconBytes_fields hc (p := p) m hcycle.2.1 hpos hvalue.2.1 horigin.2 hhops rfl
  obtain ⟨hkind, hok, hread⟩ := beaconBytes_approaches hnt (c := c) (p := p) m rfl
  have hframe : FrameOk 20 (beaconBytes s c p m) := by
    refine ⟨⟨hstation ▸ hc.station, hgroup ▸ hc.group⟩, .inl ⟨hkind, rfl, ?_⟩⟩
    exact {
      period := hperiod ▸ hc.period
      mode := by rw [hmode]; cases m <;> decide
      direction := by rw [hdir]; cases p.direction <;> decide
      cycle := hc8 ▸ hcycle
      stamped := hc10 ▸ hpos
      value := hc12 ▸ hvalue
      origin := hc14 ▸ horigin
      hops := by rw [hc15, hc14, hstation]; exact ⟨hhops, hown⟩
      approaches := hok }
  obtain ⟨⟨_, _, mode, dir, _, _, triple⟩, a, ha, hx⟩ := hframe.reads_beacon hkind
  obtain ⟨h3, h5, h6, h7, h8, h10, htriple, hread'⟩ := hx
  have hm : mode = m := Option.some_injective _ (by rw [← chargeModeOf_code, h6, hmode, chargeModeOf_code])
  have hd : dir = p.direction := Option.some_injective _ (by rw [← directionOf_code, h7, hdir, directionOf_code])
  simp only at h3 h5 h8 h10 htriple
  rw [ha, hstation, hread'.unique hread, h3, h5, h8, h10, htriple, hm, hd, hposition, hperiod, hc8, hc10, hc12, hc14, hc15]

omit hnt in
theorem departBytes_reads (r : DepartReason) : readFrame 4 (departBytes c r) = some (.depart c.station) := by
  have hstation : u8 (departBytes c r) 1 = c.station := toNat_byte (by have := hc.station; omega)
  have hgroup : u8 (departBytes c r) 2 = c.group := toNat_byte (by have := hc.group; omega)
  have hreason : u8 (departBytes c r) 3 = reasonCode r := toNat_byte (by cases r <;> decide)
  have hframe : FrameOk 4 (departBytes c r) := by
    refine ⟨⟨hstation ▸ hc.station, hgroup ▸ hc.group⟩, .inr (.inr ⟨rfl, rfl, ?_⟩)⟩
    rw [hreason]
    cases r <;> decide
  rw [hframe.reads_depart rfl, hstation]

end

/-- Settles O16, kind by kind. -/
theorem sentFramesReadBack : Obligations.SentFramesReadBack := by
  intro s c p m r _ hc hcycle hpos hvalue hlo hhi hhops hown hnt
  exact ⟨beaconBytes_reads hc hnt m hcycle hpos hvalue ⟨hlo, hhi⟩ hhops hown, beaconBytes_length s c p m,
    storageBytes_reads hc hnt, storageBytes_length s c, departBytes_reads hc r, departBytes_length c r⟩

/-! ### Collisions and successes -/

theorem clearSlot_eq (k : FrameKind) (l : LC) : clearSlot k l = { l with
    depart := if k = .depart then none else l.depart, departRenewal := l.departRenewal && decide (k ≠ .depart)
    storage := l.storage && decide (k ≠ .storage), storageRenewal := l.storageRenewal && decide (k ≠ .storage)
    beacon := l.beacon && decide (k ≠ .beacon), beaconRenewal := l.beaconRenewal && decide (k ≠ .beacon) } := by
  cases k <;> simp [clearSlot]

theorem clearRenewal_eq (k : FrameKind) (l : LC) : clearRenewal k l = { l with
    departRenewal := l.departRenewal && decide (k ≠ .depart)
    storageRenewal := l.storageRenewal && decide (k ≠ .storage)
    beaconRenewal := l.beaconRenewal && decide (k ≠ .beacon) } := by
  cases k <;> simp [clearRenewal]

/-- The Link Controller after a collision below the ninth count (R18). -/
def collided (kind : FrameKind) (k : Nat) (l : LC) : LC :=
  clearRenewal kind { l with attempt := none, receiver := .hunt, contention := some ⟨kind, k + 1⟩ }

theorem attemptCount_eq {l : LC} {kind : FrameKind} {k : Nat} (h : l.contention = some ⟨kind, k⟩) : attemptCount l = k := by
  simp only [attemptCount, h]

theorem collide_below {s : State} {kind : FrameKind} {k : Nat} (h : s.lc.contention = some ⟨kind, k⟩) (hk : k < 8) :
    collide kind s = count .collision { s with lc := collided kind k s.lc } := by
  simp only [collide, attemptCount_eq h]
  exact if_neg (by omega)

theorem collide_ninth {s : State} {kind : FrameKind} {k : Nat} (h : s.lc.contention = some ⟨kind, k⟩) (hk : 8 ≤ k) :
    collide kind s = setFlag .txAbandoned (count .txAbandoned (count .collision
      { s with lc := { clearSlot kind (collided kind k s.lc) with contention := none } })) := by
  simp only [collide, attemptCount_eq h]
  exact if_pos (by omega)

/-- The slots of the other kinds stand through a collision. -/
theorem collided_others {kind j : FrameKind} (h : j ≠ kind) (k : Nat) (l : LC) :
    (collided kind k l).holds j = l.holds j ∧ renewal (collided kind k l) j = renewal l j := by
  rw [collided, clearRenewal_eq]
  cases j <;> simp [LC.holds, renewal, h.symm]

theorem clearSlot_others {kind j : FrameKind} (h : j ≠ kind) (l : LC) :
    (clearSlot kind l).holds j = l.holds j ∧ renewal (clearSlot kind l) j = renewal l j := by
  rw [clearSlot_eq]
  cases j <;> simp [LC.holds, renewal, h.symm]

theorem collided_own (kind : FrameKind) (k : Nat) (l : LC) :
    (collided kind k l).holds kind = l.holds kind ∧ renewal (collided kind k l) kind = false := by
  cases kind <;> exact ⟨rfl, rfl⟩

theorem clearSlot_own (kind : FrameKind) (l : LC) :
    (clearSlot kind l).holds kind = false ∧ renewal (clearSlot kind l) kind = false := by
  cases kind <;> exact ⟨rfl, rfl⟩

theorem collided_rest (kind : FrameKind) (k : Nat) (l : LC) :
    ((collided kind k l).attempt = none ∧ (collided kind k l).receiver = .hunt ∧ (collided kind k l).line = l.line
      ∧ (collided kind k l).generator = l.generator ∧ (collided kind k l).deferral = l.deferral
      ∧ (collided kind k l).beaconTimer = l.beaconTimer ∧ (collided kind k l).silenceTimer = l.silenceTimer)
    ∧ (collided kind k l).depart = l.depart ∧ (collided kind k l).contention = some ⟨kind, k + 1⟩ := by
  rw [collided, clearRenewal_eq]
  exact ⟨⟨rfl, rfl, rfl, rfl, rfl, rfl, rfl⟩, rfl, rfl⟩

theorem clearSlot_link (kind : FrameKind) (l : LC) :
    ((clearSlot kind l).attempt = l.attempt ∧ (clearSlot kind l).receiver = l.receiver ∧ (clearSlot kind l).line = l.line
      ∧ (clearSlot kind l).generator = l.generator ∧ (clearSlot kind l).deferral = l.deferral
      ∧ (clearSlot kind l).beaconTimer = l.beaconTimer ∧ (clearSlot kind l).silenceTimer = l.silenceTimer)
    ∧ (kind ≠ .depart → (clearSlot kind l).depart = l.depart) := by
  rw [clearSlot_eq]
  exact ⟨⟨rfl, rfl, rfl, rfl, rfl, rfl, rfl⟩, fun h => if_neg h⟩

theorem holds_abandoned (l : LC) (j : FrameKind) : ({ l with contention := none } : LC).holds j = l.holds j
    ∧ renewal { l with contention := none } j = renewal l j := by
  cases j <;> exact ⟨rfl, rfl⟩

/-- The BEACON slot once its frame has succeeded (R17): empty, or with a fresh frame where its renewal mark was set. -/
theorem slotsAfterSuccess_beacon (l : LC) :
    slotsAfterSuccess .beacon l = { l with beacon := l.beacon && l.beaconRenewal, beaconRenewal := false } := by
  cases h : l.beaconRenewal <;> simp [slotsAfterSuccess, renewal, clearRenewal, clearSlot, h]

theorem slotsAfterSuccess_storage (l : LC) :
    slotsAfterSuccess .storage l = { l with storage := l.storage && l.storageRenewal, storageRenewal := false } := by
  cases h : l.storageRenewal <;> simp [slotsAfterSuccess, renewal, clearRenewal, clearSlot, h]

/-- A DEPART that has succeeded empties the other two slots too (R17). -/
theorem slotsAfterSuccess_depart (l : LC) : slotsAfterSuccess .depart l = { l with
    depart := if l.departRenewal then l.depart else none, departRenewal := false, storage := false
    storageRenewal := false, beacon := false, beaconRenewal := false } := by
  cases h : l.departRenewal <;> simp [slotsAfterSuccess, renewal, clearRenewal, clearSlot, h]

/-- Settles O17: a collision below and from the ninth count, and the slots after a success of each kind. -/
theorem collisionsAndSuccesses : Obligations.CollisionsAndSuccesses := by
  refine ⟨fun s a k h ha hk => ?_, fun s kind bytes h ha => ?_⟩
  · have hown := collided_own a.kind k s.lc
    obtain ⟨⟨hatt, hrec, hline, hgen, hdef, hbt, hst⟩, hdepart, hcont⟩ := collided_rest a.kind k s.lc
    have hstep : ∀ t, collide a.kind s = t → exec .collision s = .next t := fun t ht =>
      exec_of_worked h (by simp only [worked, collisionFound, ha, ht])
    by_cases hninth : k < 8
    · exact ⟨_, hstep _ (collide_below hk hninth), hatt, hrec, hline, hgen, hdef, hbt, hst, rfl, fun _ => hdepart, hown.2,
        fun j hj => collided_others hj k s.lc, fun _ => ⟨hcont, hown.1, rfl, rfl⟩,
        fun h8 => absurd hninth (Nat.not_lt.mpr h8)⟩
    · have hslot := clearSlot_own a.kind (collided a.kind k s.lc)
      have hsame := holds_abandoned (clearSlot a.kind (collided a.kind k s.lc))
      obtain ⟨⟨hatt', hrec', hline', hgen', hdef', hbt', hst'⟩, hdepart'⟩ := clearSlot_link a.kind (collided a.kind k s.lc)
      refine ⟨_, hstep _ (collide_ninth hk (Nat.not_lt.mp hninth)), hatt'.trans hatt, hrec'.trans hrec, hline'.trans hline,
        hgen'.trans hgen, hdef'.trans hdef, hbt'.trans hbt, hst'.trans hst, rfl, fun hd => ?_,
        (hsame _).2.trans hslot.2, fun j hj => ?_, fun hlt => absurd hlt hninth,
        fun _ => ⟨rfl, (hsame _).1.trans hslot.1, rfl, rfl⟩⟩
      · exact (hdepart' (hd.resolve_right hninth)).trans hdepart
      · have hother := clearSlot_others hj (collided a.kind k s.lc)
        have hcoll := collided_others hj k s.lc
        exact ⟨(hsame j).1.trans (hother.1.trans hcoll.1), (hsame j).2.trans (hother.2.trans hcoll.2)⟩
  · refine ⟨_, exec_of_worked (t := succeed kind s) h (by simp only [worked, attemptDone, ha]; rfl), ?_⟩
    rw [succeed_eq]
    cases kind with
    | beacon =>
      rw [slotsAfterSuccess_beacon]
      refine ⟨rfl, rfl, rfl, rfl, rfl, (nomatch ·), fun _ j hj => ?_, fun _ => rfl, rfl, rfl, rfl, rfl, rfl, rfl⟩
      cases j with
      | beacon => exact absurd rfl hj
      | _ => exact ⟨rfl, rfl⟩
    | storage =>
      rw [slotsAfterSuccess_storage]
      refine ⟨rfl, rfl, rfl, rfl, rfl, (nomatch ·), fun _ j hj => ?_, fun _ => rfl, rfl, rfl, rfl, rfl, rfl, rfl⟩
      cases j with
      | storage => exact absurd rfl hj
      | _ => exact ⟨rfl, rfl⟩
    | depart =>
      rw [slotsAfterSuccess_depart]
      refine ⟨rfl, rfl, rfl, rfl, ?_, fun _ => ⟨rfl, rfl, rfl, rfl⟩, fun hk => absurd rfl hk, fun hk => ?_, rfl, rfl,
        rfl, rfl, rfl, rfl⟩
      · cases hr : s.lc.departRenewal <;> simp [LC.holds, renewal, hr]
      · exact if_pos (hk.resolve_left (not_not_intro rfl))

end Sys2Proof.Machine

/-! ## Marks that come due, and what depends on them (R50 to R56, R66, R149 to R154, R161)

The dues of one step are taken mark by mark in the model. `duesTaken` is their joint effect, by the set of marks that come
due: the marks become DUE, the output lines that name one of them are SET, and the greens that one of them ends are ENDED. -/

namespace Sys2Proof.Machine

/-! ### The marks of a plan -/

theorem stretches_iff {p : Plan} {m : Num8} : p.stretches m = true ↔ p.base m ≠ 0 ∧ p.base p.stretch ≤ p.base m := by
  simp [Plan.stretches, usesMark_iff]

/-- Under a used stretch mark the marks that do not stretch are those before it. -/
theorem not_stretches_iff {p : Plan} (h : p.base p.stretch ≠ 0) {m : Num8} :
    p.stretches m = false ↔ p.base m < p.base p.stretch := by
  rw [← Bool.not_eq_true, stretches_iff]
  omega

theorem markReached_iff {t : CT} {m : Num8} : markReached t m = true ↔
    (t.marks.get m).state = .waiting ∧ (t.marks.get m).position ≤ t.position := by
  simp [markReached]

/-! ### The joint effect of some dues -/

/-- The state after the dues of the marks of a set. -/
def duesTaken (c : Configuration) (p : Plan) (due : Num8 → Bool) (s : State) : State := { s with
  ct := { s.ct with marks := s.ct.marks.mapNum (fun m k => if due m then { k with state := .due } else k) }
  olu := s.olu.mapNum (fun k o => { o with drive := o.drive || (c.outputs.get k).mark.any due })
  di := { s.di with green :=
    ⟨s.di.green.inbound && !Num8.all.any (fun m => due m && dueEndsGreen c p m .inbound),
      s.di.green.outbound && !Num8.all.any (fun m => due m && dueEndsGreen c p m .outbound)⟩ } }

section
variable (c : Configuration) (p : Plan)

@[simp] theorem duesTaken_mark (due : Num8 → Bool) (s : State) (m : Num8) : (duesTaken c p due s).ct.marks.get m =
    if due m then { s.ct.marks.get m with state := .due } else s.ct.marks.get m := by
  simp [duesTaken]

@[simp] theorem duesTaken_line (due : Num8 → Bool) (s : State) (k : Num8) : (duesTaken c p due s).olu.get k =
    { s.olu.get k with drive := (s.olu.get k).drive || (c.outputs.get k).mark.any due } := by
  simp [duesTaken]

@[simp] theorem duesTaken_green (due : Num8 → Bool) (s : State) (d : Direction) :
    (duesTaken c p due s).di.green.get d =
      (s.di.green.get d && !Num8.all.any (fun m => due m && dueEndsGreen c p m d)) := by
  cases d <;> rfl

theorem any_or {α : Type} (l : List α) (f g : α → Bool) :
    (l.any fun x => f x || g x) = (l.any f || l.any g) := by
  induction l with
  | nil => rfl
  | cons a l ih => simp only [List.any_cons, ih]; ac_rfl

theorem green_or {α : Type} (l : List α) (f g e : α → Bool) (b : Bool) :
    ((b && !l.any fun x => f x && e x) && !l.any fun x => g x && e x) = (b && !l.any fun x => (f x || g x) && e x) := by
  simp only [Bool.and_or_distrib_right, any_or, Bool.not_or, Bool.and_assoc]

/-- Dues taken after others are both taken together. -/
theorem duesTaken_duesTaken (f g : Num8 → Bool) (s : State) :
    duesTaken c p g (duesTaken c p f s) = duesTaken c p (fun m => f m || g m) s := by
  have hmarks : (duesTaken c p g (duesTaken c p f s)).ct.marks = (duesTaken c p (fun m => f m || g m) s).ct.marks := by
    refine Eight.ext_get fun m => ?_
    simp only [duesTaken_mark]
    cases f m <;> cases g m <;> rfl
  have hlines : (duesTaken c p g (duesTaken c p f s)).olu = (duesTaken c p (fun m => f m || g m) s).olu := by
    refine Eight.ext_get fun k => ?_
    simp only [duesTaken_line]
    cases (c.outputs.get k).mark <;> simp [Bool.or_assoc]
  have hgreen : (duesTaken c p g (duesTaken c p f s)).di.green = (duesTaken c p (fun m => f m || g m) s).di.green :=
    congrArg₂ PerDir.mk (green_or Num8.all f g (dueEndsGreen c p · .inbound) _)
      (green_or Num8.all f g (dueEndsGreen c p · .outbound) _)
  calc duesTaken c p g (duesTaken c p f s)
      = { s with
          ct := { s.ct with marks := (duesTaken c p g (duesTaken c p f s)).ct.marks }
          olu := (duesTaken c p g (duesTaken c p f s)).olu
          di := { s.di with green := (duesTaken c p g (duesTaken c p f s)).di.green } } := rfl
    _ = duesTaken c p (fun m => f m || g m) s := by rw [hmarks, hlines, hgreen]; rfl

theorem PerDir_ext {α : Type} {v w : PerDir α} (h : ∀ d, v.get d = w.get d) : v = w := by
  obtain ⟨i, o⟩ := v
  obtain ⟨i', o'⟩ := w
  cases h .inbound
  cases h .outbound
  rfl

theorem duesTaken_none {due : Num8 → Bool} (h : ∀ m, due m = false) (s : State) : duesTaken c p due s = s := by
  have hmarks : (duesTaken c p due s).ct.marks = s.ct.marks := Eight.ext_get fun m => by simp [h]
  have hlines : (duesTaken c p due s).olu = s.olu := Eight.ext_get fun k => by
    simp only [duesTaken_line]
    cases (c.outputs.get k).mark <;> simp [h]
  have hgreen : (duesTaken c p due s).di.green = s.di.green := PerDir_ext fun d => by
    simp only [duesTaken_green, h, Bool.false_and]
    exact Bool.and_true _
  calc duesTaken c p due s
      = { s with
          ct := { s.ct with marks := (duesTaken c p due s).ct.marks }
          olu := (duesTaken c p due s).olu
          di := { s.di with green := (duesTaken c p due s).di.green } } := rfl
    _ = s := by rw [hmarks, hlines, hgreen]

theorem endGreenIf_green (b : Bool) (d e : Direction) (s : State) :
    (endGreenIf b d s).di.green.get e = (s.di.green.get e && !(decide (e = d) && b)) := by
  cases b
  · simp [endGreenIf]
  · simp only [endGreenIf, if_true, endGreen_di, PerDir.get_set, Bool.and_true]
    split <;> simp [*]

theorem endGreenIf_eq (b : Bool) (d : Direction) (s : State) :
    endGreenIf b d s = { s with di := { s.di with green := (endGreenIf b d s).di.green } } := by
  cases b <;> rfl

theorem any_single (m : Num8) (f : Num8 → Bool) : (Num8.all.any fun j => decide (j = m) && f j) = f m := by
  rw [Bool.eq_iff_iff, List.any_eq_true]
  constructor
  · rintro ⟨j, -, hj⟩
    obtain ⟨rfl, h⟩ : j = m ∧ f j = true := by simpa using hj
    exact h
  · exact fun h => ⟨m, Num8.mem_all m, by simp [h]⟩

/-- One mark's due is the dues of a set of one. -/
theorem takeDue_eq (m : Num8) (s : State) : takeDue c p m s = duesTaken c p (fun j => decide (j = m)) s := by
  have hmarks : (takeDue c p m s).ct.marks = (duesTaken c p (fun j => decide (j = m)) s).ct.marks := by
    refine Eight.ext_get fun j => ?_
    simp only [takeDue, endGreenIf_ct, setLines_ct, Eight.get_set, duesTaken_mark, decide_eq_true_eq]
    split <;> simp [*]
  have hlines : (takeDue c p m s).olu = (duesTaken c p (fun j => decide (j = m)) s).olu := by
    refine Eight.ext_get fun k => ?_
    simp only [takeDue, endGreenIf_olu, setLines_get, duesTaken_line]
    cases hk : (c.outputs.get k).mark with
    | none => simp
    | some j => by_cases hj : j = m <;> simp [hj]
  have hgreen : (takeDue c p m s).di.green = (duesTaken c p (fun j => decide (j = m)) s).di.green := by
    refine PerDir_ext fun d => ?_
    simp only [takeDue, endGreenIf_green, setLines_di, duesTaken_green, any_single]
    cases d <;> simp
  calc takeDue c p m s
      = { s with
          ct := { s.ct with marks := (takeDue c p m s).ct.marks }
          olu := (takeDue c p m s).olu
          di := { s.di with green := (takeDue c p m s).di.green } } := by
        simp only [takeDue]
        rw [endGreenIf_eq, endGreenIf_eq]
        rfl
    _ = duesTaken c p (fun j => decide (j = m)) s := by rw [hmarks, hlines, hgreen]; rfl

/-- A mark that comes due is no longer reached, and the others are as they were. -/
theorem markReached_takeDue (m j : Num8) (s : State) :
    markReached (takeDue c p m s).ct j = (markReached s.ct j && !decide (j = m)) := by
  rw [takeDue_eq, Bool.eq_iff_iff, markReached_iff, Bool.and_eq_true, markReached_iff, duesTaken_mark]
  by_cases hj : j = m
  · simp [hj]
  · simp [hj, duesTaken]

theorem foldl_takeDue {l : List Num8} (hl : l.Nodup) (s : State) :
    l.foldl (fun s m => if markReached s.ct m then takeDue c p m s else s) s
      = duesTaken c p (fun m => decide (m ∈ l) && markReached s.ct m) s := by
  induction l generalizing s with
  | nil => exact (duesTaken_none c p (fun m => by simp) s).symm
  | cons m l ih =>
    obtain ⟨hm, hl⟩ := List.nodup_cons.mp hl
    rw [List.foldl_cons, ih hl]
    cases hr : markReached s.ct m with
    | false =>
      simp only [Bool.false_eq_true, if_false]
      congr 1
      funext j
      by_cases hj : j = m
      · subst hj; simp [hr]
      · simp [hj]
    | true =>
      simp only [if_true, markReached_takeDue]
      rw [takeDue_eq, duesTaken_duesTaken]
      congr 1
      funext j
      by_cases hj : j = m
      · subst hj; simp [hr]
      · simp [hj]

/-- Every reached mark comes due (R50, R52, R55). -/
theorem takeReached_eq (s : State) : takeReached c p s = duesTaken c p (markReached s.ct) s := by
  rw [takeReached, foldl_takeDue c p (by decide) s]
  congr 1
  funext m
  simp [Num8.mem_all]

/-! ### The greens that a due ends -/

theorem mem_countingLines {d : Direction} {k : Num8} : k ∈ countingLines c p d ↔ CountsForGreen c p d k := by
  simp [countingLines, CountsForGreen, Num8.mem_all, lineMarkUsed_iff]

theorem dueEndsGreen_iff {m : Num8} {d : Direction} : dueEndsGreen c p m d = true ↔ EndsGreen c p m d := by
  unfold dueEndsGreen EndsGreen
  split
  · next h =>
    have hnone : ∀ k, ¬ CountsForGreen c p d k := fun k hk => by
      rw [← mem_countingLines, List.isEmpty_iff.mp h] at hk
      cases hk
    simp only [decide_eq_true_eq]
    exact ⟨fun hm => .inr ⟨hnone, hm⟩, fun hm => hm.elim (fun ⟨k, hk, _⟩ => absurd hk (hnone k)) (·.2)⟩
  · next h =>
    obtain ⟨k, hk⟩ := List.exists_mem_of_ne_nil _ (fun he => h (List.isEmpty_iff.mpr he))
    simp only [List.any_eq_true, decide_eq_true_eq, mem_countingLines]
    exact ⟨fun hm => .inl hm, fun hm => hm.resolve_right fun ⟨hno, _⟩ => hno k ((mem_countingLines c p).mp hk)⟩

theorem duesTaken_green_iff (due : Num8 → Bool) (s : State) (d : Direction) :
    (duesTaken c p due s).di.green.get d = true ↔
      s.di.green.get d = true ∧ ∀ m, due m = true → ¬ EndsGreen c p m d := by
  rw [duesTaken_green, Bool.and_eq_true, Bool.not_eq_true', List.any_eq_false]
  refine and_congr_right fun _ => ⟨fun h m hm he => h m (Num8.mem_all m) ?_, fun h m _ hm => ?_⟩
  · rw [hm, (dueEndsGreen_iff c p).mpr he]
    rfl
  · obtain ⟨hdue, hends⟩ := Bool.and_eq_true _ _ ▸ hm
    exact h m hdue ((dueEndsGreen_iff c p).mp hends)

/-- The dues of a set of marks are what `DuesTaken` says of it. -/
theorem duesTaken_taken {due : Num8 → Bool} {set : Num8 → Prop} (h : ∀ m, due m = true ↔ set m) (s : State) :
    DuesTaken c p set s (duesTaken c p due s) where
  lines k := by
    rw [duesTaken_line]
    refine ⟨rfl, ?_⟩
    cases hk : (c.outputs.get k).mark with
    | none => simp
    | some m => simp [h]
  greens d := by
    rw [duesTaken_green_iff]
    simp only [h]

end

end Sys2Proof.Machine

/-! ## The clock's events: steps, marks, gate points, extensions and the window (chapters Cycle Timer and Transit
Priority) -/

namespace Sys2Proof.Machine

/-! ### The step of the clock -/

theorem wrapDue_iff {t : CT} :
    wrapDue t = true ↔ t.running = true ∧ t.extension ≠ .running ∧ t.cRun ≤ t.position + 1 := by
  simp [wrapDue, and_assoc]

theorem stretches_marks (p : Plan) (v : Eight Mark) :
    v.mapNum (fun m k => if p.stretches m then { k with position := k.position + 1 } else k)
      = Eight.make (fun m => if p.base m ≠ 0 ∧ p.base p.stretch ≤ p.base m
          then ⟨(v.get m).position + 1, (v.get m).state⟩ else v.get m) := by
  refine Eight.ext_get fun m => ?_
  simp only [Eight.get_mapNum, Eight.get_make, stretches_iff]

theorem clockSteps_runs {s : State} (h : s.ct.running = true) : clockSteps s = doStep s := if_pos h

theorem doStep_wraps {s : State} (h : wrapDue s.ct = true) : doStep s = doWrap s := if_pos h

theorem doStep_plain {s : State} (h : wrapDue s.ct ≠ true) (hx : s.ct.extension ≠ .running) :
    doStep s = { s with ct := plainStep s.ct } := by
  rw [doStep, if_neg h, if_neg hx]

theorem doStep_extends {s : State} (hx : s.ct.extension = .running) {p : Plan} (hp : s.planInForce = some p) :
    doStep s = if s.ct.x < 300 then { s with ct := extensionStep p s.ct } else s := by
  have h : wrapDue s.ct ≠ true := fun hw => (wrapDue_iff.mp hw).2.1 hx
  rw [doStep, if_neg h, if_pos hx, hp]

/-- Settles O24, by the three ways of a step. -/
theorem clockStepMovesClock : Obligations.ClockStepMovesClock := by
  intro s p h hrun hp
  refine ⟨fun hx hlt => exec_of_worked h ?_, fun hx hle => ?_, fun hx hlt => exec_of_worked h ?_,
    fun hx hle => exec_of_worked h ?_⟩
  · exact (clockSteps_runs hrun).trans (doStep_plain (fun hw => by have := (wrapDue_iff.mp hw).2.2; omega) hx)
  · have hw : wrapDue s.ct = true := wrapDue_iff.mpr ⟨hrun, hx, hle⟩
    rw [exec_worked _ h, exec_worked _ h, worked, worked, clockSteps_runs hrun, doStep_wraps hw, clockWraps, if_pos hw]
  · rw [worked, clockSteps_runs hrun, doStep_extends hx hp, if_pos hlt, extensionStep, stretches_marks]
  · rw [worked, clockSteps_runs hrun, doStep_extends hx hp, if_neg (Nat.not_lt.mpr hle)]

/-! ### A mark that comes due -/

theorem markComesDue_due {s : State} {c : Configuration} {p : Plan} (hset : s.setup = some (c, p)) {m : Num8}
    (hrun : s.ct.running = true) (hearly : s.ct.earlyGreen = false) (hm : markReached s.ct m = true) :
    markComesDue m s = if p.stretches m ∧ markReached s.ct p.stretch then reachStretch c p s else takeDue c p m s := by
  simp only [markComesDue, hset]
  exact if_pos (show s.ct.running = true ∧ s.ct.earlyGreen = false ∧ markReached s.ct m = true from ⟨hrun, hearly, hm⟩)

/-- Settles O33: a mark that is not decided with the stretch mark comes due alone. -/
theorem markDueSetsItsLines : Obligations.MarkDueSetsItsLines := by
  intro s c p m h hset hrun hearly hstate hpos hnot
  have hreached : markReached s.ct m = true := markReached_iff.mpr ⟨hstate, hpos⟩
  have hdecided : ¬ (p.stretches m = true ∧ markReached s.ct p.stretch = true) := by
    rintro ⟨hst, hsr⟩
    have hbase := (stretches_iff.mp hst).2
    obtain ⟨hw, hat⟩ := markReached_iff.mp hsr
    rcases hnot with hnot | hnot | hnot
    · omega
    · exact hnot hw
    · omega
  refine ⟨_, exec_of_worked h ((markComesDue_due hset hrun hearly hreached).trans
    ((if_neg hdecided).trans (takeDue_eq c p m s))), rfl, fun k => ?_, fun k => ?_, fun d counts hcounts => ?_⟩
  · rw [duesTaken_mark]
    by_cases hk : k = m
    · subst hk
      simp
    · simp [hk]
  · rw [duesTaken_line]
    cases hk : (c.outputs.get k).mark with
    | none => simp
    | some j => by_cases hj : j = m <;> simp [hj]
  · have hmem : ∀ k, counts k ↔ CountsForGreen c p d k := hcounts
    rw [duesTaken_green_iff]
    refine and_congr_right fun _ => ?_
    simp only [decide_eq_true_eq, forall_eq, EndsGreen, hmem]

/-! ### The stretch mark's decision -/

theorem gated_false_iff {s : State} :
    gated s = false ↔ s.gt.inbound.station = none ∧ s.gt.outbound.station = none := by
  simp [gated]

theorem grantAllowed_iff {s : State} : grantAllowed s = true ↔
    (s.mc.mode = .inCharge .leading ∨ s.mc.mode = .inCharge .inStep)
      ∧ s.gt.inbound.station = none ∧ s.gt.outbound.station = none ∧ s.pa.extension = none ∧ s.pa.grantUsed = false := by
  simp only [grantAllowed, Bool.and_eq_true, Bool.or_eq_true, decide_eq_true_eq, Bool.not_eq_true', gated_false_iff,
    Option.isNone_iff_eq_none, and_assoc]

theorem blocksExtension_false_iff {c : Configuration} {entries : List Entry} {d : Direction} :
    blocksExtension c entries d = false ↔ ∀ e, downstreamNeighbour c.position entries d = some e →
      (e.approaches.get d).fedBy = c.station →
        (e.approaches.get d).storage ≠ .filling ∧ (e.approaches.get d).storage ≠ .full := by
  unfold blocksExtension
  cases downstreamNeighbour c.position entries d with
  | none => simp
  | some e => simp

/-- The stretch mark's extension is granted to the winner where R149 and R151 allow one. -/
theorem extensionWinner_eq {c : Configuration} {p : Plan} {s : State} {allowed : Prop}
    (h : allowed ↔ (s.mc.mode = .inCharge .leading ∨ s.mc.mode = .inCharge .inStep)
      ∧ s.gt.inbound.station = none ∧ s.gt.outbound.station = none ∧ s.pa.extension = none ∧ s.pa.grantUsed = false
      ∧ 0 < p.xMax
      ∧ ∀ d e, downstreamNeighbour c.position s.nt.entries d = some e → (e.approaches.get d).fedBy = c.station →
          (e.approaches.get d).storage ≠ .filling ∧ (e.approaches.get d).storage ≠ .full) :
    (allowed → extensionWinner c p s = winner s.pa.queue) ∧ (¬ allowed → extensionWinner c p s = none) := by
  have hdir : ∀ {q : Direction → Prop}, (∀ d, q d) ↔ q .inbound ∧ q .outbound := fun {q} =>
    ⟨fun hq => ⟨hq _, hq _⟩, fun hq d => by cases d; exacts [hq.1, hq.2]⟩
  have hcond : (grantAllowed s && decide (0 < p.xMax) && !blocksExtension c s.nt.entries .inbound
      && !blocksExtension c s.nt.entries .outbound) = true ↔ allowed := by
    rw [h]
    simp only [Bool.and_eq_true, Bool.not_eq_true', grantAllowed_iff, decide_eq_true_eq, blocksExtension_false_iff, hdir,
      and_assoc]
  exact ⟨fun ha => if_pos (hcond.mpr ha), fun ha => if_neg fun hb => ha (hcond.mp hb)⟩

theorem winner_nil : winner [] = none := rfl

theorem winner_high {before after : List Request} {r : Request} (hr : r.group = .high)
    (hb : ∀ q ∈ before, q.group = .low) : winner (before ++ r :: after) = some r := by
  have hfind : (before ++ r :: after).find? (fun q => decide (q.group = .high)) = some r := by
    rw [List.find?_append, List.find?_eq_none.mpr (fun q hq => by simp [hb q hq])]
    simp [hr]
  rw [winner, hfind]

theorem winner_low {after : List Request} {r : Request} (h : ∀ q ∈ r :: after, q.group = .low) :
    winner (r :: after) = some r := by
  rw [winner, List.find?_eq_none.mpr (fun q hq => by simp [h q hq])]
  rfl

/-- Where the stretch mark's extension is granted the stretched marks are held, and only the others come due. -/
theorem reachStretch_granted {c : Configuration} {p : Plan} {s : State} {r : Request}
    (h : extensionWinner c p s = some r) : reachStretch c p s
      = duesTaken c p (fun m => markReached s.ct m && !p.stretches m) (grantExtension p r s) := by
  rw [reachStretch, h]
  refine (takeReached_eq c p _).trans (congrArg (duesTaken c p · (grantExtension p r s)) (funext fun m => ?_))
  rw [Bool.eq_iff_iff, Bool.and_eq_true, markReached_iff, markReached_iff]
  simp only [grantExtension, count_ct, holdStretched, Eight.get_mapNum]
  by_cases hst : p.stretches m = true <;> by_cases hw : (s.ct.marks.get m).state = .waiting <;> simp [hst, hw]

theorem reachStretch_refused {c : Configuration} {p : Plan} {s : State} (h : extensionWinner c p s = none) :
    reachStretch c p s = duesTaken c p (markReached s.ct) s := by
  rw [reachStretch, h]
  exact takeReached_eq c p s

/-- Settles O34, by the arbiter's decision. -/
theorem stretchMarkIsDecided : Obligations.StretchMarkIsDecided := by
  intro s c p i h hset hst hrun hearly hstate hpos hbase histate hipos allowed hallowed
  obtain ⟨hyes, hno⟩ := extensionWinner_eq hallowed
  have hreached : markReached s.ct i = true := markReached_iff.mpr ⟨histate, hipos⟩
  have hdecided : p.stretches i = true ∧ markReached s.ct p.stretch = true :=
    ⟨stretches_iff.mpr ⟨by omega, hbase⟩, markReached_iff.mpr ⟨hstate, hpos⟩⟩
  have hexec : ∀ t, reachStretch c p s = t → exec (.markDue i) s = .next t := fun t ht =>
    exec_of_worked h ((markComesDue_due hset hrun hearly hreached).trans ((if_pos hdecided).trans ht))
  refine ⟨fun r ha hr => ⟨_, hexec _ (reachStretch_granted ((hyes ha).trans hr)), rfl, rfl, rfl, fun m h0 hm hw => ?_,
    fun m hm hw hat => ?_, fun m hm => ?_, ?_, rfl⟩, fun ha => ?_⟩
  · have hs : p.stretches m = true := stretches_iff.mpr ⟨h0, hm⟩
    simp [hs, hw, grantExtension, holdStretched]
  · have hs : p.stretches m = false := (not_stretches_iff hst).mpr hm
    simp [hs, hw, markReached, hat, grantExtension, holdStretched]
  · have hnotdue : (markReached s.ct m && !p.stretches m) = false := by
      rw [Bool.and_eq_false_iff, ← Bool.not_eq_true, markReached_iff]
      rcases hm with hm | ⟨-, hm⟩
      · exact .inl fun hr => hm hr.1
      · exact .inl fun hr => absurd hr.2 (Nat.not_le.mpr hm)
    have hheld : ¬ (p.stretches m = true ∧ (s.ct.marks.get m).state = .waiting) := by
      rintro ⟨hs, hw⟩
      rcases hm with hm | ⟨hm, -⟩
      · exact hm hw
      · have := (stretches_iff.mp hs).2
        omega
    rw [duesTaken_mark, hnotdue]
    simp [grantExtension, holdStretched, hheld]
  · have hdues := duesTaken_taken c p (set := fun m => p.base m < p.base p.stretch ∧ (s.ct.marks.get m).state = .waiting
      ∧ (s.ct.marks.get m).position ≤ s.ct.position) (due := fun m => markReached s.ct m && !p.stretches m)
      (fun m => by rw [Bool.and_eq_true, markReached_iff, Bool.not_eq_true', not_stretches_iff hst, and_comm])
      (grantExtension p r s)
    exact ⟨hdues.lines, hdues.greens⟩
  · have hnone : extensionWinner c p s = none := by
      by_cases hy : allowed
      · rw [hyes hy, ha.resolve_left (not_not_intro hy), winner_nil]
      · exact hno hy
    refine ⟨_, hexec _ (reachStretch_refused hnone), rfl, rfl, rfl, fun m => ?_, fun k => ?_,
      duesTaken_taken c p (fun m => markReached_iff) s, rfl⟩
    · rw [duesTaken_mark]
      by_cases hm : markReached s.ct m = true
      · rw [if_pos hm, if_pos (markReached_iff.mp hm)]
      · rw [if_neg hm, if_neg fun hr => hm (markReached_iff.mpr hr)]
    · rw [duesTaken_line]
      cases (c.outputs.get k).mark with
      | none => rfl
      | some m => simp [markReached]

/-! ### Gate points -/

/-- Settles O35: the direction's gate setting. -/
theorem gatePointSetsItsLines : Obligations.GatePointSetsItsLines := by
  intro s c p d n g h hset hrun hstation hpoint hnot hle counts hcounts
  have hmem : ∀ k, counts k ↔ k ∈ countingLines c p d := fun k => (hcounts k).trans (mem_countingLines c p).symm
  have hdue : gateDue s d = true := by simp [gateDue, hrun, hstation, hpoint, hnot, hle]
  have hexec : exec (.gatePointReached d) s = .next (reachGate c p d s) := by
    refine exec_of_worked h ?_
    simp only [worked, gatePointComes, hset]
    exact if_pos hdue
  refine ⟨_, hexec, ?_, fun k hk => ?_, fun k hk => ?_, fun ⟨k, hk⟩ => ?_, fun hno => ?_⟩
  · rw [reachGate, gateSetting, endGreenIf_eq]
    rfl
  · rw [reachGate, gateSetting, endGreenIf_olu, setLines_get]
    exact if_pos (decide_eq_true ((hmem k).mp hk))
  · rw [reachGate, gateSetting, endGreenIf_olu, setLines_get]
    exact if_neg fun hd => hk ((hmem k).mpr (of_decide_eq_true hd))
  · have hne : (countingLines c p d).isEmpty = false := by
      rw [List.isEmpty_eq_false_iff]
      exact List.ne_nil_of_mem ((hmem k).mp hk)
    simp only [reachGate, gateSetting, hne]
    rfl
  · have he : (countingLines c p d).isEmpty = true := List.isEmpty_iff.mpr
      (List.eq_nil_iff_forall_not_mem.mpr fun k hk => hno k ((hmem k).mpr hk))
    simp only [reachGate, gateSetting, he]
    rfl

/-! ### The early window -/

theorem foldl_lastUsed (l : List Mark) (n x : Nat) :
    l.foldl (fun n k => if k.state = .unused then n else max n k.position) n ≤ x
      ↔ n ≤ x ∧ ∀ k ∈ l, k.state ≠ .unused → k.position ≤ x := by
  induction l generalizing n with
  | nil => simp
  | cons k l ih =>
    rw [List.foldl_cons, ih, List.forall_mem_cons]
    split
    · next hk => simp [hk]
    · next hk => simp [hk, and_assoc]

theorem forall_mem_toList {α : Type} {v : Eight α} {q : α → Prop} : (∀ a ∈ v.toList, q a) ↔ ∀ k, q (v.get k) := by
  refine ⟨fun h k => h _ (by cases k <;> simp [Eight.toList, Eight.get]), fun h => ?_⟩
  simp only [Eight.toList, List.forall_mem_cons, List.not_mem_nil, false_imp_iff, implies_true, and_true]
  exact ⟨h .n1, h .n2, h .n3, h .n4, h .n5, h .n6, h .n7, h .n8⟩

theorem lastUsedPosition_le {t : CT} {x : Nat} :
    lastUsedPosition t ≤ x ↔ ∀ m, (t.marks.get m).state ≠ .unused → (t.marks.get m).position ≤ x := by
  have hall := forall_mem_toList (v := t.marks) (q := fun k => k.state ≠ .unused → k.position ≤ x)
  rw [lastUsedPosition, foldl_lastUsed]
  exact ⟨fun h => hall.mp h.2, fun h => ⟨Nat.zero_le x, hall.mpr h⟩⟩

theorem inWindow_iff {p : Plan} {t : CT} : inWindow p t = true ↔ t.cRun ≤ t.position + p.eMax ∧ p.xMin ≤ t.position
    ∧ ∀ m, (t.marks.get m).state ≠ .unused → (t.marks.get m).position + p.xMin ≤ t.position := by
  have hlast : lastUsedPosition t + p.xMin ≤ t.position ↔ p.xMin ≤ t.position
      ∧ ∀ m, (t.marks.get m).state ≠ .unused → (t.marks.get m).position + p.xMin ≤ t.position := by
    constructor
    · intro h
      have hle := lastUsedPosition_le.mp (le_refl (lastUsedPosition t))
      exact ⟨by omega, fun m hm => by have := hle m hm; omega⟩
    · rintro ⟨hx, h⟩
      have hle := lastUsedPosition_le.mpr fun m hm => Nat.le_sub_of_add_le (h m hm)
      omega
  rw [inWindow, Bool.and_eq_true, decide_eq_true_eq, decide_eq_true_eq, hlast]

theorem decideEarly_grants {s : State} {r : Request} (h : grantAllowed s = true) (hr : winner s.pa.queue = some r) :
    decideEarly s = grantEarly r s := by
  simp only [decideEarly, if_pos h, hr]

theorem decideEarly_refuses {s : State} (h : grantAllowed s = false ∨ s.pa.queue = []) : decideEarly s = s := by
  rcases h with h | h
  · simp [decideEarly, h]
  · simp [decideEarly, h, winner_nil]

/-- Settles O36: the winner, and the decision point at the window's opening. -/
theorem windowAndWinner : Obligations.WindowAndWinner := by
  refine ⟨⟨winner_nil, fun before r after hr hb => winner_high hr hb, fun r after h => winner_low h,
    fun p t => inWindow_iff⟩, fun s p h hp hrun hopen hcut hlast hx allowed hallowed => ?_⟩
  have hdue : windowDue p s = true := by
    rw [windowDue, hrun, hopen, inWindow_iff.mpr ⟨hcut, hx, hlast⟩]
    rfl
  have hexec : ∀ t, decideEarly { s with pa := { s.pa with windowOpened := true } } = t →
      exec .windowOpening s = .next t := fun t ht => by
    refine exec_of_worked h (Eq.trans ?_ ht)
    simp only [worked, windowOpens, hp, if_pos hdue]
  have hgrant : grantAllowed { s with pa := { s.pa with windowOpened := true } } = true ↔ allowed :=
    grantAllowed_iff.trans hallowed.symm
  refine ⟨fun r ha hr => hexec _ (decideEarly_grants (hgrant.mpr ha) hr), fun hno => hexec _ (decideEarly_refuses ?_)⟩
  rcases hno with hno | hno
  · exact .inl (Bool.eq_false_iff.mpr fun hg => hno (hgrant.mp hg))
  · exact .inr hno

/-! ### Ends of extensions and of requests -/

/-- The end of an extension: the HELD marks wait again, and those that the position has reached come due. -/
theorem endExtension_eq (c : Configuration) (p : Plan) (s : State) : endExtension c p s
    = duesTaken c p (fun m => decide (s.DueAtEnd m)) { s with
        pa := { s.pa with extension := none, cycleGrant := some (.extension s.ct.x) }, ct := releaseHeld s.ct } := by
  refine (takeReached_eq c p _).trans (congrArg (duesTaken c p · _) (funext fun m => ?_))
  rw [Bool.eq_iff_iff, markReached_iff, decide_eq_true_eq]
  simp only [releaseHeld, Eight.get_mapNum]
  by_cases hh : (s.ct.marks.get m).state = .held <;> simp [hh, State.DueAtEnd]

theorem endExtension_ended (c : Configuration) (p : Plan) (s : State) : ExtensionEnded c p s (endExtension c p s) := by
  rw [endExtension_eq]
  have hdues := duesTaken_taken c p (set := s.DueAtEnd) (due := fun m => decide (s.DueAtEnd m))
    (fun m => decide_eq_true_iff) { s with
      pa := { s.pa with extension := none, cycleGrant := some (.extension s.ct.x) }, ct := releaseHeld s.ct }
  refine ⟨rfl, rfl, fun m => ?_, ⟨hdues.lines, hdues.greens⟩, ⟨rfl, rfl, rfl⟩,
    rfl, rfl, rfl, rfl, rfl, rfl, rfl, rfl, rfl, rfl, rfl, rfl⟩
  rw [duesTaken_mark]
  simp only [releaseHeld, Eight.get_mapNum, decide_eq_true_eq]
  by_cases hd : s.DueAtEnd m
  · rw [if_pos hd, if_pos hd]
    split <;> rfl
  · rw [if_neg hd, if_neg hd]

theorem withoutLine_split {before after : List Request} {r : Request} (hb : ∀ q ∈ before, q.line ≠ r.line)
    (ha : ∀ q ∈ after, q.line ≠ r.line) : withoutLine r.line (before ++ r :: after) = before ++ after := by
  rw [withoutLine, List.filter_append, List.filter_cons_of_neg (by simp),
    List.filter_eq_self.mpr fun q hq => decide_eq_true (hb q hq), List.filter_eq_self.mpr fun q hq => decide_eq_true (ha q hq)]

/-- Settles O37: the end of an extension, and the removal of one line's request. -/
theorem extensionsAndRequestsEnd : Obligations.ExtensionsAndRequestsEnd := by
  refine ⟨fun s c p e h hset he hle => ⟨_, exec_of_worked (t := endExtension c p s) h ?_, endExtension_ended c p s⟩,
    fun s p before after r h hp hq hb ha hage => exec_of_worked h ?_⟩
  · simp only [worked, extensionRunsOut, hset]
    exact if_pos (by simp only [limitReached, he, decide_eq_true hle])
  · have haged : requestAged p r.line s = true :=
      List.any_eq_true.mpr ⟨r, by simp [hq], by simp [hage]⟩
    simp only [worked, requestRunsOut, hp, if_pos haged, expireRequest, hq, withoutLine_split hb ha]
    rfl

end Sys2Proof.Machine

/-! ## The detector lines and the cabinet inputs (chapter Detector Inputs, section 5.2) -/

namespace Sys2Proof.Machine

/-! ### Roles, lines and storage states -/

theorem roleAdvance_iff {r : Role} {d : Direction} : roleAdvance r = some d ↔ r = advanceRole d := by
  cases r <;> cases d <;> simp [roleAdvance, advanceRole]

theorem roleAdvance_none_iff {r : Role} : roleAdvance r = none ↔ ∀ d, r ≠ advanceRole d := by
  rw [Option.eq_none_iff_forall_ne_some]
  exact forall_congr' fun d => not_congr roleAdvance_iff

theorem set_set {α : Type} (v : Eight α) (k : Num8) (x y : α) : (v.set k x).set k y = v.set k y := by
  cases k <;> rfl

theorem setLine_setLine (k : Num8) (x y : DetectorLine) (s : State) :
    setLine k y (setLine k x s) = setLine k y s := by
  simp only [setLine, set_set]

theorem setLine_get (k : Num8) (x : DetectorLine) (s : State) : (setLine k x s).di.lines.get k = x := by
  simp [setLine]

/-- A storage state changes; in charge a STORAGE frame is requested where FULL is entered or left (R77). -/
theorem setStorage_eq (d : Direction) (v : Storage) (s : State) : setStorage d v s = { s with
    di := { s.di with storage := s.di.storage.set d v }
    lc := if s.inCharge = true ∧ ¬ (s.di.storage.get d = .full ↔ v = .full) then fillStorage s.lc else s.lc } := by
  by_cases h : s.di.storage.get d = .full ↔ v = .full
  · rw [if_neg fun hn => hn.2 h]
    exact if_pos h
  · cases hin : s.inCharge with
    | true =>
      rw [if_pos ⟨rfl, h⟩]
      exact (if_neg h).trans (if_pos hin)
    | false =>
      rw [if_neg fun hn => Bool.false_ne_true hn.1]
      exact (if_neg h).trans (if_neg (Bool.eq_false_iff.mp hin))

theorem setStorage_quiet {d : Direction} {v : Storage} {s : State} (h : s.di.storage.get d = .full ↔ v = .full) :
    setStorage d v s = { s with di := { s.di with storage := s.di.storage.set d v } } := by
  rw [setStorage_eq, if_neg fun hn => hn.2 h]

theorem set_get {α : Type} (v : PerDir α) (d : Direction) : v.set d (v.get d) = v := by cases d <;> rfl

/-- The storage states once the line of a direction has left FAULTY (R76). -/
def recoveredStorage (c : Configuration) (k : Num8) (v : PerDir Storage) : PerDir Storage :=
  match roleAdvance (c.role k) with
  | some d => if v.get d = .unknown then v.set d .clear else v
  | none => v

theorem recoveredStorage_get (c : Configuration) (k : Num8) (v : PerDir Storage) (d : Direction) :
    (recoveredStorage c k v).get d = if c.role k = advanceRole d ∧ v.get d = .unknown then .clear else v.get d := by
  unfold recoveredStorage
  cases hr : roleAdvance (c.role k) with
  | none => simp [roleAdvance_none_iff.mp hr d]
  | some e =>
    rw [roleAdvance_iff] at hr
    by_cases hd : d = e
    · subst hd
      by_cases hu : v.get d = .unknown <;> simp [hr, hu]
    · have hne : advanceRole e ≠ advanceRole d := by
        cases d <;> cases e <;> simp_all [advanceRole]
      simp only [hr, hne, false_and, if_false]
      split
      · rw [PerDir.get_set, if_neg hd]
      · rfl

theorem storageRecovers_eq (c : Configuration) (k : Num8) (s : State) :
    storageRecovers c k s = { s with di := { s.di with storage := recoveredStorage c k s.di.storage } } := by
  unfold storageRecovers recoveredStorage
  cases roleAdvance (c.role k) with
  | none => rfl
  | some d =>
    by_cases hu : s.di.storage.get d = .unknown
    · simp only [if_pos hu]
      exact setStorage_quiet (by simp [hu])
    · simp only [if_neg hu]

/-! ### A raw input's change -/

theorem risingEdge_setLine {c : Configuration} {p : Plan} {k : Num8} {s : State} (x : DetectorLine) (b : Bool) :
    risingEdge c p k (setLine k { x with timing := b } s) = risingEdge c p k (setLine k x s) := by
  simp only [risingEdge, setLine_get, setLine_setLine]
  rfl

theorem fallingEdge_setLine {c : Configuration} {p : Plan} {k : Num8} {s : State} (x : DetectorLine) (b : Bool) :
    fallingEdge c p k (setLine k { x with timing := b } s) = fallingEdge c p k (setLine k x s) := by
  simp only [fallingEdge, setLine_get, setLine_setLine]
  rfl

theorem lineRises_due {s : State} {c : Configuration} {p : Plan} (hset : s.setup = some (c, p)) {k : Num8}
    (hrole : c.role k ≠ .unused) (ht : (s.di.lines.get k).timing = true) (hr : (s.di.lines.get k).raw = true)
    (ho : (s.di.lines.get k).occupied = false) : lineRises k s = risingEdge c p k s := by
  simp only [lineRises, hset]
  refine if_pos (show roleUsed (c.role k) = true ∧ risingDue (s.di.lines.get k) = true from ⟨roleUsed_iff.mpr hrole, ?_⟩)
  simp [risingDue, ht, hr, ho]

theorem lineFalls_due {s : State} {c : Configuration} {p : Plan} (hset : s.setup = some (c, p)) {k : Num8}
    (hrole : c.role k ≠ .unused) (ht : (s.di.lines.get k).timing = true) (hr : (s.di.lines.get k).raw = false)
    (ho : (s.di.lines.get k).occupied = true) : lineFalls k s = fallingEdge c p k s := by
  simp only [lineFalls, hset]
  refine if_pos (show roleUsed (c.role k) = true ∧ fallingDue (s.di.lines.get k) = true from ⟨roleUsed_iff.mpr hrole, ?_⟩)
  simp [fallingDue, ht, hr, ho]

theorem detectorChanges_used {s : State} {c : Configuration} {p : Plan} (hset : s.setup = some (c, p)) {k : Num8}
    (hrole : c.role k ≠ .unused) (v : Bool) : detectorChanges k v s = filterLevel c p k (setRaw k v s) := by
  simp only [detectorChanges, hset, if_pos (roleUsed_iff.mpr hrole)]

theorem filterLevel_setLine {c : Configuration} {p : Plan} {k : Num8} {s : State} (x : DetectorLine) :
    filterLevel c p k (setLine k x s) = if x.raw = x.occupied then setLine k { x with timing := false } s
      else if (c.detectors.get k).filter = 0 then
        (if x.raw then risingEdge c p k (setLine k x s) else fallingEdge c p k (setLine k x s))
      else setLine k { x with timing := true } s := by
  simp only [filterLevel, setLine_get, setLine_setLine]

/-- The edge that a line without filter time times is its filtered edge. -/
theorem exec_edge {c : Configuration} {p : Plan} {k : Num8} {s : State} {l : DetectorLine} {v : Bool}
    (h : s.powered = true) (hset : s.setup = some (c, p)) (hrole : c.role k ≠ .unused) (hv : v ≠ l.occupied) :
    exec (if v then .filteredRisingEdge k else .filteredFallingEdge k) (setLine k { l with raw := v, timing := true } s)
      = .next (if v then risingEdge c p k (setLine k { l with raw := v } s)
          else fallingEdge c p k (setLine k { l with raw := v } s)) := by
  have hset' : (setLine k { l with raw := v, timing := true } s).setup = some (c, p) := hset
  have hpow : (setLine k { l with raw := v, timing := true } s).powered = true := h
  have hline := setLine_get k { l with raw := v, timing := true } s
  cases v with
  | true =>
    have ho : l.occupied = false := by simpa using hv
    exact exec_of_worked hpow ((lineRises_due hset' hrole (by rw [hline]) (by rw [hline]) (by rw [hline, ho])).trans
      (risingEdge_setLine { l with raw := true } true))
  | false =>
    have ho : l.occupied = true := by simpa using hv
    exact exec_of_worked hpow ((lineFalls_due hset' hrole (by rw [hline]) (by rw [hline]) (by rw [hline, ho])).trans
      (fallingEdge_setLine { l with raw := false } true))

/-- Settles O43, by the filter's three ways. -/
theorem detectorInputIsFiltered : Obligations.DetectorInputIsFiltered := by
  intro s k v l u h hl hu
  have hu' : ∀ x, u x = setLine k x s := hu
  have hraw : setRaw k v s = u { l with raw := v } := by rw [hu', hl]; rfl
  refine ⟨fun hset => exec_of_worked h ?_, fun c p hset => ⟨fun hrole => exec_of_worked h ?_,
    fun hrole hv => exec_of_worked h ?_, fun hrole hv hf => exec_of_worked h ?_, fun hrole hv hf => ?_⟩⟩
  · simp only [worked, detectorChanges, hset, hraw]
  · simp only [worked, detectorChanges, hset, hraw, hrole, roleUsed, Bool.false_eq_true, if_false]
  · rw [worked, detectorChanges_used hset hrole, hraw, hu', hu', filterLevel_setLine]
    exact if_pos hv
  · rw [worked, detectorChanges_used hset hrole, hraw, hu', hu', filterLevel_setLine]
    exact (if_neg hv).trans (if_neg hf)
  · rw [exec_worked _ h, worked, detectorChanges_used hset hrole, hraw, hu', hu', filterLevel_setLine,
      exec_edge h hset hrole hv]
    exact congrArg Host.Outcome.next ((if_neg hv).trans (if_pos hf))

/-! ### Edges of a counting line -/

/-- A line's edge, short of what a transit line's request does. -/
def risenState (c : Configuration) (k : Num8) (s : State) : State := { s with di := { s.di with
  lines := s.di.lines.set k (risenLine (c.role k) s.di.green (s.di.lines.get k))
  storage := if (s.di.lines.get k).fault = .stuckOff then recoveredStorage c k s.di.storage else s.di.storage } }

def fallenState (c : Configuration) (k : Num8) (s : State) : State := { s with di := { s.di with
  lines := s.di.lines.set k (fallenLine (s.di.lines.get k))
  storage := if (s.di.lines.get k).fault = .stuckOn then recoveredStorage c k s.di.storage else s.di.storage } }

theorem recovers_eq (c : Configuration) (k : Num8) (x : DetectorLine) (s : State) (b : Prop) [Decidable b] :
    (if b then storageRecovers c k (setLine k x s) else setLine k x s) = { s with di := { s.di with
      lines := s.di.lines.set k x
      storage := if b then recoveredStorage c k s.di.storage else s.di.storage } } := by
  by_cases h : b
  · rw [if_pos h, if_pos h, storageRecovers_eq]
    rfl
  · rw [if_neg h, if_neg h]
    rfl

theorem risingEdge_counting {c : Configuration} {k : Num8} (h : roleTransit (c.role k) = none) (p : Plan) (s : State) :
    risingEdge c p k s = risenState c k s := by
  simp only [risingEdge, h]
  exact recovers_eq c k _ s _

theorem risingEdge_transit {c : Configuration} {k : Num8} {g : TransitGroup} (h : roleTransit (c.role k) = some g)
    (p : Plan) (s : State) : risingEdge c p k s =
      if (risenLine (c.role k) s.di.green (s.di.lines.get k)).fault = .good then requestArrives p k g (risenState c k s)
      else risenState c k s := by
  simp only [risingEdge, h, recovers_eq]
  rfl

theorem fallingEdge_counting {c : Configuration} {k : Num8} (h : roleTransit (c.role k) = none) (p : Plan) (s : State) :
    fallingEdge c p k s = fallenState c k s := by
  simp only [fallingEdge, h]
  exact recovers_eq c k _ s _

theorem fallingEdge_transit {c : Configuration} {k : Num8} {g : TransitGroup} (h : roleTransit (c.role k) = some g)
    (p : Plan) (s : State) : fallingEdge c p k s = withdraw c p k (fallenState c k s) := by
  simp only [fallingEdge, h, recovers_eq]
  rfl

theorem roleTransit_none {r : Role} (hh : r ≠ .transitHigh) (hl : r ≠ .transitLow) : roleTransit r = none := by
  cases r <;> simp_all [roleTransit]

theorem countEdge_advance {r : Role} {d : Direction} (h : r = advanceRole d) (green : PerDir Bool) (n : Counts) :
    countEdge r green n = if green.get d then { n with onGreen := min (n.onGreen + 1) 255 }
      else { n with onRed := min (n.onRed + 1) 255 } := by
  simp only [countEdge, roleAdvance_iff.mpr h]
  rfl

theorem countEdge_other {r : Role} (h : ∀ d, r ≠ advanceRole d) (hr : roleCounts r = true) (green : PerDir Bool)
    (n : Counts) : countEdge r green n = { n with count := min (n.count + 1) 255 } := by
  simp only [countEdge, roleAdvance_none_iff.mpr h, if_pos hr]
  rfl

theorem countEdge_transit {r : Role} {g : TransitGroup} (h : roleTransit r = some g) (green : PerDir Bool) (n : Counts) :
    countEdge r green n = n := by
  cases r with
  | transitHigh | transitLow => rfl
  | _ => cases h

theorem roleTransit_ne_unused {r : Role} {g : TransitGroup} (h : roleTransit r = some g) : r ≠ .unused := by
  rintro rfl
  cases h

theorem ite_and_storage {b q : Prop} [Decidable b] [Decidable q] (a : Prop) [Decidable a] (x y : Storage) :
    (if b then (if a ∧ q then x else y) else y) = if a ∧ b ∧ q then x else y := by
  by_cases hb : b <;> simp [hb]

theorem recovered_get (c : Configuration) (k : Num8) (v : PerDir Storage) (b : Prop) [Decidable b] (d : Direction) :
    (if b then recoveredStorage c k v else v).get d
      = if c.role k = advanceRole d ∧ b ∧ v.get d = .unknown then .clear else v.get d := by
  rw [← ite_and_storage, ← recoveredStorage_get]
  split <;> rfl

/-- Settles O44, by the line risen and its counts. -/
theorem risingEdgeIsCounted : Obligations.RisingEdgeIsCounted := by
  rintro s c p k l h hset rfl ht hr ho hrole hhigh hlow
  have htransit := roleTransit_none hhigh hlow
  refine ⟨_, exec_of_worked h ((lineRises_due hset hrole ht hr ho).trans (risingEdge_counting htransit p s)), ?_⟩
  simp only [risenState, Eight.get_set_same, recovered_get]
  refine ⟨trivial, rfl, fun d hd => countEdge_advance hd _ _, fun hno => countEdge_other hno ?_ _ _, fun d => trivial⟩
  cases hc : c.role k <;> simp_all [roleCounts]

/-! ### Edges of a transit line -/

theorem risenState_transit {c : Configuration} {k : Num8} {g : TransitGroup} (h : roleTransit (c.role k) = some g) {s : State}
    (hf : (s.di.lines.get k).fault ≠ .stuckOff) : risenState c k s = setLine k { s.di.lines.get k with
      occupied := true, timing := false, occupiedRun := 0, vacantRun := 0 } s := by
  simp only [risenState, risenLine, countEdge_transit h, if_neg hf]
  rfl

theorem requestArrives_joins {p : Plan} {k : Num8} {g : TransitGroup} {s : State} (hin : s.inCharge = true) :
    requestArrives p k g s = if s.ct.running && inWindow p s.ct
      then decideEarly { s with pa := { s.pa with queue := s.pa.queue ++ [⟨k, g, 0⟩] } }
      else { s with pa := { s.pa with queue := s.pa.queue ++ [⟨k, g, 0⟩] } } := if_pos hin

/-- Settles O45: the request that arrives, and its decision point. -/
theorem transitRiseRaisesRequest : Obligations.TransitRiseRaisesRequest := by
  rintro s c p k g l u h hset rfl ht hr ho htransit hf hu
  have hrisen : risenState c k s = u := (risenState_transit htransit hf).trans hu.symm
  have hfault : (risenLine (c.role k) s.di.green (s.di.lines.get k)).fault = (s.di.lines.get k).fault := if_neg hf
  have hexec : ∀ t, (if (s.di.lines.get k).fault = .good then requestArrives p k g u else u) = t →
      exec (.filteredRisingEdge k) s = .next t := fun t ht' => by
    refine exec_of_worked h ((lineRises_due hset (roleTransit_ne_unused htransit) ht hr ho).trans ?_)
    rw [risingEdge_transit htransit, hfault, hrisen]
    exact ht'
  have harrives : s.inCharge = true → requestArrives p k g u = if s.ct.running && inWindow p s.ct
      then decideEarly { u with pa := { s.pa with queue := s.pa.queue ++ [⟨k, g, 0⟩] } }
      else { u with pa := { s.pa with queue := s.pa.queue ++ [⟨k, g, 0⟩] } } := fun hin => by
    subst hu
    exact requestArrives_joins hin
  subst hu
  refine ⟨fun hno => hexec _ ?_, fun hgood hin hno => hexec _ ?_, fun hgood hmode hrun hwin hused hgate hext r hwinner =>
    hexec _ ?_⟩
  · rcases hno with hno | hno
    · rw [hno]
      rfl
    · refine (if_congr Iff.rfl (if_neg ?_) rfl).trans (ite_self _)
      exact fun hin => Bool.false_ne_true (hno.symm.trans hin)
  · refine (if_pos hgood).trans ((harrives hin).trans ?_)
    by_cases hwindow : (s.ct.running && inWindow p s.ct) = true
    · obtain ⟨hrun, hwin⟩ := Bool.and_eq_true _ _ ▸ hwindow
      refine (if_pos hwindow).trans (decideEarly_refuses (.inl ?_))
      rw [Bool.eq_false_iff]
      intro hallowed
      obtain ⟨hmode, hgi, hgo, hext, hused⟩ := grantAllowed_iff.mp hallowed
      rcases hno with hno | hno | hno | hno | hno | hno
      · exact Bool.false_ne_true (hno.symm.trans hrun)
      · exact Bool.false_ne_true (hno.symm.trans hwin)
      · exact Bool.false_ne_true (hused.symm.trans hno)
      · rcases hmode with hmode | hmode
        · cases hno.symm.trans hmode
        · cases hno.symm.trans hmode
      · exact Bool.false_ne_true ((gated_false_iff.mpr ⟨hgi, hgo⟩).symm.trans hno)
      · exact hno hext
    · exact if_neg hwindow
  · have hin : s.inCharge = true := by
      rcases hmode with hmode | hmode <;> simp [State.inCharge, hmode, modeInCharge]
    have hwindow : (s.ct.running && inWindow p s.ct) = true := by rw [hrun, hwin]; rfl
    obtain ⟨hgi, hgo⟩ := gated_false_iff.mp hgate
    refine (if_pos hgood).trans ((harrives hin).trans ?_)
    exact (if_pos hwindow).trans (decideEarly_grants (grantAllowed_iff.mpr ⟨hmode, hgi, hgo, hext, hused⟩) hwinner)

/-- Settles O46: the line fallen, and the three ways of a withdrawal. -/
theorem fallingEdgeVacatesAndWithdraws : Obligations.FallingEdgeVacatesAndWithdraws := by
  rintro s c p k l u h hset rfl ht hr ho hrole hu hstorage
  have hfallen : fallenState c k s = u := by
    have hsame : u.di.storage = if (s.di.lines.get k).fault = .stuckOn then recoveredStorage c k s.di.storage
        else s.di.storage := PerDir_ext fun d => by rw [hstorage, recovered_get]
    rw [hu, hsame]
    rfl
  have hpa : u.pa = s.pa := by rw [hu]
  have hexec : ∀ t, fallingEdge c p k s = t → exec (.filteredFallingEdge k) s = .next t := fun t ht' =>
    exec_of_worked h ((lineFalls_due hset hrole ht hr ho).trans ht')
  refine ⟨fun hno => hexec _ ((fallingEdge_counting hno p s).trans hfallen), fun g hg => ?_⟩
  have hwithdraw : ∀ t, withdraw c p k u = t → exec (.filteredFallingEdge k) s = .next t := fun t ht' =>
    hexec t ((fallingEdge_transit hg p s).trans (hfallen ▸ ht'))
  refine ⟨fun ⟨r, hr', hrk⟩ => hwithdraw _ ?_, fun hnone => ?_⟩
  · have hany : u.pa.queue.any (fun r => decide (r.line = k)) = true :=
      List.any_eq_true.mpr ⟨r, hpa ▸ hr', decide_eq_true hrk⟩
    rw [withdraw, if_pos hany, hpa]
    rfl
  · have hany : u.pa.queue.any (fun r => decide (r.line = k)) = false :=
      List.any_eq_false.mpr fun r hr' => by simpa using hnone r (hpa ▸ hr')
    refine ⟨fun hother => hwithdraw _ ?_, fun e he hek => ⟨endExtension c p u, hwithdraw _ ?_, endExtension_ended c p u⟩⟩
    · rw [withdraw, hany, if_neg Bool.false_ne_true, hpa]
      split
      · next e he => exact if_neg (hother e he)
      · rfl
    · rw [withdraw, hany, if_neg Bool.false_ne_true, hpa, he]
      exact if_pos hek

/-! ### Faults and FULL -/

theorem enterFault_advance {c : Configuration} {k : Num8} {d : Direction} (h : c.role k = advanceRole d) (v : FaultState)
    (s : State) : enterFault c k v s = { s with
      di := { s.di with lines := s.di.lines.set k { s.di.lines.get k with fault := v }
                        storage := s.di.storage.set d .unknown }
      counters := s.counters.bump .detectorFault
      cp := { s.cp with flags := s.cp.flags ||| Flag.detectorFault.word }
      lc := if s.inCharge = true ∧ s.di.storage.get d = .full then fillStorage s.lc else s.lc } := by
  simp only [enterFault, roleAdvance_iff.mpr h, setStorage_eq]
  have hfull : ¬ (s.di.storage.get d = .full ↔ Storage.unknown = .full) ↔ s.di.storage.get d = .full := by simp
  simp only [setFlag_di, count_di, setLine_di, hfull]
  rfl

theorem enterFault_other {c : Configuration} {k : Num8} (h : ∀ d, c.role k ≠ advanceRole d) (v : FaultState)
    (s : State) : enterFault c k v s = { s with
      di := { s.di with lines := s.di.lines.set k { s.di.lines.get k with fault := v } }
      counters := s.counters.bump .detectorFault
      cp := { s.cp with flags := s.cp.flags ||| Flag.detectorFault.word } } := by
  simp only [enterFault, roleAdvance_none_iff.mpr h]
  rfl

theorem fullDue_iff {c : Configuration} {d : Direction} {k : Num8} (hk : c.advanceLine d = some k) {p : Plan} {s : State} :
    fullDue c p d s = true ↔ (s.di.storage.get d = .clear ∨ s.di.storage.get d = .filling)
      ∧ (s.di.lines.get k).occupied = true ∧ p.fFull ≤ (s.di.lines.get k).occupiedRun := by
  simp [fullDue, hk, and_assoc]

theorem releaseDue_iff {c : Configuration} {d : Direction} {k : Num8} (hk : c.advanceLine d = some k) {p : Plan}
    {s : State} : releaseDue c p d s = true ↔ s.di.storage.get d = .full
      ∧ (s.di.lines.get k).occupied = false ∧ p.fRel ≤ (s.di.lines.get k).vacantRun := by
  simp [releaseDue, hk, and_assoc]

theorem advanceRole_injective {d e : Direction} (h : advanceRole d = advanceRole e) : d = e := by
  cases d <;> cases e <;> simp_all [advanceRole]

/-- Settles O47: the fault entered, and the two storage changes. -/
theorem faultsAndFullEntries : Obligations.FaultsAndFullEntries := by
  refine ⟨?_, fun s c p d k h hset hk => ⟨fun hst ho hrun => exec_of_worked h ?_,
    fun hst ho hrun => exec_of_worked h ?_⟩⟩
  · rintro s c k l h hc rfl hrole ho hrun hf
    have hdue : stuckOnDue c k (s.di.lines.get k) = true := by
      simp [stuckOnDue, roleUsed_iff.mpr hrole, ho, Configuration.stuckOnLimit, hrun, hf]
    refine ⟨enterFault c k .stuckOn s, exec_of_worked h ?_, ?_⟩
    · simp only [worked, lineSticksOn, config_good hc, if_pos hdue]
    · by_cases hadv : ∃ d, c.role k = advanceRole d
      · obtain ⟨d, hd⟩ := hadv
        rw [enterFault_advance hd]
        refine ⟨rfl, fun e => ?_, if_congr ?_ rfl rfl⟩
        · rw [PerDir.get_set, hd]
          exact if_congr ⟨fun he => he ▸ rfl, fun he => (advanceRole_injective he).symm⟩ rfl rfl
        · rw [hd]
          cases d <;> simp [advanceRole, PerDir.get]
      · rw [not_exists] at hadv
        rw [enterFault_other hadv]
        refine ⟨rfl, fun e => (if_neg (hadv e)).symm, (if_neg ?_).symm⟩
        rintro ⟨-, ⟨hr, -⟩ | ⟨hr, -⟩⟩
        · exact hadv .inbound hr
        · exact hadv .outbound hr
  · have hnotfull : s.di.storage.get d ≠ .full := by rcases hst with hst | hst <;> simp [hst]
    simp only [worked, directionFills, hset, enterFullWhenDue, if_pos ((fullDue_iff hk).mpr ⟨hst, ho, hrun⟩), setStorage_eq]
    simp [hnotfull]
  · simp only [worked, directionClears, hset, if_pos ((releaseDue_iff hk).mpr ⟨hst, ho, hrun⟩), setStorage_eq]
    simp [hst]

/-! ### The cabinet inputs -/

/-- Settles O48. -/
theorem cabinetInputsAreFiltered : Obligations.CabinetInputsAreFiltered := by
  refine fun s v h => ⟨exec_of_worked h rfl, exec_of_worked h rfl, fun hsync => exec_of_worked h ?_⟩
  have hfalls : inputFalls s.mc.sync = true := by rw [hsync]; rfl
  rw [worked, syncFalls, if_pos hfalls, changeInput, hsync]
  rfl

end Sys2Proof.Machine

/-! ## Gating at a report of the Neighbour Table (R35, R66, R134 to R139, R161)

A gate setting SETs the lines that count for its direction and ends that green; the placing of a gate point, the entering
of gating and the judging of a direction are then told field by field. -/

namespace Sys2Proof.Machine

/-! ### A gate setting -/

section
variable (c : Configuration) (p : Plan) (d : Direction) (s : State)

theorem countsForGreen_iff {k : Num8} :
    CountsForGreen c p d k ↔ (c.outputs.get k).gate = some d ∧ lineMarkUsed (c.outputs.get k) p = true := by
  rw [lineMarkUsed_iff]
  rfl

theorem countingLines_isEmpty : (countingLines c p d).isEmpty = false ↔ ∃ k, CountsForGreen c p d k := by
  rw [List.isEmpty_eq_false_iff_exists_mem]
  exact exists_congr fun k => mem_countingLines c p

theorem gateSetting_line (k : Num8) : (gateSetting c p d s).olu.get k =
    if k ∈ countingLines c p d then { s.olu.get k with drive := true } else s.olu.get k := by
  simp only [gateSetting, endGreenIf_olu, setLines_get, decide_eq_true_eq]

theorem gateSetting_green (e : Direction) : (gateSetting c p d s).di.green.get e = true ↔
    s.di.green.get e = true ∧ ¬ (e = d ∧ ∃ k, CountsForGreen c p d k) := by
  rw [gateSetting, endGreenIf_green, setLines_di, ← countingLines_isEmpty c p d]
  cases (countingLines c p d).isEmpty <;> simp

theorem gateSetting_eq : gateSetting c p d s = { s with
    olu := (gateSetting c p d s).olu, di := { s.di with green := (gateSetting c p d s).di.green } } := by
  rw [gateSetting, endGreenIf_eq]
  rfl

/-! ### The placing of a gate point -/

/-- A direction's gating state once its gate point has been placed (R138, R139). -/
def placedGate (p : Plan) (x : Nat) (g : Gate) : Gate :=
  { g with point := some (max p.gateMin x), reached := g.reached || decide (p.gateMin ≤ x) }

theorem placeGate_now (h : p.gateMin ≤ s.ct.position) : placeGate c p d s
    = gateSetting c p d (setGate d (placedGate p s.ct.position (s.gt.get d)) s) := by
  refine (if_pos h).trans (congrArg (gateSetting c p d) ?_)
  simp only [setGate, PerDir.get_set_same, placedGate, decide_eq_true h, Bool.or_true]
  cases d <;> rfl

theorem placeGate_later (h : ¬ p.gateMin ≤ s.ct.position) : placeGate c p d s
    = setGate d (placedGate p s.ct.position (s.gt.get d)) s := by
  refine (if_neg h).trans ?_
  simp only [placedGate, decide_eq_false h, Bool.or_false]

theorem placeGate_line (k : Num8) : (placeGate c p d s).olu.get k =
    if p.gateMin ≤ s.ct.position ∧ k ∈ countingLines c p d then { s.olu.get k with drive := true } else s.olu.get k := by
  by_cases h : p.gateMin ≤ s.ct.position
  · rw [placeGate_now c p d s h, gateSetting_line]
    simp only [h, true_and, setGate_olu]
  · rw [placeGate_later c p d s h, if_neg fun hn => h hn.1]
    rfl

theorem placeGate_green (e : Direction) : (placeGate c p d s).di.green.get e = true ↔
    s.di.green.get e = true ∧ ¬ (e = d ∧ p.gateMin ≤ s.ct.position ∧ ∃ k, CountsForGreen c p d k) := by
  by_cases h : p.gateMin ≤ s.ct.position
  · rw [placeGate_now c p d s h, gateSetting_green]
    simp only [h, true_and, setGate_di]
  · rw [placeGate_later c p d s h]
    simp only [h, false_and, and_false, not_false_eq_true, and_true, setGate_di]

theorem placeGate_eq : placeGate c p d s = { s with
    gt := s.gt.set d (placedGate p s.ct.position (s.gt.get d))
    olu := (placeGate c p d s).olu, di := { s.di with green := (placeGate c p d s).di.green } } := by
  by_cases h : p.gateMin ≤ s.ct.position
  · rw [placeGate_now c p d s h, gateSetting_eq]
    rfl
  · rw [placeGate_later c p d s h]
    rfl

end

/-! ### A direction is judged -/

/-- The gate of a direction that has become ON, before its gate point is placed (R135). -/
def enteredGate (n : Nat) (g : Gate) : Gate :=
  { g with station := some n, marks := { g.marks with active := true, entered := true } }

theorem perDir_set_set {α : Type} (v : PerDir α) (d : Direction) (x y : α) : (v.set d x).set d y = v.set d y := by
  cases d <;> rfl

theorem enterGating_entered (c : Configuration) (p : Plan) (d : Direction) (n : Nat) (s : State) :
    GatingEntered c p d n s (enterGating c p d n s) := by
  by_cases hr : (s.gt.get d).reached = true
  · have hno : ¬ s.GateAtOnce p d := fun h => by simp [State.GateAtOnce, hr] at h
    have heq : enterGating c p d n s = setFlag .gatingEntered (setGate d (enteredGate n (s.gt.get d)) s) := if_pos hr
    rw [heq]
    refine ⟨?_, fun k => (if_neg fun h => hno h.1).symm, fun e => ⟨fun h => ⟨h, fun hn => hno hn.2.1⟩, And.left⟩, rfl⟩
    simp only [hr, if_true, Bool.true_or, setFlag_gt, setGate_gt, enteredGate]
  · have hfalse : (s.gt.get d).reached = false := Bool.eq_false_iff.mpr hr
    have hiff : s.GateAtOnce p d ↔ p.gateMin ≤ s.ct.position := and_iff_right hfalse
    obtain ⟨u, hu⟩ : ∃ u, u = setFlag .gatingEntered (setGate d (enteredGate n (s.gt.get d)) s) := ⟨_, rfl⟩
    have heq : enterGating c p d n s = placeGate c p d u := (if_neg hr).trans (congrArg _ hu.symm)
    have hct : u.ct = s.ct := by rw [hu]; rfl
    have holu : u.olu = s.olu := by rw [hu]; rfl
    have hdi : u.di = s.di := by rw [hu]; rfl
    have hgate : u.gt.get d = enteredGate n (s.gt.get d) := by rw [hu]; exact PerDir.get_set_same ..
    rw [heq]
    refine ⟨?_, fun k => ?_, fun e => ?_, ?_⟩
    · rw [placeGate_eq, hgate, hct, hu]
      refine (perDir_set_set _ _ _ _).trans (congrArg (s.gt.set d) ?_)
      simp only [placedGate, enteredGate, hfalse, Bool.false_or, Bool.false_eq_true, if_false, Gate.mk.injEq, true_and,
        and_true]
      refine ⟨?_, decide_eq_decide.mpr hiff.symm⟩
      split
      · next h => rw [Nat.max_eq_left h.le]
      · next h => rw [Nat.max_eq_right (Nat.not_lt.mp h)]
    · rw [placeGate_line, hct, holu]
      refine if_congr (and_congr hiff.symm ?_) rfl rfl
      rw [mem_countingLines, countsForGreen_iff]
    · rw [placeGate_green, hct, hdi, hiff]
    · rw [placeGate_eq, hdi]
      subst hu
      rfl

theorem callsFor_iff {c : Configuration} {s : State} {d : Direction} {n : Nat} :
    CallsFor c s d n ↔ calledFor c s.nt.entries d = some n := by
  unfold CallsFor calledFor
  cases downstreamNeighbour c.position s.nt.entries d with
  | none => simp
  | some e =>
    simp only [Option.some.injEq, exists_eq_left', Option.ite_none_right_eq_some]
    tauto

theorem not_callsFor_iff {c : Configuration} {s : State} {d : Direction} :
    (∀ n, ¬ CallsFor c s d n) ↔ calledFor c s.nt.entries d = none := by
  simp only [callsFor_iff, Option.eq_none_iff_forall_ne_some, ne_eq]

theorem judgeDirection_judged (c : Configuration) (p : Plan) (removed : Option Nat) (d : Direction) (s : State) :
    Judged c p removed d s (judgeDirection c p removed d s) where
  enters n hn hoff := by
    rw [callsFor_iff] at hn
    simp only [judgeDirection, hn, hoff]
    exact enterGating_entered c p d n s
  stays n m hn hon := by
    rw [callsFor_iff] at hn
    simp only [judgeDirection, hn, hon]
    rfl
  ends m hno hon := by
    rw [not_callsFor_iff] at hno
    simp only [judgeDirection, hno, hon]
    rfl
  off hno hoff := by
    rw [not_callsFor_iff] at hno
    simp only [judgeDirection, hno, hoff]

theorem reportToGating_reported (removed : Option Nat) (s : State) : Reported removed s (reportToGating removed s) where
  judged c p hset hin := by
    simp only [reportToGating, hset, judgeGating, hin, if_true]
    exact ⟨_, judgeDirection_judged .., judgeDirection_judged ..⟩
  ignored h := by
    unfold reportToGating
    split
    · next c p hset =>
      refine if_neg ?_
      rw [Bool.not_eq_true]
      exact h.resolve_left fun hnone => by rw [hset] at hnone; cases hnone
    · rfl

/-- Settles O38, by the branches of the judgement. -/
theorem directionIsJudged : Obligations.DirectionIsJudged :=
  ⟨fun s c p removed d => judgeDirection_judged c p removed d s, fun s removed => reportToGating_reported removed s⟩

end Sys2Proof.Machine

/-! ## Aging, and what frames do to the Neighbour Table (R26 to R35, R40, R134 to R137)

A report changes gating, and the lines, greens and flags that go with it, and nothing else. With that, each case of a frame
or an expiry is one placing, removal or refusal, and its report. -/

namespace Sys2Proof.Machine

/-! ### What a report can change -/

/-- A change of gating, of the lines and greens that go with it, and of the flags other than some. -/
structure GatingOnly (s t : State) : Prop where
  rest : t = { s with gt := t.gt, olu := t.olu, di := { s.di with green := t.di.green },
                      cp := { s.cp with flags := t.cp.flags } }
  flag : ∀ f, f ≠ .gatingEntered → flagIn f t.cp.flags = flagIn f s.cp.flags

theorem GatingOnly.refl (s : State) : GatingOnly s s := ⟨rfl, fun _ _ => rfl⟩

theorem GatingOnly.trans {s t u : State} (h : GatingOnly s t) (h' : GatingOnly t u) : GatingOnly s u where
  rest := by
    refine h'.rest.trans ?_
    rw [h.rest]
  flag f hf := (h'.flag f hf).trans (h.flag f hf)

theorem GatingEntered.only {c : Configuration} {p : Plan} {d : Direction} {n : Nat} {s t : State}
    (h : GatingEntered c p d n s t) : GatingOnly s t where
  rest := by
    rw [h.rest]
  flag f hf := by
    rw [h.rest]
    refine (flagIn_setFlag f .gatingEntered s.cp.flags).trans ?_
    rw [decide_eq_false hf, Bool.or_false]

theorem judgeDirection_only (c : Configuration) (p : Plan) (removed : Option Nat) (d : Direction) (s : State) :
    GatingOnly s (judgeDirection c p removed d s) := by
  unfold judgeDirection
  split
  · exact (enterGating_entered c p d _ s).only
  all_goals exact ⟨rfl, fun _ _ => rfl⟩

theorem reportToGating_only (removed : Option Nat) (s : State) : GatingOnly s (reportToGating removed s) := by
  unfold reportToGating
  split
  · unfold judgeGating
    split
    · exact (judgeDirection_only ..).trans (judgeDirection_only ..)
    · exact .refl s
  · exact .refl s

/-! ### Removals by expiry or departure -/

theorem removeEntry_eq (n : Nat) (s : State) :
    removeEntry n s = reportToGating (some n) (s.withEntries (withoutStation n s.nt.entries)) := rfl

theorem placeEntry_eq (e : Entry) (s : State) :
    placeEntry e s = reportToGating none (s.withEntries (insertEntry e (withoutStation e.station s.nt.entries))) := rfl

theorem removeEntry_reported (n : Nat) (s : State) :
    Reported (some n) (s.withEntries (withoutStation n s.nt.entries)) (removeEntry n s) := reportToGating_reported ..

theorem placeEntry_reported (e : Entry) (s : State) :
    Reported none (s.withEntries (placeEntry e s).nt.entries) (placeEntry e s) := by
  rw [placeEntry_entries]
  exact reportToGating_reported ..

theorem losesReference_iff {n : Nat} {s : State} : losesReference n s = true ↔ s.LosesReference n := by
  simp [losesReference]

theorem judgeReference_loses {n : Nat} {s : State} (h : s.LosesReference n) : judgeReference n s = { s with
    nt := { s.nt with lastReference := none }, cp := { s.cp with flags := s.cp.flags ||| 0x0040#16 } } :=
  if_pos (losesReference_iff.mpr h)

theorem judgeReference_keeps {n : Nat} {s : State} (h : ¬ s.LosesReference n) : judgeReference n s = s :=
  if_neg fun hl => h (losesReference_iff.mp hl)

theorem removeEntry_lastReference (n : Nat) (s : State) :
    (removeEntry n s).nt.lastReference = s.nt.lastReference := by
  rw [removeEntry_eq, reportToGating_nt]
  rfl

theorem losesReference_removeEntry (n : Nat) (s : State) :
    (removeEntry n s).LosesReference n ↔ s.LosesReference n := by
  rw [State.LosesReference, removeEntry_lastReference, removeEntry_mc]

theorem loseStation_departed (n : Nat) (s : State) :
    Departed n (withoutStation n s.nt.entries) s (loseStation n s) := by
  refine ⟨removeEntry n s, removeEntry_reported n s, ?_⟩
  rw [loseStation]
  by_cases h : s.LosesReference n
  · rw [if_pos h, judgeReference_loses ((losesReference_removeEntry n s).mpr h)]
  · rw [if_neg h, judgeReference_keeps fun hn => h ((losesReference_removeEntry n s).mp hn)]

theorem removeEntry_rest (n : Nat) (s : State) : removeEntry n s = { s with
    nt := (removeEntry n s).nt, gt := (removeEntry n s).gt, olu := (removeEntry n s).olu,
    di := { s.di with green := (removeEntry n s).di.green },
    cp := { s.cp with flags := (removeEntry n s).cp.flags } } := by
  refine (reportToGating_only (some n) (s.withEntries (withoutStation n s.nt.entries))).rest.trans ?_
  rw [removeEntry_eq, reportToGating_nt]
  rfl

theorem placeEntry_lastReference (e : Entry) (s : State) :
    (placeEntry e s).nt.lastReference = s.nt.lastReference := by
  rw [placeEntry_eq, reportToGating_nt]
  rfl

theorem removeEntry_flag (n : Nat) (s : State) {f : Flag} (hf : f ≠ .gatingEntered) :
    flagIn f (removeEntry n s).cp.flags = flagIn f s.cp.flags :=
  (reportToGating_only (some n) (s.withEntries (withoutStation n s.nt.entries))).flag f hf

theorem placeEntry_flag (e : Entry) (s : State) {f : Flag} (hf : f ≠ .gatingEntered) :
    flagIn f (placeEntry e s).cp.flags = flagIn f s.cp.flags :=
  (reportToGating_only none (s.withEntries (insertEntry e (withoutStation e.station s.nt.entries)))).flag f hf

theorem loseStation_rest (n : Nat) (s : State) : loseStation n s = { s with
    nt := (loseStation n s).nt, gt := (loseStation n s).gt, olu := (loseStation n s).olu,
    di := { s.di with green := (loseStation n s).di.green },
    cp := { s.cp with flags := (loseStation n s).cp.flags } } := by
  unfold loseStation
  by_cases h : (removeEntry n s).LosesReference n
  · rw [judgeReference_loses h, removeEntry_rest]
  · rw [judgeReference_keeps h]
    exact removeEntry_rest n s

theorem loseStation_loses {n : Nat} {s : State} (h : s.LosesReference n) :
    (loseStation n s).nt.lastReference = none ∧ flagIn .referenceLost (loseStation n s).cp.flags = true := by
  rw [loseStation, judgeReference_loses ((losesReference_removeEntry n s).mpr h)]
  exact ⟨rfl, (flagIn_setFlag .referenceLost .referenceLost _).trans (by simp)⟩

theorem loseStation_keeps {n : Nat} {s : State} (h : ¬ s.LosesReference n) :
    (loseStation n s).nt.lastReference = s.nt.lastReference
      ∧ flagIn .referenceLost (loseStation n s).cp.flags = flagIn .referenceLost s.cp.flags := by
  rw [loseStation, judgeReference_keeps fun hn => h ((losesReference_removeEntry n s).mp hn)]
  exact ⟨removeEntry_lastReference n s, removeEntry_flag n s (by decide)⟩

theorem loseStation_aside {s : State} (n : Nat) (h : s.inCharge = false) :
    (loseStation n s).gt = s.gt ∧ (loseStation n s).olu = s.olu ∧ (loseStation n s).di = s.di := by
  have hremove : removeEntry n s = s.withEntries (withoutStation n s.nt.entries) :=
    (removeEntry_reported n s).ignored (.inr h)
  rw [loseStation, judgeReference_gt, judgeReference_olu, judgeReference_di, hremove]
  exact ⟨rfl, rfl, rfl⟩

/-! ### Aging -/

section
variable {before after : List Entry} {e : Entry}

theorem findEntry_split (hb : ∀ x ∈ before, x.station ≠ e.station) :
    findEntry (before ++ e :: after) e.station = some e := by
  rw [findEntry, List.find?_append, List.find?_eq_none.mpr fun x hx => by simpa using hb x hx]
  simp

theorem withoutStation_split (hb : ∀ x ∈ before, x.station ≠ e.station) (ha : ∀ x ∈ after, x.station ≠ e.station) :
    withoutStation e.station (before ++ e :: after) = before ++ after := by
  rw [withoutStation, List.filter_append, List.filter_cons_of_neg (by simp),
    List.filter_eq_self.mpr fun q hq => decide_eq_true (hb q hq), List.filter_eq_self.mpr fun q hq => decide_eq_true (ha q hq)]

theorem map_split (f : Entry → Entry) (hb : ∀ x ∈ before, x.station ≠ e.station)
    (ha : ∀ x ∈ after, x.station ≠ e.station) :
    (before ++ e :: after).map (fun x => if x.station = e.station then f x else x) = before ++ f e :: after := by
  rw [List.map_append, List.map_cons, if_pos rfl]
  congr 1
  · exact (List.map_congr_left fun x hx => if_neg (hb x hx)).trans (List.map_id _)
  · exact congrArg _ ((List.map_congr_left fun x hx => if_neg (ha x hx)).trans (List.map_id _))

end

/-- Settles O20, on the one entry of the station. -/
theorem agingQuietsAndRemovesEntries : Obligations.AgingQuietsAndRemovesEntries := by
  refine ⟨fun s before after e h he hb ha hlive hsil => exec_of_worked h ?_,
    fun s before after e h he hb ha hzero => ⟨loseStation e.station s, exec_of_worked h ?_, ?_, loseStation_loses,
      loseStation_keeps, loseStation_aside e.station, ?_, loseStation_rest e.station s⟩⟩
  · have hquiet : quietDue e = true := by simp [quietDue, hlive, hsil]
    simp only [worked, entryTurnsQuiet, he, findEntry_split hb, hquiet, if_true, makeQuiet, map_split _ hb ha]
    rfl
  · have hdue : expiryDue e = true := by simp [expiryDue, hzero]
    simp only [worked, entryExpires, he, findEntry_split hb, hdue, if_true]
  · rw [loseStation_entries, he, withoutStation_split hb ha]
  · have hdep := loseStation_departed e.station s
    rwa [he, withoutStation_split hb ha] at hdep

end Sys2Proof.Machine

/-! ## What frames do to the Neighbour Table (R26 to R32, R35, R40) -/

namespace Sys2Proof.Machine

/-! ### The farthest entry (R29) -/

/-- The order of R29: by distance, and at an equal distance by station number. -/
def NotFarther (own : Nat) (e f : Entry) : Prop :=
  distance e.beacon.position own < distance f.beacon.position own
    ∨ distance e.beacon.position own = distance f.beacon.position own ∧ e.station ≤ f.station

theorem NotFarther.refl (own : Nat) (e : Entry) : NotFarther own e e := .inr ⟨rfl, le_rfl⟩

theorem NotFarther.trans {own : Nat} {e f g : Entry} (h : NotFarther own e f) (h' : NotFarther own f g) :
    NotFarther own e g := by
  unfold NotFarther at *
  omega

theorem NotFarther.station_eq {own : Nat} {e f : Entry} (h : NotFarther own e f) (h' : NotFarther own f e) :
    e.station = f.station := by
  unfold NotFarther at *
  omega

theorem notFarther_farther (own : Nat) (e f : Entry) :
    NotFarther own e (farther own e f) ∧ NotFarther own f (farther own e f) := by
  unfold farther NotFarther
  dsimp only
  split <;> omega

theorem notFarther_foldl (own : Nat) (entries : List Entry) (e : Entry) :
    ∀ f ∈ e :: entries, NotFarther own f (entries.foldl (farther own) e) := by
  induction entries generalizing e with
  | nil =>
    intro f hf
    rw [List.mem_singleton.mp hf]
    exact .refl own e
  | cons g rest ih =>
    intro f hf
    obtain ⟨he, hg⟩ := notFarther_farther own e g
    have hfirst := ih (farther own e g) _ List.mem_cons_self
    rcases List.mem_cons.mp hf with rfl | hf
    · exact he.trans hfirst
    rcases List.mem_cons.mp hf with rfl | hf
    · exact hg.trans hfirst
    · exact ih _ f (List.mem_cons_of_mem _ hf)

theorem farthestEntry_eq {c : Configuration} {entries : List Entry} (law : TableLaw c entries) {f : Entry}
    (hf : f ∈ entries) (hmax : ∀ e ∈ entries, NotFarther c.position e f) :
    farthestEntry c.position entries = some f := by
  cases entries with
  | nil => cases hf
  | cons e rest =>
    have hmem := foldl_farther_mem c.position rest e
    exact congrArg some (List.inj_on_of_nodup_map law.distinctStations hmem hf
      ((hmax _ hmem).station_eq (notFarther_foldl c.position rest e f hf)))

/-! ### The cases of a BEACON -/

theorem findEntry_none {entries : List Entry} {n : Nat} (h : ∀ e ∈ entries, e.station ≠ n) : findEntry entries n = none := by
  simpa [findEntry] using h

theorem findEntry_isSome {entries : List Entry} {n : Nat} (h : ∃ e ∈ entries, e.station = n) :
    ∃ e, findEntry entries n = some e := by
  rw [← Option.isSome_iff_exists, findEntry, List.find?_isSome]
  simpa using h

theorem withoutStation_of_unknown {entries : List Entry} {n : Nat} (h : ∀ e ∈ entries, e.station ≠ n) :
    withoutStation n entries = entries := List.filter_eq_self.mpr fun e he => decide_eq_true (h e he)

section
variable {c : Configuration} {k : Capture} {n : Nat} {b : Beacon} {a : PerDir Approach} {s : State}

theorem inReach_iff {x : Nat} : inReach c x = true ↔ distance x c.position ≤ c.reach := decide_eq_true_iff

theorem inReach_false_iff {x : Nat} : inReach c x = false ↔ c.reach < distance x c.position := by
  rw [← Bool.not_eq_true, inReach_iff, Nat.not_le]

theorem positionHeld_iff {x : Nat} {entries : List Entry} :
    positionHeld n x entries = true ↔ ∃ e ∈ entries, e.station ≠ n ∧ e.beacon.position = x := by
  simp [positionHeld]

theorem tableTakes_known (h : ∃ e ∈ s.nt.entries, e.station = n) : ∃ old ∈ s.nt.entries, old.station = n
    ∧ tableTakes c k (.beacon n b a) s = beaconKnown c old (entryOf n b a k) s := by
  obtain ⟨old, hold⟩ := findEntry_isSome h
  obtain ⟨hmem, hstation⟩ := findEntry_some hold
  exact ⟨old, hmem, hstation, by simp only [tableTakes, hold]⟩

theorem tableTakes_unknown (h : ∀ e ∈ s.nt.entries, e.station ≠ n) :
    tableTakes c k (.beacon n b a) s = beaconUnknown c (entryOf n b a k) s := by
  simp only [tableTakes, findEntry_none h]

/-- A BEACON inside the window, at a free position, with room for it or its station in the table, is entered. -/
theorem tableTakes_places (hreach : distance b.position c.position ≤ c.reach)
    (hfree : ∀ e ∈ s.nt.entries, e.station ≠ n → e.beacon.position ≠ b.position)
    (hroom : s.nt.entries.length < 8 ∨ ∃ e ∈ s.nt.entries, e.station = n) :
    tableTakes c k (.beacon n b a) s = placeEntry (entryOf n b a k) s := by
  have hin : ¬ inReach c (entryOf n b a k).beacon.position = false := by
    rw [inReach_false_iff]
    exact Nat.not_lt.mpr hreach
  have hheld : ¬ positionHeld (entryOf n b a k).station (entryOf n b a k).beacon.position s.nt.entries = true := by
    rw [positionHeld_iff]
    rintro ⟨e, he, hne, hpos⟩
    exact hfree e he hne hpos
  by_cases hknown : ∃ e ∈ s.nt.entries, e.station = n
  · obtain ⟨old, -, -, heq⟩ := tableTakes_known (c := c) (k := k) (b := b) (a := a) hknown
    rw [heq, beaconKnown, if_neg hin, if_neg hheld, ite_self]
  · rw [tableTakes_unknown fun e he hn => hknown ⟨e, he, hn⟩, beaconUnknown, if_neg hin, if_neg hheld,
      if_pos (hroom.resolve_right hknown)]

/-- A BEACON from outside the window, at a changed position, removes its station's entry. -/
theorem tableTakes_outside (hreach : c.reach < distance b.position c.position)
    (hmoved : ∀ e ∈ s.nt.entries, e.station = n → e.beacon.position ≠ b.position) :
    ((∃ e ∈ s.nt.entries, e.station = n) → tableTakes c k (.beacon n b a) s = removeEntry n s)
      ∧ ((∀ e ∈ s.nt.entries, e.station ≠ n) → tableTakes c k (.beacon n b a) s = s) := by
  have hout : inReach c (entryOf n b a k).beacon.position = false := inReach_false_iff.mpr hreach
  refine ⟨fun hknown => ?_, fun hunknown => ?_⟩
  · obtain ⟨old, hmem, hn, heq⟩ := tableTakes_known (c := c) (k := k) (b := b) (a := a) hknown
    exact heq.trans ((if_neg (hmoved old hmem hn)).trans (if_pos hout))
  · rw [tableTakes_unknown hunknown, beaconUnknown, if_pos hout]

/-- A BEACON at another station's position is refused, and its own station's entry removed. -/
theorem tableTakes_clash (law : TableLaw c s.nt.entries) (hreach : distance b.position c.position ≤ c.reach)
    (hclash : ∃ e ∈ s.nt.entries, e.station ≠ n ∧ e.beacon.position = b.position) :
    ((∃ e ∈ s.nt.entries, e.station = n) → tableTakes c k (.beacon n b a) s = (removeEntry n s).withRefusal)
      ∧ ((∀ e ∈ s.nt.entries, e.station ≠ n) → tableTakes c k (.beacon n b a) s = s.withRefusal) := by
  have hin : ¬ inReach c (entryOf n b a k).beacon.position = false := by
    rw [inReach_false_iff]
    exact Nat.not_lt.mpr hreach
  have hheld : positionHeld (entryOf n b a k).station (entryOf n b a k).beacon.position s.nt.entries = true :=
    positionHeld_iff.mpr hclash
  refine ⟨fun hknown => ?_, fun hunknown => ?_⟩
  · obtain ⟨old, hmem, hn, heq⟩ := tableTakes_known (c := c) (k := k) (b := b) (a := a) hknown
    have hmoved : ¬ old.beacon.position = (entryOf n b a k).beacon.position := fun hpos => by
      obtain ⟨e, he, hne, hat⟩ := hclash
      exact hne (law.eq_of_position hmem he (hpos.trans hat.symm) ▸ hn)
    rw [heq, beaconKnown, if_neg hmoved, if_neg hin, if_pos hheld]
    rfl
  · rw [tableTakes_unknown hunknown, beaconUnknown, if_neg hin, if_pos hheld]
    rfl

/-- A newcomer to a full table displaces the farthest entry where it is nearer, and is refused otherwise. -/
theorem tableTakes_full (law : TableLaw c s.nt.entries) (hreach : distance b.position c.position ≤ c.reach)
    (hfull : s.nt.entries.length = 8)
    (hnew : ∀ e ∈ s.nt.entries, e.station ≠ n ∧ e.beacon.position ≠ b.position) {f : Entry} (hf : f ∈ s.nt.entries)
    (hmax : ∀ e ∈ s.nt.entries, NotFarther c.position e f) :
    tableTakes c k (.beacon n b a) s =
      if distance b.position c.position < distance f.beacon.position c.position
      then placeEntry (entryOf n b a k) (removeEntry f.station s) else s.withRefusal := by
  have hin : ¬ inReach c (entryOf n b a k).beacon.position = false := by
    rw [inReach_false_iff]
    exact Nat.not_lt.mpr hreach
  have hheld : ¬ positionHeld (entryOf n b a k).station (entryOf n b a k).beacon.position s.nt.entries = true := by
    rw [positionHeld_iff]
    rintro ⟨e, he, -, hpos⟩
    exact (hnew e he).2 hpos
  rw [tableTakes_unknown fun e he => (hnew e he).1, beaconUnknown, if_neg hin, if_neg hheld,
    if_neg (by omega), farthestEntry_eq law hf hmax]
  rfl

theorem withRefusal_rest (u : State) : u.withRefusal.nt = u.nt
    ∧ u.withRefusal.counters = { u.counters with tableRefused := min (u.counters.tableRefused + 1) 65535 }
    ∧ flagIn .tableFull u.withRefusal.cp.flags = true
    ∧ ∀ f, f ≠ .tableFull → flagIn f u.withRefusal.cp.flags = flagIn f u.cp.flags := by
  have hflag : ∀ f, flagIn f u.withRefusal.cp.flags = (flagIn f u.cp.flags || decide (f = .tableFull)) := fun f =>
    flagIn_setFlag f .tableFull _
  refine ⟨rfl, rfl, ?_, fun f hf => ?_⟩
  · rw [hflag]
    simp
  · rw [hflag, decide_eq_false hf, Bool.or_false]

/-- No BEACON touches the last reference or REFERENCE_LOST (R40). -/
theorem tableTakes_reference :
    (tableTakes c k (.beacon n b a) s).nt.lastReference = s.nt.lastReference
      ∧ flagIn .referenceLost (tableTakes c k (.beacon n b a) s).cp.flags = flagIn .referenceLost s.cp.flags := by
  have hplace : ∀ e u, (placeEntry e u).nt.lastReference = u.nt.lastReference
      ∧ flagIn .referenceLost (placeEntry e u).cp.flags = flagIn .referenceLost u.cp.flags := fun e u =>
    ⟨placeEntry_lastReference e u, placeEntry_flag e u (by decide)⟩
  have hremove : ∀ m u, (removeEntry m u).nt.lastReference = u.nt.lastReference
      ∧ flagIn .referenceLost (removeEntry m u).cp.flags = flagIn .referenceLost u.cp.flags := fun m u =>
    ⟨removeEntry_lastReference m u, removeEntry_flag m u (by decide)⟩
  have hrefuse : ∀ u, (refuseEntry u).nt.lastReference = u.nt.lastReference
      ∧ flagIn .referenceLost (refuseEntry u).cp.flags = flagIn .referenceLost u.cp.flags := fun u =>
    ⟨rfl, (withRefusal_rest u).2.2.2 _ (by decide)⟩
  simp only [tableTakes]
  split
  · unfold beaconKnown
    split_ifs
    · exact hplace _ _
    · exact hremove _ _
    · exact ⟨(hrefuse _).1.trans (hremove _ _).1, (hrefuse _).2.trans (hremove _ _).2⟩
    · exact hplace _ _
  · unfold beaconUnknown
    split_ifs
    · exact ⟨rfl, rfl⟩
    · exact hrefuse _
    · exact hplace _ _
    · split
      · split_ifs
        · exact ⟨(hplace _ _).1.trans (hremove _ _).1, (hplace _ _).2.trans (hremove _ _).2⟩
        · exact hrefuse _
      · exact ⟨rfl, rfl⟩

theorem mem_placeEntry {e f : Entry} {u : State} :
    f ∈ (placeEntry e u).nt.entries ↔ f = e ∨ f ∈ u.nt.entries ∧ f.station ≠ e.station := by
  rw [placeEntry_entries, (insertEntry_perm _ _).mem_iff, List.mem_cons, mem_withoutStation]

end

/-! ### STORAGE and DEPART frames -/

theorem storageFrame_unknown {n : Nat} {a : PerDir Approach} {s : State} (h : ∀ e ∈ s.nt.entries, e.station ≠ n) :
    storageFrame n a s = s := by
  simp only [storageFrame, findEntry_none h]

theorem storageFrame_known {n : Nat} {a : PerDir Approach} {s : State} (h : ∃ e ∈ s.nt.entries, e.station = n) :
    storageFrame n a s = reportToGating none (s.withEntries
      (s.nt.entries.map fun e => if e.station = n then { e with approaches := a } else e)) := by
  obtain ⟨e, he⟩ := findEntry_isSome h
  simp only [storageFrame, he]
  rfl

theorem departs_unknown {c : Configuration} {k : Capture} {n : Nat} {s : State}
    (h : ∀ e ∈ s.nt.entries, e.station ≠ n) : tableTakes c k (.depart n) s = s := by
  simp only [tableTakes, findEntry_none h]

theorem departs_known {c : Configuration} {k : Capture} {n : Nat} {s : State}
    (h : ∃ e ∈ s.nt.entries, e.station = n) : tableTakes c k (.depart n) s = loseStation n s := by
  obtain ⟨e, he⟩ := findEntry_isSome h
  simp only [tableTakes, he]

theorem forall_ne_or_exists (entries : List Entry) (n : Nat) :
    (∀ e ∈ entries, e.station ≠ n) ∨ ∃ e ∈ entries, e.station = n := by
  by_cases h : ∃ e ∈ entries, e.station = n
  · exact .inr h
  · exact .inl fun e he hn => h ⟨e, he, hn⟩

theorem storageFrame_rest (n : Nat) (a : PerDir Approach) (s : State) :
    (storageFrame n a s).nt.entries = s.nt.entries.map (fun e => if e.station = n then { e with approaches := a } else e)
      ∧ (storageFrame n a s).counters = s.counters ∧ (storageFrame n a s).nt.lastReference = s.nt.lastReference := by
  rcases forall_ne_or_exists s.nt.entries n with h | h
  · rw [storageFrame_unknown h]
    refine ⟨?_, rfl, rfl⟩
    rw [List.map_congr_left fun e he => if_neg (h e he)]
    exact (List.map_id _).symm
  · rw [storageFrame_known h, reportToGating_nt, reportToGating_counters]
    exact ⟨rfl, rfl, rfl⟩

theorem departs_rest (c : Configuration) (k : Capture) (n : Nat) (s : State) {t : State}
    (ht : t = tableTakes c k (.depart n) s) :
    t.nt.entries = withoutStation n s.nt.entries
      ∧ t = { s with nt := t.nt, gt := t.gt, olu := t.olu, di := { s.di with green := t.di.green },
                     cp := { s.cp with flags := t.cp.flags } } := by
  subst ht
  rcases forall_ne_or_exists s.nt.entries n with h | h
  · rw [departs_unknown h, withoutStation_of_unknown h]
    exact ⟨rfl, rfl⟩
  · rw [departs_known h]
    exact ⟨loseStation_entries n s, loseStation_rest n s⟩

theorem departs_reference (c : Configuration) (k : Capture) (n : Nat) (s : State) :
    ((∃ e ∈ s.nt.entries, e.station = n) ∧ s.LosesReference n →
        (tableTakes c k (.depart n) s).nt.lastReference = none
        ∧ flagIn .referenceLost (tableTakes c k (.depart n) s).cp.flags = true)
      ∧ (¬ ((∃ e ∈ s.nt.entries, e.station = n) ∧ s.LosesReference n) →
        (tableTakes c k (.depart n) s).nt.lastReference = s.nt.lastReference
        ∧ flagIn .referenceLost (tableTakes c k (.depart n) s).cp.flags = flagIn .referenceLost s.cp.flags) := by
  rcases forall_ne_or_exists s.nt.entries n with h | h
  · rw [departs_unknown h]
    exact ⟨fun ⟨⟨e, he, hn⟩, _⟩ => absurd hn (h e he), fun _ => ⟨rfl, rfl⟩⟩
  · rw [departs_known h]
    exact ⟨fun hl => loseStation_loses hl.2, fun hl => loseStation_keeps fun hn => hl ⟨h, hn⟩⟩

/-! ### The statement -/

theorem beaconEntered (s : State) (c : Configuration) (k : Capture) (n : Nat) (b : Beacon) (a : PerDir Approach)
    (law : TableLaw c s.nt.entries) (hreach : distance b.position c.position ≤ c.reach)
    (hfree : ∀ e ∈ s.nt.entries, e.station ≠ n → e.beacon.position ≠ b.position)
    (hroom : s.nt.entries.length < 8 ∨ ∃ e ∈ s.nt.entries, e.station = n) {t : State}
    (ht : t = tableTakes c k (.beacon n b a) s) :
    (∀ e, e ∈ t.nt.entries ↔ e = ⟨n, b, a, k, 5 * b.period, .live⟩ ∨ (e ∈ s.nt.entries ∧ e.station ≠ n))
      ∧ t.nt.entries.Pairwise (fun e f => e.beacon.position < f.beacon.position)
      ∧ t.counters = s.counters ∧ t.nt.lastReference = s.nt.lastReference
      ∧ flagIn .tableFull t.cp.flags = flagIn .tableFull s.cp.flags
      ∧ Reported none (s.withEntries t.nt.entries) t := by
  rw [tableTakes_places hreach hfree hroom] at ht
  subst ht
  refine ⟨fun e => mem_placeEntry, ?_, placeEntry_counters .., placeEntry_lastReference ..,
    placeEntry_flag _ _ (by decide), placeEntry_reported ..⟩
  rw [placeEntry_entries]
  refine insertEntry_rises (law.positionsRise.sublist (withoutStation_sublist ..)) fun f hf => ?_
  obtain ⟨hmem, hne⟩ := mem_withoutStation.mp hf
  exact hfree f hmem hne

/-- Settles O21, by the cases of the three frames. -/
theorem framesChangeTheTable : Obligations.FramesChangeTheTable := by
  refine ⟨fun s c k n b a _ law hreach hfree hroom t ht => beaconEntered s c k n b a law hreach hfree hroom ht,
    fun s c k n b a _ law t ht => ⟨fun _ => ?_, fun hreach hmoved => ?_, fun hreach hclash => ?_,
      fun hreach hfull hnew f hf hmax => ⟨fun hnear => ?_, fun hfar => ?_⟩⟩, fun s c k n a _ => ?_⟩
  · rw [ht]
    exact tableTakes_reference
  · obtain ⟨hknown, hunknown⟩ := tableTakes_outside (k := k) (a := a) hreach hmoved
    rcases forall_ne_or_exists s.nt.entries n with h | h
    · rw [ht, hunknown h]
      exact ⟨(withoutStation_of_unknown h).symm, rfl, fun ⟨e, he, hn⟩ => absurd hn (h e he), fun _ => rfl⟩
    · rw [ht, hknown h, removeEntry_entries]
      obtain ⟨e, he, hn⟩ := h
      exact ⟨rfl, removeEntry_counters .., fun _ => removeEntry_reported n s, fun hno => absurd hn (hno e he)⟩
  · obtain ⟨hknown, hunknown⟩ := tableTakes_clash (k := k) (a := a) law hreach hclash
    rcases forall_ne_or_exists s.nt.entries n with h | h
    · rw [hunknown h] at ht
      obtain ⟨hnt, hcounters, hflag, -⟩ := withRefusal_rest s
      rw [ht, hnt]
      exact ⟨(withoutStation_of_unknown h).symm, hcounters, hflag, fun ⟨e, he, hn⟩ => absurd hn (h e he), fun _ => rfl⟩
    · rw [hknown h] at ht
      obtain ⟨hnt, hcounters, hflag, -⟩ := withRefusal_rest (removeEntry n s)
      rw [removeEntry_counters] at hcounters
      rw [ht, hnt, removeEntry_entries]
      obtain ⟨e, he, hn⟩ := h
      exact ⟨rfl, hcounters, hflag, fun _ => ⟨_, removeEntry_reported n s, rfl⟩, fun hno => absurd hn (hno e he)⟩
  · rw [tableTakes_full law hreach hfull hnew hf hmax, if_pos hnear] at ht
    subst ht
    refine ⟨fun e => ?_, ?_, _, removeEntry_reported f.station s, placeEntry_reported ..⟩
    · rw [mem_placeEntry, removeEntry_entries, mem_withoutStation]
      exact or_congr_right ⟨And.left, fun h => ⟨h, (hnew e h.1).1⟩⟩
    · rw [placeEntry_counters, removeEntry_counters]
  · rw [tableTakes_full law hreach hfull hnew hf hmax, if_neg (Nat.not_lt.mpr hfar)] at ht
    obtain ⟨hnt, hcounters, hflag, -⟩ := withRefusal_rest s
    rw [ht, hnt]
    exact ⟨rfl, hcounters, hflag, rfl⟩
  · obtain ⟨hentries, hcounters, href⟩ := storageFrame_rest n a s
    refine ⟨fun h => ⟨storageFrame_unknown h, departs_unknown h⟩, hentries, hcounters, href,
      fun h => ⟨fun t ht => ?_, ?_⟩, fun t ht => ?_⟩
    · have hknown : tableTakes c k (.storage n a) s = _ := storageFrame_known h
      rw [ht, hknown, reportToGating_nt]
      exact reportToGating_reported ..
    · rw [departs_known h]
      exact loseStation_departed n s
    · obtain ⟨hless, hrest⟩ := departs_rest c k n s ht
      refine ⟨hless, hrest, fun loses hloses => ?_⟩
      obtain ⟨hyes, hno⟩ := departs_reference c k n s
      rw [ht]
      exact ⟨fun h => hyes (hloses.mp h), fun h => hno fun hn => h (hloses.mpr hn)⟩

end Sys2Proof.Machine

/-! ## Taking charge (R20, R21, R47, R66, R86, R137, R156, R161)

Taking charge is an update of every block, told in `chargeTaken`, and then the dues of the marks at position 0. -/

namespace Sys2Proof.Machine

/-! ### The marks that come due as a cycle opens -/

/-- Where no extension can be granted, the reached marks come due. -/
theorem takeReachedDeciding_eq {c : Configuration} {p : Plan} {s : State}
    (h : markReached s.ct p.stretch = false ∨ extensionWinner c p s = none) :
    takeReachedDeciding c p s = duesTaken c p (markReached s.ct) s := by
  unfold takeReachedDeciding
  split
  · next hr => exact reachStretch_refused (h.resolve_left fun hn => by rw [hr] at hn; cases hn)
  · exact takeReached_eq c p s

theorem extensionWinner_no_queue {c : Configuration} {p : Plan} {s : State} (h : s.pa.queue = []) :
    extensionWinner c p s = none := by
  unfold extensionWinner
  rw [h, winner_nil, ite_self]

/-- Whether a mark comes due at the start of a cycle. -/
def opensDue (p : Plan) (c : Nat) (m : Num8) : Bool := decide ((openingMark p c m).state = .due)

theorem opensDue_iff {p : Plan} {c : Nat} {m : Num8} : opensDue p c m = true ↔ openingMark p c m = ⟨0, .due⟩ := by
  unfold opensDue openingMark
  split_ifs <;> simp

section
variable {c : Configuration} {p : Plan} {n : Nat} {s : State}

theorem unshiftedMark_eq (m : Num8) :
    unshiftedMark p n m = if p.base m = 0 then ⟨0, .unused⟩ else ⟨p.base m * n / p.cBase, .waiting⟩ := by
  unfold unshiftedMark
  by_cases h : p.base m = 0
  · rw [if_pos h, if_neg fun hu => usesMark_iff.mp hu h]
  · rw [if_neg h, if_pos (usesMark_iff.mpr h)]
    rfl

theorem markReached_opening (hpos : s.ct.position = 0) (hmarks : s.ct.marks = unshiftedMarks p n) (m : Num8) :
    markReached s.ct m = opensDue p n m := by
  rw [Bool.eq_iff_iff, markReached_iff, hpos, hmarks, unshiftedMarks, Eight.get_make, unshiftedMark_eq, opensDue,
    decide_eq_true_iff, openingMark]
  split_ifs <;> simp_all

/-- The marks once those at position 0 have come due. -/
theorem duesTaken_opening (hmarks : s.ct.marks = unshiftedMarks p n) :
    (duesTaken c p (opensDue p n) s).ct.marks = Eight.make (openingMark p n) := by
  refine Eight.ext_get fun m => ?_
  rw [duesTaken_mark, hmarks, unshiftedMarks, Eight.get_make, Eight.get_make, unshiftedMark_eq, opensDue, openingMark]
  split_ifs <;> simp_all

theorem duesTaken_openingDrive (k : Num8) (hoff : (s.olu.get k).drive = false) :
    (duesTaken c p (opensDue p n) s).olu.get k = { s.olu.get k with drive := openingDrive (c.outputs.get k) p n } := by
  rw [duesTaken_line, hoff, openingDrive]
  cases (c.outputs.get k).mark <;> rfl

theorem duesTaken_openingGreen (hon : s.di.green = ⟨true, true⟩) (d : Direction) :
    OpeningGreen c p n d ((duesTaken c p (opensDue p n) s).di.green.get d) := by
  have hd : s.di.green.get d = true := by rw [hon]; cases d <;> rfl
  rw [OpeningGreen, duesTaken_green_iff, hd]
  simp only [opensDue_iff, true_and]

end

/-! ### The Link Controller -/

/-- The Link Controller once the unit has taken charge and requested its BEACON. -/
theorem linkTaken (period : Nat) {l m : LC} (hs : l.storage = false) (hb : l.beacon = false)
    (hm : m = fillBeacon (linkTakesCharge period l)) :
    m.beaconTimer = some period ∧ (m.depart = none ∧ m.storage = false ∧ m.beacon = true)
      ∧ (m.line = l.line ∧ m.silenceTimer = l.silenceTimer)
      ∧ ((∀ a, l.attempt = some a → a.kind = .depart → m.attempt = none ∧ m.receiver = .hunt)
        ∧ ((∀ a, l.attempt = some a → a.kind ≠ .depart) → m.attempt = l.attempt ∧ m.receiver = l.receiver))
      ∧ ((∀ d, l.deferral = some d → d.kind = .depart) → m.line = .idle → m.attempt = none →
        ∃ d, m.deferral = some d ∧ d.kind = .beacon) := by
  obtain ⟨t, ht⟩ : ∃ t : LC, t = { linkTakesCharge period l with beacon := true } := ⟨_, rfl⟩
  have hfill : m = deferWhenIdle t := by
    rw [hm, ht]
    exact if_neg (by rw [linkTakesCharge, emptySlot_eq]; exact Bool.eq_false_iff.mp hb)
  rw [linkTakesCharge, emptySlot_eq] at ht
  have hrest := deferWhenIdle_rest t
  rw [← hfill] at hrest
  have hatt : m.attempt = l.attempt.filter (fun a => decide (a.kind ≠ .depart)) := by rw [hrest, ht]
  have hrec : m.receiver = if l.attempt.any (fun a => decide (a.kind = .depart)) then .hunt else l.receiver := by
    rw [hrest, ht]
  refine ⟨by rw [hrest, ht], ⟨by rw [hrest, ht]; rfl, by rw [hrest, ht]; exact hs, by rw [hrest, ht]⟩,
    ⟨by rw [hrest, ht]; rfl, by rw [hrest, ht]; rfl⟩, ⟨fun a ha hk => ?_, fun hk => ?_⟩, fun hdef hline hidle => ?_⟩
  · rw [hatt, hrec, ha]
    simp [Option.filter, hk]
  · rw [hatt, hrec]
    cases ha : l.attempt with
    | none => exact ⟨rfl, rfl⟩
    | some a => simp [Option.filter, hk a ha]
  · have htline : t.line = .idle := by
      rw [hrest] at hline
      exact hline
    have htatt : t.attempt = none := by
      rw [hrest] at hidle
      exact hidle
    have htdef : t.deferral = none := by
      rw [ht]
      refine Option.filter_eq_none_iff.mpr fun d hd => ?_
      simpa using hdef d hd
    have hchoose : chooseFrame t = some .beacon := chooseFrame_eq (.inr (.inr ⟨rfl, by rw [ht]; rfl, by
      rw [ht]
      exact hs, by rw [ht]⟩))
    rw [hfill, deferWhenIdle_begins htline htdef htatt]
    unfold beginDeferral
    rw [hchoose]
    exact ⟨_, rfl, rfl⟩

/-! ### The judging of a direction whose gating starts afresh -/

/-- The gate of a direction that has been OFF, once it has been judged before its gate point (R135, R137, R138). -/
def openedGate (p : Plan) (called : Option Nat) : Gate :=
  ⟨called, called.map fun _ => p.gateMin, false, ⟨called.isSome, called.isSome, false⟩⟩

theorem placedGate_early {p : Plan} {x : Nat} (h : x < p.gateMin) (g : Gate) :
    placedGate p x g = { g with point := some p.gateMin } := by
  rw [placedGate, Nat.max_eq_left h.le, decide_eq_false (Nat.not_le.mpr h), Bool.or_false]

theorem judgeDirection_opens {c : Configuration} {p : Plan} {d : Direction} {s : State}
    (hpos : s.ct.position < p.gateMin) (hoff : s.gt.get d = .initial) (removed : Option Nat) :
    judgeDirection c p removed d s = { s with
      gt := s.gt.set d (openedGate p (calledFor c s.nt.entries d))
      cp := { s.cp with flags := if (calledFor c s.nt.entries d).isSome then s.cp.flags ||| Flag.gatingEntered.word
        else s.cp.flags } } := by
  unfold judgeDirection
  rw [hoff]
  cases hc : calledFor c s.nt.entries d with
  | none =>
    calc s = { s with gt := s.gt.set d (s.gt.get d) } := by rw [set_get]
      _ = _ := by rw [hoff]; rfl
  | some n =>
    have hnot : ¬ (s.gt.get d).reached = true := by
      rw [hoff]
      exact Bool.false_ne_true
    refine (if_neg hnot).trans ((placeGate_later c p d (setFlag .gatingEntered (setGate d _ s))
      (Nat.not_le.mpr hpos)).trans ?_)
    rw [hoff]
    simp only [setFlag_ct, setGate_ct, placedGate_early hpos, setFlag_gt, setGate_gt, PerDir.get_set_same]
    simp only [setGate, setFlag, perDir_set_set]
    rfl

theorem judgeGating_opens {c : Configuration} {p : Plan} {s : State} (hin : s.inCharge = true)
    (hpos : s.ct.position < p.gateMin) (hoff : s.gt = ⟨.initial, .initial⟩) (removed : Option Nat) :
    judgeGating c p removed s = { s with
      gt := ⟨openedGate p (calledFor c s.nt.entries .inbound), openedGate p (calledFor c s.nt.entries .outbound)⟩
      cp := { s.cp with flags := if (calledFor c s.nt.entries .inbound).isSome
        ∨ (calledFor c s.nt.entries .outbound).isSome then s.cp.flags ||| Flag.gatingEntered.word else s.cp.flags } } := by
  have hfirst := judgeDirection_opens (c := c) (d := .inbound) hpos (by rw [hoff]; rfl) removed
  obtain ⟨u, hu⟩ : ∃ u, u = judgeDirection c p removed .inbound s := ⟨_, rfl⟩
  have hjudge : judgeGating c p removed s = judgeDirection c p removed .outbound u := by
    rw [hu]
    exact if_pos hin
  rw [← hu] at hfirst
  have hnt : u.nt = s.nt := by rw [hfirst]
  have hout : u.gt.get .outbound = .initial := by
    rw [hfirst, hoff]
    rfl
  have hupos : u.ct.position < p.gateMin := by
    rw [hfirst]
    exact hpos
  rw [hjudge, judgeDirection_opens hupos hout, hnt, hfirst, hoff]
  cases (calledFor c s.nt.entries .inbound).isSome <;> cases (calledFor c s.nt.entries .outbound).isSome <;>
    simp [PerDir.set, BitVec.or_assoc]

/-! ### Taking charge -/

/-- The unit that has taken charge, before the marks at position 0 come due. -/
def chargeTaken (c : Configuration) (p : Plan) (s : State) : State := { s with
  mc := { s.mc with mode := .inCharge .leading, pickupElapsed := 0 }
  ct := startClock p s.cau.cycle s.ct
  lc := fillBeacon (linkTakesCharge c.period s.lc)
  pa := .initial
  di := { s.di with lines := s.di.lines.mapNum (fun _ l => { l with counts := .zero }), green := ⟨true, true⟩ }
  olu := s.olu.mapNum (fun _ o => { o with drive := false })
  gt := ⟨openedGate p (calledFor c s.nt.entries .inbound), openedGate p (calledFor c s.nt.entries .outbound)⟩
  cp := { s.cp with flags := if (calledFor c s.nt.entries .inbound).isSome
    ∨ (calledFor c s.nt.entries .outbound).isSome then s.cp.flags ||| Flag.gatingEntered.word else s.cp.flags } }

theorem gateTakesCharge_aside {s : State} (h : s.StandsAside) (d : Direction) :
    gateTakesCharge (s.gt.get d) = .initial := by
  obtain ⟨hstation, hpoint, -⟩ := h.gating d
  rw [gateTakesCharge, hstation, hpoint]
  rfl

theorem plan_checked {c : Configuration} {p : Plan} {s : State} (hset : s.setup = some (c, p)) (hc : c.Checked) :
    p.Checked := by
  obtain ⟨-, -, -, n, -, hn⟩ := setup_some hset
  exact hc.plans n p hn

theorem takeCharge_eq {c : Configuration} {p : Plan} {s : State} (hset : s.setup = some (c, p)) (hc : c.Checked)
    (haside : s.StandsAside) :
    takeCharge s = duesTaken c p (opensDue p s.cau.cycle) (chargeTaken c p s) := by
  obtain ⟨hgate, -⟩ := (plan_checked hset hc).gateMin
  obtain ⟨u, hu⟩ : ∃ u, u = requestBeacon (setGreens true (zeroCounts (clearLines { s with
      mc := { s.mc with mode := .inCharge .leading, pickupElapsed := 0 },
      ct := startClock p s.cau.cycle s.ct,
      lc := linkTakesCharge c.period s.lc,
      pa := .initial,
      gt := ⟨gateTakesCharge s.gt.inbound, gateTakesCharge s.gt.outbound⟩ }))) := ⟨_, rfl⟩
  have htake : takeCharge s = takeReachedDeciding c p (judgeGating c p none u) := by
    rw [hu]
    simp only [takeCharge, hset]
  have hgt : u.gt = ⟨.initial, .initial⟩ := by
    rw [hu, requestBeacon_gt]
    exact congrArg₂ PerDir.mk (gateTakesCharge_aside haside .inbound) (gateTakesCharge_aside haside .outbound)
  have hct : u.ct = startClock p s.cau.cycle s.ct := by rw [hu, requestBeacon_ct]; rfl
  have hjudged : judgeGating c p none u = chargeTaken c p s := by
    rw [judgeGating_opens (by rw [hu, State.inCharge, requestBeacon_mc]; rfl)
      (by rw [hct]; exact Nat.lt_of_lt_of_le (Nat.succ_pos 49) hgate) hgt, hu]
    rfl
  have hreached : markReached (chargeTaken c p s).ct = opensDue p s.cau.cycle := funext fun m =>
    markReached_opening rfl rfl m
  rw [htake, hjudged, takeReachedDeciding_eq (.inr (extensionWinner_no_queue rfl)), hreached]

theorem takeCharge_took {c : Configuration} {p : Plan} {s : State} (hset : s.setup = some (c, p)) (hc : c.Checked)
    (haside : s.StandsAside) : TookCharge c p s (takeCharge s) := by
  rw [takeCharge_eq hset hc haside]
  obtain ⟨-, hstorage, hbeacon⟩ := haside.slots
  obtain ⟨htimer, hslots, hlink, hsending, hdeferral⟩ := linkTaken c.period hstorage hbeacon rfl
  refine ⟨rfl, ?_, htimer, hslots, hlink, hsending, hdeferral, fun k => ?_, ⟨rfl, rfl⟩,
    duesTaken_openingGreen rfl, rfl, fun d => ?_, fun k => ?_, rfl, rfl, rfl, rfl, rfl, rfl, rfl, rfl, rfl⟩
  · have hmarks := duesTaken_opening (c := c) (p := p) (n := s.cau.cycle) (s := chargeTaken c p s) rfl
    calc (duesTaken c p (opensDue p s.cau.cycle) (chargeTaken c p s)).ct
        = { startClock p s.cau.cycle s.ct with
            marks := (duesTaken c p (opensDue p s.cau.cycle) (chargeTaken c p s)).ct.marks } := rfl
      _ = _ := by rw [hmarks]; rfl
  · exact Eight.get_mapNum ..
  · cases d <;> exact ⟨rfl, rfl, rfl, rfl⟩
  · have hoff : (chargeTaken c p s).olu.get k = { s.olu.get k with drive := false } := Eight.get_mapNum ..
    rw [duesTaken_openingDrive k (by rw [hoff]), hoff]

/-! ### The events that take charge -/

theorem inputRises_iff {i : FilteredInput} : inputRises i = true ↔ i = ⟨true, false, true⟩ := by
  obtain ⟨raw, active, timing⟩ := i
  cases raw <;> cases active <;> cases timing <;> decide

theorem inputFalls_iff {i : FilteredInput} : inputFalls i = true ↔ i = ⟨false, true, true⟩ := by
  obtain ⟨raw, active, timing⟩ := i
  cases raw <;> cases active <;> cases timing <;> decide

/-- Standing aside does not read Mode Control, the flags and the detector lines. -/
theorem State.StandsAside.of_eq {s t : State} (h : s.StandsAside)
    (ht : t.ct = s.ct ∧ t.cau = s.cau ∧ t.nt = s.nt ∧ t.di.green = s.di.green ∧ t.olu = s.olu ∧ t.pa = s.pa
      ∧ t.gt = s.gt ∧ t.lc = s.lc) : t.StandsAside := by
  obtain ⟨hct, hcau, hnt, hgreen, holu, hpa, hgt, hlc⟩ := ht
  exact ⟨hct ▸ h.clock, hcau ▸ h.computation, hnt ▸ h.reference, hgreen ▸ h.greens, holu ▸ h.lines, hpa ▸ h.arbiter,
    hgt ▸ h.gating, hlc ▸ h.slots⟩

/-- Settles O49, by the three takings of charge. -/
theorem unitTakesCharge : Obligations.UnitTakesCharge := by
  refine ⟨fun s u h hsync hu => ?_, fun s c p h hset hc haside hmode helapsed => ?_, fun s u h hpre hu => ?_⟩
  · have hedge : inputRises s.mc.sync = true := inputRises_iff.mpr hsync
    have hexec : ∀ t, (if u.mc.mode = .pickup ∧ syncIsUsed u then takeCharge u else u) = t →
        exec .syncRisingEdge s = .next t := fun t ht => by
      refine exec_of_worked h ((if_pos hedge).trans (Eq.trans ?_ ht))
      have hchange : changeInput (inputEdge true) .sync s = u := by rw [hu, changeInput, inputEdge, hsync]
      simp only [hchange]
    refine ⟨fun c p hset hc haside hmode hused => ⟨_, hexec _ (if_pos ?_), takeCharge_took ?_ hc ?_⟩,
      fun hno => hexec _ (if_neg ?_)⟩
    · obtain ⟨-, hconfig, -⟩ := setup_some hset
      subst hu
      exact ⟨hmode, by simp only [syncIsUsed, State.config] at hconfig ⊢; rw [hconfig]; exact hused⟩
    · subst hu
      exact hset
    · subst hu
      exact haside.of_eq ⟨rfl, rfl, rfl, rfl, rfl, rfl, rfl, rfl⟩
    · subst hu
      rintro ⟨hmode, hused⟩
      refine hno.elim (fun hn => hn hmode) fun hn => ?_
      unfold syncIsUsed at hused
      split at hused
      · next c hconfig => exact Bool.false_ne_true ((hn c (cl_of_config hconfig)).symm.trans hused)
      · cases hused
  · obtain ⟨-, -, hplan, -⟩ := setup_some hset
    refine ⟨_, exec_of_worked (t := takeCharge (setFlag .pickupTimeout s)) h ?_, takeCharge_took (s := setFlag .pickupTimeout s)
      hset hc (haside.of_eq ⟨rfl, rfl, rfl, rfl, rfl, rfl, rfl, rfl⟩)⟩
    have hdue : pickupDue p s = true := by simp [pickupDue, hmode, helapsed]
    simp only [worked, pickupRunsOut, hplan, hdue, if_true, pickupExpires]
  · have hedge : inputFalls s.mc.preempt = true := inputFalls_iff.mpr hpre
    have hexec : ∀ t, (if u.mc.mode = .preempted then takeCharge u else u) = t →
        exec .preemptFallingEdge s = .next t := fun t ht => by
      refine exec_of_worked h ((if_pos hedge).trans (Eq.trans ?_ ht))
      have hchange : changeInput (inputEdge false) .preempt s = u := by rw [hu, changeInput, inputEdge, hpre]
      simp only [hchange]
    refine ⟨fun c p hset hc haside hmode => ⟨_, hexec _ (if_pos ?_), takeCharge_took ?_ hc ?_⟩,
      fun hno => hexec _ (if_neg ?_)⟩
    · subst hu
      exact hmode
    · subst hu
      exact hset
    · subst hu
      exact haside.of_eq ⟨rfl, rfl, rfl, rfl, rfl, rfl, rfl, rfl⟩
    · subst hu
      exact hno

end Sys2Proof.Machine

/-! ## Leaving charge, and plans that take effect (R20, R21, R46, R74, R82, R87 to R94)

A plan that takes effect out of charge, and the standing down of every block on leaving charge, are told in one equation
each; the commands and edges that bring them about follow. -/

namespace Sys2Proof.Machine

/-! ### Directions that a plan makes FULL (R74) -/

/-- The storage state of a direction once it has entered FULL where it is to. -/
def filledState (c : Configuration) (p : Plan) (s : State) (d : Direction) : Storage :=
  if fullDue c p d s then .full else s.di.storage.get d

theorem not_full_of_due {c : Configuration} {p : Plan} {s : State} {d : Direction} (h : fullDue c p d s = true) :
    s.di.storage.get d ≠ .full := by
  unfold fullDue at h
  split at h
  · next k hk =>
    rcases ((fullDue_iff hk).mp (by simpa only [fullDue, hk] using h)).1 with hst | hst <;> simp [hst]
  · cases h

theorem enterFullWhenDue_eq (c : Configuration) (p : Plan) (d : Direction) (s : State) :
    enterFullWhenDue c p d s = { s with
      di := { s.di with storage := s.di.storage.set d (filledState c p s d) }
      lc := if s.inCharge = true ∧ fullDue c p d s = true then fillStorage s.lc else s.lc } := by
  unfold enterFullWhenDue filledState
  by_cases h : fullDue c p d s = true
  · rw [if_pos h, if_pos h, setStorage_eq]
    simp [h, not_full_of_due h]
  · rw [if_neg h, if_neg h, if_neg fun hn => h hn.2, set_get]

/-- STORAGE requests for the directions that move. -/
def storageRequests (inbound outbound : Bool) (l : LC) : LC :=
  let l := if inbound then fillStorage l else l
  if outbound then fillStorage l else l

theorem storageRequests_requested {s t : State} {moved : Direction → Bool}
    (hmoved : ∀ d, moved d = false ↔ (s.di.storage.get d = .full ↔ t.di.storage.get d = .full))
    (hlc : t.lc = storageRequests (moved .inbound) (moved .outbound) s.lc) : StorageRequested s t := by
  have hyes : ∀ d, ¬ (s.di.storage.get d = .full ↔ t.di.storage.get d = .full) → moved d = true := fun d hd =>
    Bool.eq_true_of_not_eq_false fun h => hd ((hmoved d).mp h)
  have hno : ∀ d, (s.di.storage.get d = .full ↔ t.di.storage.get d = .full) → moved d = false := fun d => (hmoved d).mpr
  refine ⟨fun h => ?_, fun d e hne hd he => ?_, fun h => ?_⟩
  · rw [hlc, hno .inbound (h _), hno .outbound (h _)]
    rfl
  · rw [hlc]
    cases d with
    | inbound =>
      cases e with
      | inbound => exact absurd rfl hne
      | outbound => rw [hyes _ hd, hno _ he]; rfl
    | outbound =>
      cases e with
      | inbound => rw [hyes _ hd, hno _ he]; rfl
      | outbound => exact absurd rfl hne
  · rw [hlc, hyes .inbound (h _), hyes .outbound (h _)]
    rfl

/-- The state once both directions have entered FULL where they are to. -/
theorem enterFullBoth_eq (c : Configuration) (p : Plan) (s : State) :
    enterFullWhenDue c p .outbound (enterFullWhenDue c p .inbound s) = { s with
      di := { s.di with storage := ⟨filledState c p s .inbound, filledState c p s .outbound⟩ }
      lc := if s.inCharge then storageRequests (fullDue c p .inbound s) (fullDue c p .outbound s) s.lc else s.lc } := by
  obtain ⟨u, hu⟩ : ∃ u, u = enterFullWhenDue c p .inbound s := ⟨_, rfl⟩
  have heq := hu
  rw [enterFullWhenDue_eq] at heq
  have hdue : fullDue c p .outbound u = fullDue c p .outbound s := by
    rw [heq]
    rfl
  have hin : u.inCharge = s.inCharge := by
    rw [heq]
    rfl
  have hfill : filledState c p u .outbound = filledState c p s .outbound := by
    rw [filledState, hdue, heq]
    rfl
  rw [← hu, enterFullWhenDue_eq, hfill, hdue, hin, heq]
  cases s.inCharge <;> cases fullDue c p .inbound s <;> cases fullDue c p .outbound s <;> rfl

theorem filledState_full (c : Configuration) (p : Plan) (s : State) (d : Direction) :
    fullDue c p d s = false ↔ (s.di.storage.get d = .full ↔ filledState c p s d = .full) := by
  unfold filledState
  cases h : fullDue c p d s with
  | false => simp
  | true => simp [not_full_of_due h]

theorem filledState_byPlan {c : Configuration} {p : Plan} {s t u : State} (hdi : u.di.storage = s.di.storage)
    (hlines : u.di.lines = s.di.lines)
    (ht : t.di.storage = ⟨filledState c p u .inbound, filledState c p u .outbound⟩) : FullByPlan c p s t := by
  intro d
  have hd : t.di.storage.get d = filledState c p u d := by
    rw [ht]
    cases d <;> rfl
  rw [hd, filledState]
  refine ⟨fun hnone => ?_, fun k hk => ?_⟩
  · rw [fullDue, hnone, hdi]
    rfl
  · rw [hdi, ← hlines]
    refine if_congr (Iff.trans (fullDue_iff hk) ?_) rfl rfl
    rw [hdi]

/-! ### A plan that takes effect out of charge -/

theorem unshiftedMarks_eq (p : Plan) (n : Nat) : unshiftedMarks p n = Eight.make (standingMark p n) := by
  refine congrArg Eight.make (funext fun m => ?_)
  rw [unshiftedMark_eq, standingMark]

/-- The unit under a plan that has taken effect out of charge, with no request waiting (R46, R74, R93). -/
def planned (c : Configuration) (n : Num4) (q : Plan) (s : State) : State := { s with
  mc := { s.mc with plan := some n, pendingPlan := none, pendingTaken := false }
  cau := { s.cau with cycle := clampNat s.cau.cycle q.cMin q.cMax, smoothed := q.cBase }
  ct := standingPlan q (clampNat s.cau.cycle q.cMin q.cMax) s.ct
  di := { s.di with storage := ⟨filledState c q s .inbound, filledState c q s .outbound⟩ } }

theorem expireAged_empty {p : Plan} {s : State} (h : s.pa.queue = []) : expireAged p s = s := by
  rw [expireAged, h]
  rfl

theorem planStanding_eq {c : Configuration} {n : Num4} {q : Plan} {s : State} (hqueue : s.pa.queue = [])
    (hin : s.inCharge = false) : planStanding c n q s = planned c n q s := by
  obtain ⟨u, hu⟩ : ∃ u : State, u = { s with
      mc := { s.mc with plan := some n, pendingPlan := none, pendingTaken := false },
      cau := { s.cau with cycle := clampNat s.cau.cycle q.cMin q.cMax, smoothed := q.cBase },
      ct := standingPlan q (clampNat s.cau.cycle q.cMin q.cMax) s.ct } := ⟨_, rfl⟩
  have hstand : planStanding c n q s
      = enterFullWhenDue c q .outbound (enterFullWhenDue c q .inbound (expireAged q u)) := by
    rw [hu]
    rfl
  have hnot : u.inCharge = false := by
    rw [hu]
    exact hin
  rw [hstand, expireAged_empty (by rw [hu]; exact hqueue), enterFullBoth_eq, hnot, hu]
  rfl

theorem planned_stands (c : Configuration) (n : Num4) (q : Plan) (s : State) : PlanStands c n q s (planned c n q s) where
  cycle := rfl
  computation := rfl
  storage := filledState_byPlan (u := s) rfl rfl rfl
  rest := by
    rw [← unshiftedMarks_eq]
    rfl

/-! ### The Link Controller on leaving charge -/

theorem deferWhenIdle_depart {l m : LC} (hm : m = deferWhenIdle l) (hdepart : l.depart ≠ none)
    (hdef : ∀ d, l.deferral = some d → d.kind = .depart) (hline : m.line = .idle) (hatt : m.attempt = none) :
    ∃ d, m.deferral = some d ∧ d.kind = .depart := by
  have hrest := deferWhenIdle_rest l
  rw [← hm] at hrest
  have hidle : l.line = .idle := by
    rw [hrest] at hline
    exact hline
  have hnone : l.attempt = none := by
    rw [hrest] at hatt
    exact hatt
  cases hd : l.deferral with
  | some d =>
    rw [hm, deferWhenIdle_waits (.inr (.inl (by rw [hd]; exact Option.some_ne_none d)))]
    exact ⟨d, hd, hdef d hd⟩
  | none =>
    rw [hm, deferWhenIdle_begins hidle hd hnone]
    unfold beginDeferral
    rw [chooseFrame_eq (.inl ⟨rfl, hdepart⟩)]
    exact ⟨_, rfl, rfl⟩

/-- The slots of STORAGE and BEACON emptied and the beacon timer stopped, before a deferral for a DEPART that waits. -/
def linkEmptied (l : LC) : LC := { l with
  beaconTimer := none, storage := false, storageRenewal := false, beacon := false, beaconRenewal := false
  receiver := if l.attempt.any (fun a => decide (a.kind ≠ .depart)) then .hunt else l.receiver
  attempt := l.attempt.filter (fun a => decide (a.kind = .depart))
  deferral := l.deferral.filter (fun d => decide (d.kind = .depart))
  contention := l.contention.filter (fun c => decide (c.kind = .depart)) }

theorem kind_cases (k : FrameKind) : k = .depart ∨ k = .storage ∨ k = .beacon := by cases k <;> simp

theorem linkLeavesCharge_eq (l : LC) : linkLeavesCharge l = deferWhenIdle (linkEmptied l) := by
  have hempty : emptySlot .beacon (emptySlot .storage { l with beaconTimer := none }) = linkEmptied l := by
    rw [emptySlot_eq, emptySlot_eq]
    obtain ⟨_, _, _, _, _, _, _, _, contention, deferral, attempt, _, _, _⟩ := l
    have hopt : ∀ {α : Type} (kind : α → FrameKind) (x : Option α),
        (x.filter fun a => decide (kind a ≠ .storage)).filter (fun a => decide (kind a ≠ .beacon))
          = x.filter fun a => decide (kind a = .depart) := by
      intro α kind x
      cases x with
      | none => rfl
      | some a => rcases kind_cases (kind a) with h | h | h <;> simp [Option.filter, h]
    simp only [linkEmptied, clearSlot, hopt]
    cases attempt with
    | none => rfl
    | some a =>
      rcases kind_cases a.kind with h | h | h <;> simp [Option.filter, h]
  rw [← hempty]
  rfl

/-- The Link Controller once the unit has left charge and requested its DEPART. -/
theorem linkLeft (r : DepartReason) {l m : LC} (hm : m = fillDepart r (linkLeavesCharge l)) :
    m.depart = some r
      ∧ (m.beaconTimer = none ∧ m.storage = false ∧ m.storageRenewal = false ∧ m.beacon = false
        ∧ m.beaconRenewal = false)
      ∧ m.attempt = l.attempt.filter (fun a => decide (a.kind = .depart))
      ∧ m.receiver = (if l.attempt.any (fun a => decide (a.kind ≠ .depart)) then .hunt else l.receiver)
      ∧ (m.line = l.line ∧ m.silenceTimer = l.silenceTimer)
      ∧ (m.line = .idle → m.attempt = none → ∃ d, m.deferral = some d ∧ d.kind = .depart) := by
  obtain ⟨e, he⟩ : ∃ e, e = linkEmptied l := ⟨_, rfl⟩
  have hdef : ∀ d, e.deferral = some d → d.kind = .depart := fun d hd => by
    rw [he] at hd
    exact of_decide_eq_true (Option.filter_eq_some_iff.mp hd).2
  rw [linkLeavesCharge_eq, ← he] at hm
  by_cases hdepart : l.depart = none
  · have hnone : deferWhenIdle e = e := by
      unfold deferWhenIdle
      rw [beginDeferral_nothing (chooseFrame_none (by rw [he]; exact hdepart) (by rw [he]; rfl) (by rw [he]; rfl)), ite_self]
    have hfill : m = deferWhenIdle { e with depart := some r } := by
      rw [hm, hnone]
      refine if_neg ?_
      rw [he]
      exact fun h => by
        rw [show (linkEmptied l).depart = none from hdepart] at h
        cases h
    have hrest := deferWhenIdle_rest { e with depart := some r }
    rw [← hfill, he] at hrest
    refine ⟨?_, ⟨?_, ?_, ?_, ?_, ?_⟩, ?_, ?_, ⟨?_, ?_⟩, deferWhenIdle_depart hfill (Option.some_ne_none r) hdef⟩
    all_goals rw [hrest]
    all_goals rfl
  · obtain ⟨v, hv⟩ : ∃ v, v = deferWhenIdle e := ⟨_, rfl⟩
    have hrest := deferWhenIdle_rest e
    rw [← hv, he] at hrest
    have hsome : v.depart.isSome = true := by
      rw [hrest]
      exact Option.isSome_iff_ne_none.mpr hdepart
    have hfill : m = { v with depart := some r, departRenewal := v.departRenewal || pastMark v .depart } := by
      rw [hm, ← hv]
      exact if_pos hsome
    have hbegun := deferWhenIdle_depart hv (by rw [he]; exact hdepart) hdef
    refine ⟨?_, ⟨?_, ?_, ?_, ?_, ?_⟩, ?_, ?_, ⟨?_, ?_⟩, ?_⟩
    · rw [hfill]
    all_goals rw [hfill]
    iterate 9 rw [hrest]; rfl
    exact hbegun

/-! ### The standing down of the blocks -/

/-- The blocks on leaving charge for a mode, before a pending plan takes effect and the DEPART is requested. -/
def stoodDown (m : Mode) (p : Plan) (s : State) : State := { s with
  cau := abandoned s.cau
  ct := stopClock p s.cau.cycle s.ct
  lc := linkLeavesCharge s.lc
  nt := { s.nt with lastReference := none }
  pa := .initial
  gt := ⟨gateLeavesCharge s.gt.inbound, gateLeavesCharge s.gt.outbound⟩
  mc := { s.mc with mode := m }
  di := { s.di with green := ⟨false, false⟩ }
  olu := s.olu.mapNum (fun _ o => { o with drive := false }) }

theorem leaveCharge_eq {c : Configuration} {p : Plan} {s : State} (hset : s.setup = some (c, p)) (m : Mode) :
    leaveCharge m s = pendingTakesEffect c (stoodDown m p s) := by
  simp only [leaveCharge, hset]
  rfl

theorem leaveCharge_plain {c : Configuration} {p : Plan} {s : State} (hset : s.setup = some (c, p)) (m : Mode)
    (hpend : s.mc.pendingPlan = none) :
    leaveCharge m s = { stoodDown m p s with mc := { s.mc with mode := m, pendingTaken := false } } := by
  have hnone : (stoodDown m p s).mc.pendingPlan = none := hpend
  rw [leaveCharge_eq hset, pendingTakesEffect, hnone]
  rfl

theorem leaveCharge_planned {c : Configuration} {p q : Plan} {s : State} {n : Num4} (hset : s.setup = some (c, p))
    {m : Mode} (hm : modeInCharge m = false) (hpend : s.mc.pendingPlan = some n) (hq : c.plans.get n = some q) :
    leaveCharge m s = planned c n q (stoodDown m p s) := by
  have hsome : (stoodDown m p s).mc.pendingPlan = some n := hpend
  rw [leaveCharge_eq hset, pendingTakesEffect, hsome]
  simp only [hq]
  exact planStanding_eq rfl hm

/-- The DEPART's request stands the blocks down, whatever a plan and the flags and counters become. -/
theorem stoodDown_stood {m : Mode} {p : Plan} {s t : State} (r : DepartReason)
    (hlc : t.lc = fillDepart r (stoodDown m p s).lc)
    (ht : t.nt = (stoodDown m p s).nt ∧ t.di = { (stoodDown m p s).di with storage := t.di.storage }
      ∧ t.pa = (stoodDown m p s).pa ∧ t.gt = (stoodDown m p s).gt ∧ t.olu = (stoodDown m p s).olu ∧ t.cl = s.cl
      ∧ t.computations = s.computations ∧ t.pending = s.pending ∧ t.resetHeld = s.resetHeld
      ∧ t.supplyOut = s.supplyOut) : StoodDown s t ∧ t.lc.depart = some r := by
  obtain ⟨hnt, hdi, hpa, hgt, holu, hcl, hcomp, hpend, hheld, hsupply⟩ := ht
  obtain ⟨hdepart, hslots, hatt, hrec, hlink, hdef⟩ := linkLeft r hlc
  refine ⟨⟨hslots, fun a ha => ?_, hlink, ⟨fun a ha hk => ?_, fun hk => ?_⟩, hdef, hnt, hdi, hpa, fun d => ?_, fun k => ?_,
    hcl, hcomp, hpend, hheld, hsupply⟩, hdepart⟩
  · rw [hatt] at ha
    exact of_decide_eq_true (Option.filter_eq_some_iff.mp ha).2
  · rw [hatt, hrec, ha]
    simp [Option.filter, hk]
  · rw [hatt, hrec]
    cases ha : s.lc.attempt with
    | none => exact ⟨rfl, rfl⟩
    | some a => simp [Option.filter, hk a ha]
  · rw [hgt]
    cases d <;> rfl
  · rw [holu]
    exact Eight.get_mapNum ..

/-- The leaving of charge with no plan pending, under what changes no block it speaks of. -/
theorem leftCharge_of {c : Configuration} {p : Plan} {s u : State} (hset : s.setup = some (c, p)) {m : Mode}
    (hpend : s.mc.pendingPlan = none) (r : DepartReason)
    (hu : u = { leaveCharge m s with counters := u.counters, cp := u.cp }) :
    LeftCharge p m s (requestDepart r u) ∧ (requestDepart r u).lc.depart = some r := by
  rw [leaveCharge_plain hset m hpend] at hu
  obtain ⟨hstood, hdepart⟩ := stoodDown_stood (m := m) (p := p) (s := s) (t := requestDepart r u) r (by rw [hu]; rfl)
    (by rw [hu]; exact ⟨rfl, rfl, rfl, rfl, rfl, rfl, rfl, rfl, rfl, rfl⟩)
  refine ⟨⟨?_, ?_, ?_, ?_, hstood⟩, hdepart⟩
  · rw [hu]
    rfl
  · rw [hu]
    rfl
  · rw [← unshiftedMarks_eq, hu]
    rfl
  · rw [hu]
    rfl

/-- The leaving of charge with a plan pending, under what changes no block it speaks of. -/
theorem leftChargeToPlan_of {c : Configuration} {p q : Plan} {s u : State} {n : Num4} (hset : s.setup = some (c, p))
    {m : Mode} (hm : modeInCharge m = false) (hpend : s.mc.pendingPlan = some n) (hq : c.plans.get n = some q)
    (r : DepartReason) (hu : u = { leaveCharge m s with counters := u.counters, cp := u.cp }) :
    LeftChargeToPlan c n q m s (requestDepart r u) ∧ (requestDepart r u).lc.depart = some r := by
  rw [leaveCharge_planned hset hm hpend hq] at hu
  obtain ⟨hstood, hdepart⟩ := stoodDown_stood (m := m) (p := p) (s := s) (t := requestDepart r u) r (by rw [hu]; rfl)
    (by rw [hu]; exact ⟨rfl, rfl, rfl, rfl, rfl, rfl, rfl, rfl, rfl, rfl⟩)
  refine ⟨⟨?_, ?_, ?_, ?_, ?_, hstood⟩, hdepart⟩
  · rw [hu]
    rfl
  · rw [hu]
    rfl
  · rw [hu]
    rfl
  · rw [← unshiftedMarks_eq, hu]
    rfl
  · exact filledState_byPlan (u := stoodDown m p s) rfl rfl (by rw [hu]; rfl)

end Sys2Proof.Machine

/-! ## The modes and the plans, as commands and edges bring them (R82 to R94) -/

namespace Sys2Proof.Machine

/-! ### PREEMPTED -/

theorem enterPreempted_again {s : State} (hm : s.mc.mode = .preempted) (hp : s.mc.pickupElapsed = 0) :
    enterPreempted s = { s with
      counters := { s.counters with preempted := min (s.counters.preempted + 1) 65535 }
      cp := { s.cp with flags := s.cp.flags ||| 0x0400#16 } } := by
  have hmc : s.mc = { s.mc with mode := .preempted, pickupElapsed := 0 } := by
    rw [← hm, ← hp]
  calc enterPreempted s = { s with
        mc := { s.mc with mode := .preempted, pickupElapsed := 0 }
        counters := { s.counters with preempted := min (s.counters.preempted + 1) 65535 }
        cp := { s.cp with flags := s.cp.flags ||| 0x0400#16 } } := rfl
    _ = _ := by rw [← hmc]

theorem leaveCharge_plain_rest {c : Configuration} {p : Plan} {s : State} (hset : s.setup = some (c, p)) (m : Mode)
    (hpend : s.mc.pendingPlan = none) : (leaveCharge m s).mc.mode = m
      ∧ (leaveCharge m s).mc.pickupElapsed = s.mc.pickupElapsed ∧ (leaveCharge m s).counters = s.counters
      ∧ (leaveCharge m s).cp = s.cp := by
  rw [leaveCharge_plain hset m hpend]
  exact ⟨rfl, rfl, rfl, rfl⟩

theorem leaveCharge_planned_rest {c : Configuration} {p q : Plan} {s : State} {n : Num4} (hset : s.setup = some (c, p))
    {m : Mode} (hm : modeInCharge m = false) (hpend : s.mc.pendingPlan = some n) (hq : c.plans.get n = some q) :
    (leaveCharge m s).mc.mode = m ∧ (leaveCharge m s).mc.pickupElapsed = s.mc.pickupElapsed
      ∧ (leaveCharge m s).counters = s.counters ∧ (leaveCharge m s).cp = s.cp := by
  rw [leaveCharge_planned hset hm hpend hq]
  exact ⟨rfl, rfl, rfl, rfl⟩

/-- Settles O50, by the mode at the edge. -/
theorem preemptRiseEntersPreempted : Obligations.PreemptRiseEntersPreempted := by
  intro s u h hpre hu
  have hedge : inputRises s.mc.preempt = true := inputRises_iff.mpr hpre
  have hchange : changeInput (inputEdge true) .preempt s = u := by rw [hu, changeInput, inputEdge, hpre]
  have hexec : ∀ t, preemptUnit u = t → exec .preemptRisingEdge s = .next t := fun t ht =>
    exec_of_worked h ((if_pos hedge).trans ((congrArg preemptUnit hchange).trans ht))
  have hcharge : ∀ m, s.mc.mode = .inCharge m →
      preemptUnit u = requestDepart .preempt (enterPreempted (leaveCharge .preempted u)) := fun m hm => by
    have humode : u.mc.mode = .inCharge m := by rw [hu]; exact hm
    simp only [preemptUnit, humode]
  refine ⟨fun c p m hset hm hpend helapsed => ⟨_, hexec _ (hcharge m hm), ?_⟩,
    fun c p q m n hset hm hpend hq helapsed => ⟨_, hexec _ (hcharge m hm), ?_⟩, fun hm => hexec _ ?_, fun hm => hexec _ ?_⟩
  · have huset : u.setup = some (c, p) := by rw [hu]; exact hset
    have hupend : u.mc.pendingPlan = none := by rw [hu]; exact hpend
    obtain ⟨hmode, hpickup, hcounters, hcp⟩ := leaveCharge_plain_rest huset .preempted hupend
    have hagain := enterPreempted_again hmode (hpickup.trans (by rw [hu]; exact helapsed))
    obtain ⟨hleft, hdepart⟩ := leftCharge_of huset hupend .preempt (u := enterPreempted (leaveCharge .preempted u))
      (by rw [hagain])
    refine ⟨hleft, hdepart, ?_, ?_⟩
    · rw [requestDepart_counters, hagain, hcounters, hu]
    · rw [requestDepart_cp, hagain, hcp, hu]
  · have huset : u.setup = some (c, p) := by rw [hu]; exact hset
    have hupend : u.mc.pendingPlan = some n := by rw [hu]; exact hpend
    obtain ⟨hmode, hpickup, hcounters, hcp⟩ := leaveCharge_planned_rest huset (m := .preempted) rfl hupend hq
    have hagain := enterPreempted_again hmode (hpickup.trans (by rw [hu]; exact helapsed))
    obtain ⟨hleft, hdepart⟩ := leftChargeToPlan_of huset (m := .preempted) rfl hupend hq .preempt
      (u := enterPreempted (leaveCharge .preempted u)) (by rw [hagain])
    refine ⟨hleft, hdepart, ?_, ?_⟩
    · rw [requestDepart_counters, hagain, hcounters, hu]
    · rw [requestDepart_cp, hagain, hcp, hu]
  · have humode : u.mc.mode = .pickup := by rw [hu]; exact hm
    simp only [preemptUnit, humode]
    rw [hu]
    rfl
  · rcases hm with hm | hm
    all_goals
      have humode : u.mc.mode = s.mc.mode := by rw [hu]
      simp only [preemptUnit, humode, hm]

/-! ### PASS -/

theorem LeftCharge.respond {p : Plan} {m : Mode} {s t : State} (h : LeftCharge p m s t) (hand : InHand) (b : List Byte) :
    LeftCharge p m (respond hand b s) (respond hand b t) :=
  ⟨h.mode, h.computation, h.clock, h.storage, h.rest.slots, h.rest.stopped, h.rest.link, h.rest.sending, h.rest.deferral,
    h.rest.table, h.rest.detectors, h.rest.arbiter, h.rest.gating, h.rest.lines, h.rest.rest⟩

theorem LeftChargeToPlan.respond {c : Configuration} {n : Num4} {q : Plan} {m : Mode} {s t : State}
    (h : LeftChargeToPlan c n q m s t) (hand : InHand) (b : List Byte) :
    LeftChargeToPlan c n q m (respond hand b s) (respond hand b t) :=
  ⟨h.mode, h.cycle, h.computation, h.clock, h.storage, h.rest.slots, h.rest.stopped, h.rest.link, h.rest.sending,
    h.rest.deferral, h.rest.table, h.rest.detectors, h.rest.arbiter, h.rest.gating, h.rest.lines, h.rest.rest⟩

theorem TookCharge.respond {c : Configuration} {p : Plan} {s t : State} (h : TookCharge c p s t) (hand : InHand)
    (b : List Byte) : TookCharge c p (respond hand b s) (respond hand b t) :=
  ⟨h.mode, h.clock, h.beaconTimer, h.slots, h.link, h.sending, h.deferral, h.counts, h.detectors, h.greens, h.arbiter,
    h.gating, h.lines, by rw [respond_cp, h.flags]; rfl, h.computation, h.table, h.rest⟩

theorem exec_taken {i : Instr} {act : State → State} (hi : ∀ s, worked i s = takeMessage act s) {s : State}
    (h : s.powered = true) (hfree : s.cp.inHand = none) {t : State} (ht : act (setPort .wait s) = t) :
    exec i s = .next t :=
  exec_of_worked h ((hi s).trans ((takeMessage_free hfree act).trans ht))

/-- Settles O51, by the mode at the command. -/
theorem holdMovesToPass : Obligations.HoldMovesToPass := by
  have hcharge : ∀ (s : State) (m : ChargeMode), s.powered = true → s.cp.inHand = none → s.mc.mode = .inCharge m →
      exec .hold s = .next (respond (.accepted .hold) (responseBytes 0x80 0x0B [])
        (requestDepart .hold (leaveCharge .pass (setPort .wait s)))) := fun s m h hfree hm =>
    exec_taken (act := actHold) (fun _ => rfl) h hfree (by
      have hmode : (setPort .wait s).mc.mode = .inCharge m := hm
      simp only [actHold, holdUnit, hmode]
      rfl)
  refine ⟨fun s u h hfree hu => ⟨fun c p m hset hm hpend => ⟨_, hcharge s m h hfree hm, ?_⟩, fun hm => ?_, fun hm => ?_,
    fun hm => ?_⟩, fun s c p q m n h hset hm hfree hpend hq u hu => ⟨_, hcharge s m h hfree hm, ?_⟩⟩
  · obtain ⟨-, -, hcounters, hcp⟩ := leaveCharge_plain_rest (s := setPort .wait s) hset .pass hpend
    obtain ⟨hleft, hdepart⟩ := leftCharge_of (s := setPort .wait s) (u := leaveCharge .pass (setPort .wait s)) hset hpend
      .hold rfl
    refine ⟨?_, hdepart, hcounters, ?_⟩
    · rw [hu]
      exact hleft.respond _ _
    · rw [respond_cp, requestDepart_cp, hcp, hu]
      rfl
  iterate 3
    refine exec_taken (act := actHold) (fun _ => rfl) h hfree ?_
    have hmode : (setPort .wait s).mc.mode = _ := hm
    simp only [actHold, holdUnit, hmode]
    rw [hu]
    rfl
  · obtain ⟨-, -, hcounters, hcp⟩ := leaveCharge_planned_rest (s := setPort .wait s) hset (m := .pass) rfl hpend hq
    obtain ⟨hleft, hdepart⟩ := leftChargeToPlan_of (s := setPort .wait s) (u := leaveCharge .pass (setPort .wait s)) hset
      rfl hpend hq .hold rfl
    refine ⟨?_, hdepart, hcounters, ?_⟩
    · rw [hu]
      exact hleft.respond _ _
    · rw [respond_cp, requestDepart_cp, hcp, hu]
      rfl

/-- Settles O52, by the mode and the inputs. -/
theorem resumeLeavesPass : Obligations.ResumeLeavesPass := by
  intro s h hfree
  have hexec : ∀ t, actResume (setPort .wait s) = t → exec .resume s = .next t := fun t =>
    exec_taken (act := actResume) (fun _ => rfl) h hfree
  refine ⟨fun hbad => hexec _ ?_, fun c u hm hc hu => ?_⟩
  · cases hconfig : (setPort .wait s).config with
    | none =>
      simp only [actResume, hconfig]
      rfl
    | some c =>
      have hnot : ¬ (setPort .wait s).mc.mode = .pass := hbad.elim id fun hno => absurd (cl_of_config hconfig) (hno c)
      simp only [actResume, hconfig, if_neg hnot]
      rfl
  · have hresume : ∀ t, leavePass c (setPort .wait s) = t →
        exec .resume s = .next (respond (.accepted .resume) (responseBytes 0x80 0x0C []) t) := fun t ht => hexec _ (by
      have hconfig : (setPort .wait s).config = some c := config_good hc
      have hmode : (setPort .wait s).mc.mode = .pass := hm
      simp only [actResume, hconfig, hmode, if_true, ht]
      rfl)
    refine ⟨fun hpre => ?_, fun hpre hsync => ?_, fun p hpre hsync hset hchecked haside =>
      ⟨_, hresume (takeCharge (setPort .wait s)) ?_, ?_⟩⟩
    · rw [hu]
      exact hresume (enterPreempted (setPort .wait s)) (if_pos hpre)
    · have hoff : ¬ (setPort .wait s).mc.preempt.active = true := Bool.eq_false_iff.mp hpre
      have hpick : leavePass c (setPort .wait s)
          = { setPort .wait s with mc := { s.mc with mode := .pickup, pickupElapsed := 0 } } :=
        (if_neg hoff).trans (if_pos hsync)
      rw [hu]
      exact hresume _ hpick
    · have hoff : ¬ (setPort .wait s).mc.preempt.active = true := Bool.eq_false_iff.mp hpre
      exact (if_neg hoff).trans (if_neg (Bool.eq_false_iff.mp hsync))
    · rw [hu]
      exact (takeCharge_took (s := setPort .wait s) hset hchecked
        (haside.of_eq ⟨rfl, rfl, rfl, rfl, rfl, rfl, rfl, rfl⟩)).respond _ _

/-! ### Plans -/

theorem ofNumber4_toNat (n : Num4) : Num4.ofNumber n.toNat = some n := by cases n <;> rfl

theorem ofNumber4_some {x : Nat} {n : Num4} (h : Num4.ofNumber x = some n) : n.toNat = x := by
  unfold Num4.ofNumber at h
  split at h <;> cases h <;> rfl

theorem namedPlan_eq {c : Configuration} {b : Byte} {n : Num4} {q : Plan} (hn : n.toNat = b.toNat)
    (hq : c.plans.get n = some q) : namedPlan c b = some (n, q) := by
  simp only [namedPlan, ← hn, ofNumber4_toNat, hq]

theorem namedPlan_none {c : Configuration} {b : Byte} (h : ∀ n : Num4, n.toNat = b.toNat → c.plans.get n = none) :
    namedPlan c b = none := by
  unfold namedPlan
  split
  · next n hn => rw [h n (ofNumber4_some hn)]
  · rfl

theorem pickupDue_iff {p : Plan} {s : State} :
    pickupDue p s = true ↔ s.mc.mode = .pickup ∧ p.cBase + 100 ≤ s.mc.pickupElapsed := by
  simp [pickupDue]

theorem takeCharge_mc {c : Configuration} {p : Plan} {s : State} (hset : s.setup = some (c, p)) :
    (takeCharge s).mc = { s.mc with mode := .inCharge .leading, pickupElapsed := 0 } := by
  simp [takeCharge, hset]

/-- A plan chosen by a unit that stands aside, whatever the port holds. -/
theorem planStanding_setPort {c : Configuration} {n : Num4} {q : Plan} {s : State} (haside : s.StandsAside)
    (hin : s.inCharge = false) : planStanding c n q (setPort .wait s) = { planned c n q s with
      cp := { s.cp with receiver := .wait } } :=
  planStanding_eq haside.arbiter.1 hin

/-- A standing unit keeps standing aside under a plan. -/
theorem planned_aside {c : Configuration} {n : Num4} {q : Plan} {s : State} (h : s.StandsAside) :
    (planned c n q s).StandsAside :=
  ⟨h.clock, h.computation, h.reference, h.greens, h.lines, h.arbiter, h.gating, h.slots⟩

/-- Settles O53, by the mode at the command. -/
theorem planIsChosen : Obligations.PlanIsChosen := by
  intro s b h hfree
  have hexec : ∀ t, actPlan b (setPort .wait s) = t → exec (.plan b) s = .next t := fun t =>
    exec_taken (act := actPlan b) (fun _ => rfl) h hfree
  refine ⟨fun hno => hexec _ ?_, fun c hc => ⟨fun hno => hexec _ ?_, fun n q cp hn hq hcp => ?_⟩⟩
  · have hconfig : (setPort .wait s).config = none := config_none hno
    simp only [actPlan, hconfig]
    rfl
  · have hconfig : (setPort .wait s).config = some c := config_good hc
    simp only [actPlan, hconfig, namedPlan_none hno]
    rfl
  have hchosen : ∀ t, choosePlan c n q (setPort .wait s) = t →
      exec (.plan b) s = .next (respond (.accepted .plan) (responseBytes 0x80 0x08 []) t) := fun t ht => hexec _ (by
    have hconfig : (setPort .wait s).config = some c := config_good hc
    simp only [actPlan, hconfig, namedPlan_eq hn hq, ht]
    rfl)
  refine ⟨fun hin => ?_, fun hin haside hearly => ⟨_, _,
      hchosen { planned c n q s with cp := { s.cp with receiver := .wait } } ?_, planned_stands c n q s, ?_⟩,
    fun hm hdue haside => ?_⟩
  · rw [hcp]
    exact hchosen _ (if_pos hin)
  · refine (if_neg (Bool.eq_false_iff.mp hin)).trans ?_
    rw [planStanding_setPort haside hin]
    refine if_neg fun hd => ?_
    obtain ⟨hm, hle⟩ : s.mc.mode = .pickup ∧ q.cBase + 100 ≤ s.mc.pickupElapsed := pickupDue_iff.mp hd
    exact absurd (hearly hm) (Nat.not_lt.mpr hle)
  · rw [hcp]
    rfl
  · have hin : s.inCharge = false := by rw [State.inCharge, hm]; rfl
    obtain ⟨u, hu⟩ : ∃ u : State, u = { planned c n q s with cp := { s.cp with receiver := .wait } } := ⟨_, rfl⟩
    have hchoose : choosePlan c n q (setPort .wait s) = takeCharge (setFlag .pickupTimeout u) := by
      refine (if_neg (Bool.eq_false_iff.mp hin)).trans ?_
      rw [planStanding_setPort haside hin, ← hu]
      rw [hu]
      exact if_pos (pickupDue_iff.mpr ⟨hm, hdue⟩)
    have huset : (setFlag .pickupTimeout u).setup = some (c, q) := by
      rw [hu]
      simp only [State.setup, State.planInForce, State.config, setFlag, planned, hc, hq]
    have huaside : (setFlag .pickupTimeout u).StandsAside := by
      rw [hu]
      exact (planned_aside (c := c) (n := n) (q := q) haside).of_eq ⟨rfl, rfl, rfl, rfl, rfl, rfl, rfl, rfl⟩
    refine ⟨_, hchosen _ hchoose, ?_, ?_, ?_, fun hchecked => ⟨planned c n q s, planned_stands c n q s, ?_⟩⟩
    · rw [respond_mc, takeCharge_mc huset]
    · rw [respond_mc, takeCharge_mc huset, hu]
      rfl
    · refine ((takeCharge_orderly (w := 0) (setFlag .pickupTimeout u)).flags .pickupTimeout ?_).resolve_right (by decide)
      rw [setFlag_cp, flagIn_setFlag]
      exact Bool.or_true _
    · have htook := (takeCharge_took huset hchecked huaside).respond (.accepted .plan) (responseBytes 0x80 0x08 [])
      have hstart : respond (.accepted .plan) (responseBytes 0x80 0x08 []) (setFlag .pickupTimeout u)
          = { planned c n q s with cp := { cp with flags := cp.flags ||| 0x0800#16 } } := by
        rw [hu, hcp]
        rfl
      rwa [hstart] at htook

end Sys2Proof.Machine

/-! ## The configuration block (R177 to R179, section 11.8)

A block that passes the range and cross-checks is one whose codes name something and whose configuration is a checked one,
and the other way round: `tests_iff`. The configuration it gives is the only one that its fields spell: `blockRead_iff`. -/

namespace Sys2Proof.Machine

/-! ### The checks, one by one -/

theorem u8_le (b : List Byte) (off : Nat) : u8 b off ≤ 255 := Nat.lt_succ_iff.mp (b.getD off 0).isLt

theorem u16_le (b : List Byte) (off : Nat) : u16 b off ≤ 65535 := by
  have h := u8_le b off
  have h' := u8_le b (off + 1)
  unfold u16
  omega

theorem test8_ok {b : List Byte} {off lo hi : Nat} : (test8 b off lo hi).ok = true ↔ lo ≤ u8 b off ∧ u8 b off ≤ hi :=
  inRange_iff

theorem test16_ok {b : List Byte} {off lo hi : Nat} : (test16 b off lo hi).ok = true ↔ lo ≤ u16 b off ∧ u16 b off ≤ hi :=
  inRange_iff

theorem testCycle_ok {b : List Byte} {off : Nat} : (testCycle b off).ok = true ↔ CycleValue (u16 b off) := cycleOk_iff

theorem markTest_ok {b : List Byte} {o : Nat} {m : Num8} : (markTest b o m).ok = true ↔
    u16 b (o + markOffset m) = 0 ∨ u16 b (o + markOffset m) < u16 b (o + 1) := by
  simp [markTest]

theorem earlyMarkTest_ok {b : List Byte} {o : Nat} {m : Num8} : (earlyMarkTest b o m).ok = true ↔
    u16 b (o + markOffset m) = 0 ∨ stretchBase b o ≤ u16 b (o + markOffset m)
      ∨ 8 * u16 b (o + markOffset m) < 7 * u16 b (o + 1) := by
  simp [earlyMarkTest, or_assoc]

/-! ### A plan part -/

/-- The codes of a plan part name something. -/
structure PlanCodes (b : List Byte) (o : Nat) : Prop where
  direction : 1 ≤ u8 b (o + 8) ∧ u8 b (o + 8) ≤ 2
  stretch : 1 ≤ u8 b (o + 47) ∧ u8 b (o + 47) ≤ 8

theorem readPlan_base (b : List Byte) (o : Nat) (m : Num8) : (readPlan b o).base m = u16 b (o + markOffset m) :=
  Eight.get_make ..

theorem ofNumber_of_range {n : Nat} (h : 1 ≤ n ∧ n ≤ 8) : ∃ m : Num8, Num8.ofNumber n = some m ∧ m.toNat = n := by
  obtain ⟨hlo, hhi⟩ := h
  interval_cases n
  exacts [⟨.n1, rfl, rfl⟩, ⟨.n2, rfl, rfl⟩, ⟨.n3, rfl, rfl⟩, ⟨.n4, rfl, rfl⟩, ⟨.n5, rfl, rfl⟩, ⟨.n6, rfl, rfl⟩,
    ⟨.n7, rfl, rfl⟩, ⟨.n8, rfl, rfl⟩]

section
variable {b : List Byte} {o : Nat}

theorem readPlan_stretch (h : 1 ≤ u8 b (o + 47) ∧ u8 b (o + 47) ≤ 8) :
    (readPlan b o).stretch.toNat = u8 b (o + 47) := by
  obtain ⟨m, hm, hn⟩ := ofNumber_of_range h
  have hs : (readPlan b o).stretch = m := by simp only [readPlan, hm]
  rw [hs, hn]

theorem stretchBase_eq (h : 1 ≤ u8 b (o + 47) ∧ u8 b (o + 47) ≤ 8) :
    stretchBase b o = (readPlan b o).base (readPlan b o).stretch := by
  rw [readPlan_base, markOffset, readPlan_stretch h, stretchBase, Nat.add_assoc]

theorem stretchAtMin_eq (h : 1 ≤ u8 b (o + 47) ∧ u8 b (o + 47) ≤ 8) :
    stretchAtMin b o = (readPlan b o).scaled (readPlan b o).cMin (readPlan b o).stretch := by
  rw [stretchAtMin, stretchBase_eq h]
  rfl

theorem readPlan_checked (h : PlanCodes b o) (hfields : ∀ t ∈ planFieldTests b o, t.ok = true)
    (hrows : ∀ row ∈ planRows b, ∀ t ∈ row o, t.ok = true) : (readPlan b o).Checked := by
  simp only [planFieldTests, List.forall_mem_append, List.forall_mem_cons, List.forall_mem_map, test8_ok, test16_ok,
    testCycle_ok, markTest_ok, Bool.and_eq_true, inRange_iff, decide_eq_true_eq] at hfields
  obtain ⟨⟨⟨hbase, hmin, hmax, hstep, -, hin, hout, hloss, hhead, hq, hg, hgate, hlost, hart, hcross, hci, hco, hfull,
    hrel, -⟩, hmarks⟩, -, hemax, hxmax, hxmin, hlife, -⟩ := hfields
  simp only [planRows, List.forall_mem_cons, List.forall_mem_map, earlyMarkTest_ok, decide_eq_true_eq,
    stretchBase_eq h.stretch, stretchAtMin_eq h.stretch, ← readPlan_base] at hrows
  obtain ⟨⟨hlow, -⟩, ⟨hhigh, -⟩, ⟨hstretch, -⟩, hearly, ⟨hgs, -⟩, ⟨hqs, -⟩, ⟨hgates, -⟩, -⟩ := hrows
  have hpos : 300 ≤ (readPlan b o).cBase := hbase.1
  refine ⟨hbase, hmin, hmax, ⟨hlow, hhigh⟩, ⟨hstep.1.1, hstep.1.2, hstep.2⟩, ⟨hin, hout⟩, hloss.2, hhead, ⟨hq.2, hqs⟩,
    ⟨hg.1, hg.2, hgs⟩, ⟨hgate.1, hgate.2, hgates⟩, hlost, ⟨hart, hcross⟩, fun d => ?_, hfull, hrel, fun m => ?_,
    usesMark_iff.mpr hstretch, fun m hm => ?_, hemax.2, hxmax.2, hxmin, hlife⟩
  · cases d
    · exact hci
    · exact hco
  · rw [readPlan_base]
    rcases hmarks m (Num8.mem_all m) with h0 | hlt
    · rw [h0]
      exact Nat.lt_of_lt_of_le (by decide) hpos
    · exact hlt
  · rcases hearly m (Num8.mem_all m) with h0 | hle | hlt
    · rw [h0]
      omega
    · omega
    · exact hlt

theorem planFieldTests_ok (h : PlanCodes b o) (hp : (readPlan b o).Checked) :
    (∀ t ∈ planFieldTests b o, t.ok = true) ∧ ∀ row ∈ planRows b, ∀ t ∈ row o, t.ok = true := by
  have hnil : ∀ t ∈ ([] : List FieldTest), t.ok = true := fun t ht => by cases ht
  constructor
  · simp only [planFieldTests, List.forall_mem_append, List.forall_mem_cons, List.forall_mem_map, test8_ok, test16_ok,
      testCycle_ok, markTest_ok, Bool.and_eq_true, inRange_iff, decide_eq_true_eq]
    refine ⟨⟨⟨hp.cBase, hp.cMin, hp.cMax, ⟨⟨hp.cStep.1, hp.cStep.2.1⟩, hp.cStep.2.2⟩, h.direction, hp.speeds.1,
      hp.speeds.2, ⟨Nat.zero_le _, hp.startLoss⟩, hp.headway, ⟨Nat.zero_le _, hp.qMax.1⟩, ⟨hp.gMin.1, hp.gMin.2.1⟩,
      ⟨hp.gateMin.1, hp.gateMin.2.1⟩, hp.lostTime, hp.saturation.1, hp.saturation.2, hp.capacity .inbound,
      hp.capacity .outbound, hp.fFull, hp.fRel, hnil⟩, fun m _ => .inr ?_⟩, h.stretch, ⟨Nat.zero_le _, hp.eMax⟩,
      ⟨Nat.zero_le _, hp.xMax⟩, hp.xMin, hp.pLife, hnil⟩
    rw [← readPlan_base]
    exact hp.marks m
  · simp only [planRows, List.forall_mem_cons, List.forall_mem_map, earlyMarkTest_ok, decide_eq_true_eq,
      stretchBase_eq h.stretch, stretchAtMin_eq h.stretch, ← readPlan_base]
    refine ⟨⟨hp.limits.1, hnil⟩, ⟨hp.limits.2, hnil⟩, ⟨usesMark_iff.mp hp.stretch, hnil⟩, fun m _ => ?_,
      ⟨hp.gMin.2.2, hnil⟩, ⟨hp.qMax.2, hnil⟩, ⟨hp.gateMin.2.2, hnil⟩, fun row hrow => by cases hrow⟩
    by_cases hm : (readPlan b o).base (readPlan b o).stretch ≤ (readPlan b o).base m
    · exact .inr (.inl hm)
    · exact .inr (.inr (hp.early m (Nat.not_le.mp hm)))

end

/-! ### The whole block -/

/-- The codes of a block name something. -/
structure BlockCodes (b : List Byte) : Prop where
  sync : u8 b 11 ≤ 1
  roles : ∀ k, u8 b (detectorOffset k) ≤ 7
  outputs : ∀ k, u8 b (outputOffset k) ≤ 8 ∧ u8 b (outputOffset k + 1) ≤ 1 ∧ u8 b (outputOffset k + 2) ≤ 2
  present : ∀ n, u8 b (planOffset n) ≤ 1
  plans : ∀ n, planPresent b n = true → PlanCodes b (planOffset n)

theorem roleOf_eq_iff {n : Nat} (h : n ≤ 7) : (roleOf n = .advIn ↔ n = 1) ∧ (roleOf n = .advOut ↔ n = 2)
    ∧ ((roleTransit (roleOf n)).isSome = true ↔ n = 6 ∨ n = 7) := by
  interval_cases n <;> decide

theorem atMostLines_ok {b : List Byte} {n : Nat} {test : Nat → Bool} :
    (∀ t ∈ atMostLines b n test, t.ok = true) ↔ (linesWithRole b test).length ≤ n := by
  unfold atMostLines
  split
  · next h => simp [← List.drop_eq_nil_iff, h]
  · next k rest h => simp [← List.drop_eq_nil_iff, h]

section
variable {b : List Byte}

theorem readConfiguration_role (k : Num8) : (readConfiguration b).role k = roleOf (u8 b (detectorOffset k)) := by
  simp [Configuration.role, readConfiguration, readDetector]

theorem readConfiguration_plan (n : Num4) : (readConfiguration b).plans.get n = readPlanPart b n := by cases n <;> rfl

theorem readPlanPart_some {n : Num4} {p : Plan} :
    readPlanPart b n = some p ↔ planPresent b n = true ∧ p = readPlan b (planOffset n) := by
  rw [readPlanPart, Option.ite_none_right_eq_some, Option.some.injEq, eq_comm (a := p)]

/-- At most one line passes a test exactly where two lines that pass it are one line. -/
theorem length_linesWithRole_le_one {test : Nat → Bool} : (linesWithRole b test).length ≤ 1 ↔
    ∀ k j, test (u8 b (detectorOffset k)) = true → test (u8 b (detectorOffset j)) = true → k = j := by
  have hnodup : (linesWithRole b test).Nodup := List.Nodup.filter _ (by decide)
  have hmem : ∀ k, k ∈ linesWithRole b test ↔ test (u8 b (detectorOffset k)) = true := fun k => by
    simp [linesWithRole, Num8.mem_all]
  simp only [← hmem]
  constructor
  · intro h k j hk hj
    match hl : linesWithRole b test, h with
    | [], _ => simp [hl] at hk
    | [x], _ =>
      rw [hl, List.mem_singleton] at hk hj
      rw [hk, hj]
  · intro h
    match hl : linesWithRole b test with
    | [] => exact Nat.zero_le 1
    | [x] => exact le_rfl
    | x :: y :: rest =>
      rw [hl] at h hnodup
      exact absurd (h x y (by simp) (by simp)) (by simp only [List.nodup_cons, List.mem_cons, not_or] at hnodup; exact hnodup.1.1)

theorem forall_planTests : (∀ t ∈ Num4.all.flatMap (planTests b), t.ok = true) ↔
    ∀ n, u8 b (planOffset n) ≤ 1
      ∧ (planPresent b n = true → ∀ t ∈ planFieldTests b (planOffset n), t.ok = true) := by
  simp only [List.forall_mem_flatMap, Num4.mem_all, forall_const, planTests, List.forall_mem_cons, test8_ok, Nat.zero_le,
    true_and]
  refine forall_congr' fun n => and_congr_right fun _ => ?_
  split
  · next h => simp [h]
  · next h => simp [h]

theorem forall_rangeTests : (∀ t ∈ rangeTests b, t.ok = true) ↔
    ((1 ≤ u8 b 2 ∧ u8 b 2 ≤ 250) ∧ u8 b 3 ≤ 15 ∧ (100 ≤ u16 b 6 ∧ u16 b 6 ≤ 5000) ∧ (10 ≤ u8 b 8 ∧ u8 b 8 ≤ 50)
      ∧ (1 ≤ u8 b 9 ∧ u8 b 9 ≤ 7) ∧ (2 ≤ u8 b 10 ∧ u8 b 10 ≤ 16) ∧ u8 b 11 ≤ 1)
    ∧ (∀ k, u8 b (detectorOffset k) ≤ 7 ∧ u8 b (detectorOffset k + 1) ≤ 25
      ∧ (10 ≤ u8 b (detectorOffset k + 2) ∧ u8 b (detectorOffset k + 2) ≤ 255)
      ∧ 2 ≤ u8 b (detectorOffset k + 3) ∧ u8 b (detectorOffset k + 3) ≤ 15)
    ∧ (∀ k, u8 b (outputOffset k) ≤ 8 ∧ u8 b (outputOffset k + 1) ≤ 1 ∧ u8 b (outputOffset k + 2) ≤ 2)
    ∧ ∀ n, u8 b (planOffset n) ≤ 1
      ∧ (planPresent b n = true → ∀ t ∈ planFieldTests b (planOffset n), t.ok = true) := by
  simp only [rangeTests, List.forall_mem_append, forall_planTests]
  simp only [List.forall_mem_flatMap, Num8.mem_all, forall_const, detectorTests, outputTests, List.forall_mem_cons, test8_ok,
    test16_ok, Nat.zero_le, true_and, u16_le, List.not_mem_nil, false_implies, implies_true, and_true, and_assoc]

theorem forall_crossTests : (∀ t ∈ crossTests b, t.ok = true) ↔
    (∀ n, planPresent b n = true → ∀ row ∈ planRows b, ∀ t ∈ row (planOffset n), t.ok = true)
    ∧ (linesWithRole b (fun r => decide (r = 1))).length ≤ 1 ∧ (linesWithRole b (fun r => decide (r = 2))).length ≤ 1
    ∧ (linesWithRole b (fun r => decide (r = 6) || decide (r = 7))).length ≤ 4 ∧ planPresent b .n1 = true := by
  have hrows : (∀ t ∈ (planRows b).flatMap (fun row => (Num4.all.filter (planPresent b)).flatMap
      (fun n => row (planOffset n))), t.ok = true)
      ↔ ∀ n, planPresent b n = true → ∀ row ∈ planRows b, ∀ t ∈ row (planOffset n), t.ok = true := by
    simp only [List.forall_mem_flatMap, List.mem_filter, Num4.mem_all, true_and]
    exact ⟨fun h n hn row hrow => h row hrow n hn, fun h row hrow n hn => h n hn row hrow⟩
  simp only [crossTests, List.forall_mem_append, atMostLines_ok, List.forall_mem_singleton, hrows, and_assoc]

theorem advances_iff (hroles : ∀ k, u8 b (detectorOffset k) ≤ 7) :
    (∀ d k j, (readConfiguration b).role k = advanceRole d → (readConfiguration b).role j = advanceRole d → k = j) ↔
      (linesWithRole b (fun r => decide (r = 1))).length ≤ 1
      ∧ (linesWithRole b (fun r => decide (r = 2))).length ≤ 1 := by
  have hin : ∀ k, (readConfiguration b).role k = advanceRole .inbound ↔ u8 b (detectorOffset k) = 1 := fun k => by
    rw [readConfiguration_role]
    exact (roleOf_eq_iff (hroles k)).1
  have hout : ∀ k, (readConfiguration b).role k = advanceRole .outbound ↔ u8 b (detectorOffset k) = 2 := fun k => by
    rw [readConfiguration_role]
    exact (roleOf_eq_iff (hroles k)).2.1
  simp only [length_linesWithRole_le_one, decide_eq_true_eq, ← hin, ← hout]
  refine ⟨fun h => ⟨h .inbound, h .outbound⟩, fun ⟨hi, ho⟩ d => ?_⟩
  cases d
  · exact hi
  · exact ho

theorem transit_eq (hroles : ∀ k, u8 b (detectorOffset k) ≤ 7) :
    Num8.all.filter (fun k => (roleTransit ((readConfiguration b).role k)).isSome)
      = linesWithRole b (fun r => decide (r = 6) || decide (r = 7)) := by
  refine List.filter_congr fun k _ => ?_
  rw [Bool.eq_iff_iff, readConfiguration_role, (roleOf_eq_iff (hroles k)).2.2]
  simp

/-- The ranges and cross-checks hold of a block exactly where its codes name something and its configuration is a checked
one (R179, 3 and 4). -/
theorem tests_iff : (∀ t ∈ rangeTests b ++ crossTests b, t.ok = true) ↔
    BlockCodes b ∧ (readConfiguration b).Checked := by
  have hdet : ∀ k, (readConfiguration b).detectors.get k = readDetector b k := fun k => Eight.get_make ..
  rw [List.forall_mem_append, forall_rangeTests, forall_crossTests]
  constructor
  · rintro ⟨⟨⟨hstation, hgroup, hreach, hperiod, hhop, hret, hsync⟩, hdetectors, houtputs, hplans⟩, hrows, hone, htwo,
      htransit, hfirst⟩
    have hroles : ∀ k, u8 b (detectorOffset k) ≤ 7 := fun k => (hdetectors k).1
    have hcodes : ∀ n, planPresent b n = true → PlanCodes b (planOffset n) := fun n hn => by
      have hfields := (hplans n).2 hn
      simp only [planFieldTests, List.forall_mem_append, List.forall_mem_cons, test8_ok] at hfields
      obtain ⟨⟨⟨-, -, -, -, hdir, -⟩, -⟩, hstretch, -⟩ := hfields
      exact ⟨hdir, hstretch⟩
    refine ⟨⟨hsync, hroles, houtputs, fun n => (hplans n).1, hcodes⟩,
      ⟨hstation, hgroup, u16_le b 4, hreach, hperiod, hhop, hret, fun k => ?_, fun k => ?_, fun k => ?_,
        (advances_iff hroles).mpr ⟨hone, htwo⟩, by rwa [transit_eq hroles], ?_, fun n p hp => ?_⟩⟩
    · rw [hdet]
      exact (hdetectors k).2.1
    · rw [hdet]
      exact (hdetectors k).2.2.1
    · rw [hdet]
      exact (hdetectors k).2.2.2
    · exact congrArg Option.isSome (if_pos hfirst)
    · rw [readConfiguration_plan, readPlanPart_some] at hp
      obtain ⟨hn, rfl⟩ := hp
      exact readPlan_checked (hcodes n hn) ((hplans n).2 hn) (hrows n hn)
  · rintro ⟨hcodes, hc⟩
    obtain ⟨hone, htwo⟩ := (advances_iff hcodes.roles).mp hc.oneAdvance
    have hplan : ∀ n, planPresent b n = true → (readPlan b (planOffset n)).Checked := fun n hn =>
      hc.plans n _ (by rw [readConfiguration_plan, readPlanPart_some]; exact ⟨hn, rfl⟩)
    have hdetectors : ∀ k, u8 b (detectorOffset k + 1) ≤ 25
        ∧ (10 ≤ u8 b (detectorOffset k + 2) ∧ u8 b (detectorOffset k + 2) ≤ 255)
        ∧ 2 ≤ u8 b (detectorOffset k + 3) ∧ u8 b (detectorOffset k + 3) ≤ 15 := fun k => by
      have hf := hc.filters k
      have hon := hc.stuckOn k
      have hoff := hc.stuckOff k
      rw [hdet] at hf hon hoff
      exact ⟨hf, hon, hoff⟩
    refine ⟨⟨⟨hc.station, hc.group, hc.reach, hc.period, hc.hopLimit, hc.retention, hcodes.sync⟩,
      fun k => ⟨hcodes.roles k, hdetectors k⟩, hcodes.outputs, fun n => ⟨hcodes.present n, fun hn =>
        (planFieldTests_ok (hcodes.plans n hn) (hplan n hn)).1⟩⟩, fun n hn =>
        (planFieldTests_ok (hcodes.plans n hn) (hplan n hn)).2, hone, htwo, ?_, ?_⟩
    · rw [← transit_eq hcodes.roles]
      exact hc.fourTransit
    · by_contra hno
      have hplanOne : (readPlanPart b .n1).isSome = true := hc.planOne
      rw [readPlanPart, if_neg hno] at hplanOne
      cases hplanOne

end

end Sys2Proof.Machine

/-! ## How a load ends (R177 to R179), and the start it gives the unit (R12, R15, R43, R63, R64, R76, R80, R82, R97) -/

namespace Sys2Proof.Machine

/-! ### The configuration that a block's fields spell -/

section
variable {b : List Byte}

/-- The code of a role (section 11.8). -/
def roleCode : Role → Nat
  | .unused => 0 | .advIn => 1 | .advOut => 2 | .stopIn => 3 | .stopOut => 4 | .cross => 5 | .transitHigh => 6
  | .transitLow => 7

theorem roleCode_roleOf {n : Nat} (h : n ≤ 7) : roleCode (roleOf n) = n := by
  interval_cases n <;> rfl

theorem roleOf_roleCode (r : Role) : roleOf (roleCode r) = r := by cases r <;> rfl

theorem roleCode_le (r : Role) : roleCode r ≤ 7 := by cases r <;> decide

/-- The code of an output line's mark (section 11.8). -/
def markCode : Option Num8 → Nat
  | none => 0
  | some m => m.toNat

/-- The code of a polarity (section 11.8). -/
def polarityCode : Polarity → Nat
  | .direct => 0
  | .inverted => 1

/-- The code of a gate direction (section 11.8). -/
def gateCode : Option Direction → Nat
  | none => 0
  | some .inbound => 1
  | some .outbound => 2

theorem planRead_readPlan {o : Nat} (h : PlanCodes b o) : PlanRead b o (readPlan b o) where
  cycles := ⟨rfl, rfl, rfl, rfl⟩
  direction := by
    obtain ⟨hlo, hhi⟩ := h.direction
    have hcases : u8 b (o + 8) = 1 ∨ u8 b (o + 8) = 2 := by omega
    rcases hcases with hd | hd <;> simp [readPlan, hd]
  travel := ⟨rfl, rfl, rfl, rfl, rfl⟩
  greens := ⟨rfl, rfl⟩
  demand := ⟨rfl, rfl, rfl⟩
  approaches := ⟨rfl, rfl, rfl⟩
  marks m := by
    rw [readPlan_base, markOffset, Nat.add_assoc]
  stretch := readPlan_stretch h.stretch
  priority := ⟨rfl, rfl, rfl, rfl⟩

theorem toNat_range (m : Num8) : 1 ≤ m.toNat ∧ m.toNat ≤ 8 := by cases m <;> decide

theorem toNat_injective {m n : Num8} (h : m.toNat = n.toNat) : m = n := by
  have hm := ofNumber_toNat m
  rw [h, ofNumber_toNat] at hm
  exact (Option.some.inj hm).symm

theorem planRead_codes {o : Nat} {p : Plan} (h : PlanRead b o p) : PlanCodes b o where
  direction := by
    rw [← h.direction]
    cases p.direction <;> decide
  stretch := by
    rw [← h.stretch]
    exact toNat_range p.stretch

theorem planRead_eq {o : Nat} {p : Plan} (h : PlanRead b o p) : p = readPlan b o := by
  have hr := planRead_readPlan (planRead_codes h)
  obtain ⟨hc, hmin, hmax, hstep⟩ := h.cycles
  obtain ⟨hin, hout, hloss, hhead, hq⟩ := h.travel
  obtain ⟨hg, hgate⟩ := h.greens
  obtain ⟨hlost, hart, hcross⟩ := h.demand
  obtain ⟨hcap, hfull, hrel⟩ := h.approaches
  obtain ⟨hemax, hxmax, hxmin, hlife⟩ := h.priority
  have hmarks : p.marks = (readPlan b o).marks := Eight.ext_get fun m => (h.marks m).trans (hr.marks m).symm
  have hstretch : p.stretch = (readPlan b o).stretch := toNat_injective (h.stretch.trans hr.stretch.symm)
  have hdir : p.direction = (readPlan b o).direction := by
    have heq := h.direction.trans hr.direction.symm
    revert heq
    cases p.direction <;> cases (readPlan b o).direction <;> decide
  obtain ⟨_, _, _, _, _, _, _, _, _, _, _, _, _, _, _, _, _, _, _, _, _, _, _, _⟩ := p
  rw [readPlan] at *
  simp only [Plan.mk.injEq]
  exact ⟨hc, hmin, hmax, hstep, hdir, hin, hout, hloss, hhead, hq, hg, hgate, hlost, hart, hcross, hcap, hfull, hrel,
    hmarks, hstretch, hemax, hxmax, hxmin, hlife⟩

/-! ### The whole block -/

theorem blockRead_readConfiguration (h : BlockCodes b) : BlockRead b (readConfiguration b) where
  station := ⟨rfl, rfl, rfl, rfl, rfl, rfl, rfl, rfl⟩
  codes := ⟨h.sync, h.present⟩
  roles k := by
    rw [readConfiguration_role]
    exact roleCode_roleOf (h.roles k)
  settings k := by
    have hdet : (readConfiguration b).detectors.get k = readDetector b k := Eight.get_make ..
    rw [hdet, show 13 + 4 * (k.toNat - 1) = detectorOffset k + 1 by rw [detectorOffset]; omega,
      show 14 + 4 * (k.toNat - 1) = detectorOffset k + 2 by rw [detectorOffset]; omega,
      show 15 + 4 * (k.toNat - 1) = detectorOffset k + 3 by rw [detectorOffset]; omega]
    exact ⟨rfl, rfl, rfl⟩
  outputs k := by
    have hout : (readConfiguration b).outputs.get k = readOutput b k := Eight.get_make ..
    rw [hout, show 45 + 3 * (k.toNat - 1) = outputOffset k + 1 by rw [outputOffset]; omega,
      show 46 + 3 * (k.toNat - 1) = outputOffset k + 2 by rw [outputOffset]; omega]
    obtain ⟨hmark, hpol, hgate⟩ := h.outputs k
    refine ⟨?_, ?_, ?_⟩
    · show _ = u8 b (outputOffset k)
      simp only [readOutput]
      by_cases h0 : u8 b (outputOffset k) = 0
      · rw [h0]
        rfl
      · obtain ⟨m, hm, hn⟩ := ofNumber_of_range ⟨Nat.pos_of_ne_zero h0, hmark⟩
        simp only [hm, hn]
    · simp only [readOutput]
      split_ifs with hone
      · exact hone.symm
      · show 0 = _
        omega
    · simp only [readOutput]
      interval_cases u8 b (outputOffset k + 2) <;> rfl
  present n := by
    rw [readConfiguration_plan, readPlanPart]
    by_cases hn : planPresent b n = true
    · rw [if_pos hn]
      exact hn.symm
    · rw [if_neg hn]
      exact (Bool.not_eq_true _ ▸ hn).symm
  plans n p hp := by
    rw [readConfiguration_plan, readPlanPart_some] at hp
    obtain ⟨hn, rfl⟩ := hp
    exact planRead_readPlan (h.plans n hn)

theorem markCode_le (m : Option Num8) : markCode m ≤ 8 := by
  cases m with
  | none => exact Nat.zero_le 8
  | some m => exact (toNat_range m).2

theorem polarityCode_le (q : Polarity) : polarityCode q ≤ 1 := by cases q <;> decide

theorem gateCode_le (g : Option Direction) : gateCode g ≤ 2 := by
  cases g with
  | none => decide
  | some d => cases d <;> decide

/-- The codes of an output line's settings are the block's. -/
theorem BlockRead.output {c : Configuration} (h : BlockRead b c) (k : Num8) :
    markCode (c.outputs.get k).mark = u8 b (outputOffset k)
      ∧ polarityCode (c.outputs.get k).polarity = u8 b (outputOffset k + 1)
      ∧ gateCode (c.outputs.get k).gate = u8 b (outputOffset k + 2) := by
  rw [show outputOffset k + 1 = 45 + 3 * (k.toNat - 1) by rw [outputOffset]; omega,
    show outputOffset k + 2 = 46 + 3 * (k.toNat - 1) by rw [outputOffset]; omega]
  exact h.outputs k

theorem BlockRead.roleCode {c : Configuration} (h : BlockRead b c) (k : Num8) :
    roleCode (c.role k) = u8 b (detectorOffset k) := h.roles k

theorem blockRead_codes {c : Configuration} (h : BlockRead b c) : BlockCodes b where
  sync := h.codes.1
  roles k := h.roleCode k ▸ roleCode_le _
  outputs k := by
    obtain ⟨hmark, hpol, hgate⟩ := h.output k
    exact ⟨hmark ▸ markCode_le _, hpol ▸ polarityCode_le _, hgate ▸ gateCode_le _⟩
  present := h.codes.2
  plans n hn := by
    obtain ⟨p, hp⟩ := Option.isSome_iff_exists.mp ((h.present n).trans hn)
    exact planRead_codes (h.plans n p hp)

theorem ofNumber_markCode (m : Option Num8) : Num8.ofNumber (markCode m) = m := by
  cases m with
  | none => rfl
  | some m => exact ofNumber_toNat m

theorem markCode_injective {m n : Option Num8} (h : markCode m = markCode n) : m = n := by
  rw [← ofNumber_markCode m, h, ofNumber_markCode]

theorem polarityCode_injective {q r : Polarity} (h : polarityCode q = polarityCode r) : q = r := by
  revert h
  cases q <;> cases r <;> decide

theorem gateOf_gateCode (g : Option Direction) : gateOf (gateCode g) = g := by
  cases g with
  | none => rfl
  | some d => cases d <;> rfl

theorem gateCode_injective {g h : Option Direction} (hg : gateCode g = gateCode h) : g = h := by
  rw [← gateOf_gateCode g, hg, gateOf_gateCode]

theorem roleCode_injective {r q : Role} (h : roleCode r = roleCode q) : r = q := by
  rw [← roleOf_roleCode r, h, roleOf_roleCode]

theorem detectorSetting_eq {x y : DetectorSetting} (hrole : x.role = y.role) (hf : x.filter = y.filter)
    (hon : x.stuckOn = y.stuckOn) (hoff : x.stuckOff = y.stuckOff) : x = y := by
  cases x
  cases y
  simp_all

theorem outputSetting_eq {x y : OutputSetting} (hm : x.mark = y.mark) (hp : x.polarity = y.polarity)
    (hg : x.gate = y.gate) : x = y := by
  cases x
  cases y
  simp_all

theorem four_eq {α : Type} {v w : Four α} (h : ∀ n, v.get n = w.get n) : v = w := by
  obtain ⟨_, _, _, _⟩ := v
  obtain ⟨_, _, _, _⟩ := w
  exact Four.mk.injEq .. ▸ ⟨h .n1, h .n2, h .n3, h .n4⟩

/-- A block's fields spell one configuration. -/
theorem blockRead_eq {c : Configuration} (h : BlockRead b c) : c = readConfiguration b := by
  have hr := blockRead_readConfiguration (blockRead_codes h)
  obtain ⟨hstation, hgroup, hpos, hreach, hperiod, hhop, hret, hsync⟩ := h.station
  have hdetectors : c.detectors = (readConfiguration b).detectors := Eight.ext_get fun k => by
    obtain ⟨hf, hon, hoff⟩ := h.settings k
    obtain ⟨hf', hon', hoff'⟩ := hr.settings k
    exact detectorSetting_eq (roleCode_injective ((h.roleCode k).trans (hr.roleCode k).symm)) (hf.trans hf'.symm)
      (hon.trans hon'.symm) (hoff.trans hoff'.symm)
  have houtputs : c.outputs = (readConfiguration b).outputs := Eight.ext_get fun k => by
    obtain ⟨hm, hp, hg⟩ := h.output k
    obtain ⟨hm', hp', hg'⟩ := hr.output k
    exact outputSetting_eq (markCode_injective (hm.trans hm'.symm)) (polarityCode_injective (hp.trans hp'.symm))
      (gateCode_injective (hg.trans hg'.symm))
  have hplan : ∀ n, c.plans.get n = (readConfiguration b).plans.get n := fun n => by
    have hn : (c.plans.get n).isSome = planPresent b n := h.present n
    cases hp : c.plans.get n with
    | none =>
      rw [hp] at hn
      rw [readConfiguration_plan, readPlanPart, ← hn]
      rfl
    | some p =>
      rw [hp] at hn
      rw [readConfiguration_plan, readPlanPart, ← hn, planRead_eq (h.plans n p hp)]
      rfl
  have hplans : c.plans = (readConfiguration b).plans := four_eq hplan
  obtain ⟨_, _, _, _, _, _, _, _, _, _, _⟩ := c
  simp only [readConfiguration] at *
  simp only [Configuration.mk.injEq]
  exact ⟨hstation, hgroup, hpos, hreach, hperiod, hhop, hret, hsync, hdetectors, houtputs, hplans⟩

end

end Sys2Proof.Machine

/-! ## The course of a load (R178, R179) -/

namespace Sys2Proof.Machine

/-! ### The tries -/

theorem runTries_append {before : List LoadTry} (h : ∀ u ∈ before, u.lowReads < 10 ∧ u.acknowledged = false)
    {left : Nat} (hleft : before.length ≤ left) (l : List LoadTry) :
    runTries left (before ++ l) = runTries (left - before.length) l := by
  induction before generalizing left with
  | nil => rfl
  | cons u before ih =>
    rw [List.length_cons] at hleft
    obtain ⟨n, rfl⟩ : ∃ n, left = n + 1 := ⟨left - 1, by omega⟩
    obtain ⟨hlow, hack⟩ := h u List.mem_cons_self
    have hclean : ¬ cleanupFails u = true := by simp [cleanupFails, hlow]
    have hanswer : ¬ memoryAnswers u = true := Bool.eq_false_iff.mp hack
    rw [List.cons_append, runTries, if_neg hclean, if_neg hanswer,
      ih (fun v hv => h v (List.mem_cons_of_mem u hv)) (by omega), List.length_cons, Nat.add_sub_add_right]

theorem runTries_fails {before : List LoadTry} (h : ∀ u ∈ before, u.lowReads < 10 ∧ u.acknowledged = false)
    (hlen : before.length < 4) {t : LoadTry} (ht : 10 ≤ t.lowReads) (rest : List LoadTry) :
    runTries 4 (before ++ t :: rest) = .failed := by
  obtain ⟨n, hn⟩ : ∃ n, 4 - before.length = n + 1 := ⟨3 - before.length, by omega⟩
  rw [runTries_append h hlen.le, hn, runTries]
  exact if_pos (decide_eq_true ht)

theorem runTries_addressed {before : List LoadTry} (h : ∀ u ∈ before, u.lowReads < 10 ∧ u.acknowledged = false)
    (hlen : before.length < 4) {t : LoadTry} (hlow : t.lowReads < 10) (hack : t.acknowledged = true) :
    runTries 4 (before ++ [t]) = .addressed := by
  obtain ⟨n, hn⟩ : ∃ n, 4 - before.length = n + 1 := ⟨3 - before.length, by omega⟩
  have hclean : ¬ cleanupFails t = true := by simp [cleanupFails, hlow]
  rw [runTries_append h hlen.le, hn, runTries, if_neg hclean]
  exact if_pos hack

/-! ### The first failure -/

theorem firstFailure_none {l : List FieldTest} : firstFailure l = none ↔ ∀ t ∈ l, t.ok = true := by
  induction l with
  | nil => simp [firstFailure]
  | cons t l ih =>
    rw [firstFailure, List.forall_mem_cons]
    cases ht : t.ok with
    | true => simpa using ih
    | false => simp

theorem firstFailure_some {pre post : List FieldTest} {x : FieldTest} (hpre : ∀ y ∈ pre, y.ok = true)
    (hx : x.ok = false) : firstFailure (pre ++ x :: post) = some x.offset := by
  induction pre with
  | nil => exact if_neg (Bool.eq_false_iff.mp hx)
  | cons y pre ih =>
    obtain ⟨hy, hpre⟩ := List.forall_mem_cons.mp hpre
    exact (if_pos hy).trans (ih hpre)

theorem blockCrcOk_iff {data : List Byte} :
    blockCrcOk data = true ↔ u16 data 288 = (crc16 (data.take 288)).toNat := by
  rw [blockCrcOk, decide_eq_true_eq, putWord_eq_iff]
  rfl

section
variable {tries : List LoadTry} {data : List Byte}

theorem loadEnd_bad (h : runTries 4 tries = .addressed) (hdata : dataSuffices data = true) {off : Nat}
    (hoff : firstFailure (blockTests data) = some off) : loadEnd ⟨tries, data⟩ = .bad (off + 1) := by
  simp only [loadEnd, h, hdata, Bool.true_eq_false, if_false, hoff]

theorem loadEnd_good (h : runTries 4 tries = .addressed) (hdata : dataSuffices data = true)
    (hall : ∀ t ∈ blockTests data, t.ok = true) : loadEnd ⟨tries, data⟩ = .good (readConfiguration data) := by
  simp only [loadEnd, h, hdata, Bool.true_eq_false, if_false, firstFailure_none.mpr hall]

theorem dataSuffices_whole (h : 290 ≤ data.length) : dataSuffices data = true := by simp [dataSuffices, h]

theorem dataSuffices_short (h : 3 ≤ data.length) (hn : u16 data 0 ≠ 290) : dataSuffices data = true := by
  simp [dataSuffices, h, hn]

/-- The checks of a whole block of the right length and CRC. -/
theorem blockTests_whole (hlen : u16 data 0 = 290) (hcrc : u16 data 288 = (crc16 (data.take 288)).toNat) :
    blockTests data = [⟨0, true⟩, ⟨288, true⟩] ++ (rangeTests data ++ crossTests data) := by
  rw [blockTests, blockLength, decide_eq_true hlen, blockCrcOk_iff.mpr hcrc]
  rfl

theorem forall_blockTests : (∀ t ∈ blockTests data, t.ok = true) ↔
    u16 data 0 = 290 ∧ u16 data 288 = (crc16 (data.take 288)).toNat
      ∧ ∀ t ∈ rangeTests data ++ crossTests data, t.ok = true := by
  rw [blockTests, List.forall_mem_cons, List.forall_mem_cons, blockCrcOk_iff, decide_eq_true_eq]
  rfl

/-- A load ends good only on a block that passes every check. -/
theorem loadEnd_good_iff {o : LoadObservation} {c : Configuration} (h : loadEnd o = .good c) :
    c = readConfiguration o.data ∧ ∀ t ∈ blockTests o.data, t.ok = true := by
  unfold loadEnd at h
  split at h
  · cases h
  · cases h
  · split at h
    · cases h
    · split at h
      · cases h
      · next hnone =>
        cases h
        exact ⟨rfl, firstFailure_none.mp hnone⟩

end

theorem checked_of_loadEnd {o : LoadObservation} {c : Configuration} (h : loadEnd o = .good c) :
    c.Checked ∧ BlockRead o.data c := by
  obtain ⟨rfl, hall⟩ := loadEnd_good_iff h
  obtain ⟨hcodes, hchecked⟩ := tests_iff.mp (forall_blockTests.mp hall).2.2
  exact ⟨hchecked, blockRead_readConfiguration hcodes⟩

/-- Settles O9: the checks are the codes and the ranges of the configuration read. -/
theorem goodLoadIsChecked : Obligations.GoodLoadIsChecked := by
  refine ⟨fun o c h => checked_of_loadEnd h, fun t data c hlow hack hdata hlen hcrc hread hc => ?_⟩
  have heq := blockRead_eq hread
  rw [heq] at hc ⊢
  have haddressed : runTries 4 [t] = .addressed :=
    runTries_addressed (before := []) (fun u hu => by cases hu) (by decide) hlow hack
  exact loadEnd_good haddressed (dataSuffices_whole hdata)
    (forall_blockTests.mpr ⟨hlen, hcrc, tests_iff.mpr ⟨blockRead_codes hread, hc⟩⟩)

/-- Settles O10, by the course of the tries and the first check that fails. -/
theorem loadEndsByFirstFailure : Obligations.LoadEndsByFirstFailure := by
  refine ⟨⟨fun before t rest data hlen hbefore ht => ?_, fun t₁ t₂ t₃ t₄ data h => ?_,
    fun before t data hlen hbefore hlow hack => ?_⟩, fun o i s h hcl hend => exec_of_worked h ?_⟩
  · simp only [loadEnd, runTries_fails hbefore hlen ht rest]
  · have hfail : runTries 4 ([t₁, t₂, t₃, t₄] ++ []) = .failed := runTries_append h le_rfl []
    rw [List.append_nil] at hfail
    simp only [loadEnd, hfail]
  · have haddressed := runTries_addressed hbefore hlen hlow hack
    refine ⟨fun hdata hbad => loadEnd_bad haddressed (dataSuffices_short hdata hbad) ?_, fun hdata hlen hcrc =>
      loadEnd_bad haddressed (dataSuffices_whole hdata) ?_, fun hdata hlen hcrc =>
      ⟨fun pre x post hl hpre hx => loadEnd_bad haddressed (dataSuffices_whole hdata) ?_, fun hall =>
        loadEnd_good haddressed (dataSuffices_whole hdata) (forall_blockTests.mpr ⟨hlen, hcrc, hall⟩)⟩⟩
    · exact firstFailure_some (pre := []) (fun y hy => by cases hy) (decide_eq_false hbad)
    · refine firstFailure_some (pre := [_]) (x := ⟨288, blockCrcOk data⟩) (fun y hy => ?_) ?_
      · rw [List.mem_singleton.mp hy]
        exact decide_eq_true hlen
      · exact Bool.eq_false_iff.mpr fun hok => hcrc (blockCrcOk_iff.mp hok)
    · rw [blockTests_whole hlen hcrc, hl, ← List.append_assoc]
      refine firstFailure_some (fun y hy => ?_) hx
      rcases List.mem_append.mp hy with hy | hy
      · simp only [List.mem_cons, List.not_mem_nil, or_false] at hy
        rcases hy with rfl | rfl <;> rfl
      · exact hpre y hy
  · simp only [worked, completeLoad, hcl, hend]
    rfl

/-! ### The start that a good load gives -/

theorem startLine_eq (set : DetectorSetting) (l : DetectorLine) : startLine set l = { l with
    occupied := false, occupiedRun := 0, vacantRun := 0
    timing := l.raw && decide (set.role ≠ .unused) } := by
  unfold startLine
  cases set.role <;> simp [roleUsed]

theorem advanceLine_some_iff {c : Configuration} {d : Direction} :
    (∃ k, c.advanceLine d = some k) ↔ ∃ k, c.role k = advanceRole d := by
  unfold Configuration.advanceLine
  rw [← Option.isSome_iff_exists, List.find?_isSome]
  simp [Num8.mem_all]

theorem takeConfiguration_loaded (c : Configuration) (p : Plan) (s : State) :
    Loaded c p s (takeConfiguration c p s) where
  lines k := (Eight.get_mapNum ..).trans (startLine_eq _ _)
  storage d := by
    have hget : (takeConfiguration c p s).di.storage.get d = startStorage c d := by cases d <;> rfl
    rw [hget, startStorage]
    refine ⟨fun k hk => ?_, fun hno => ?_⟩
    · obtain ⟨j, hj⟩ := advanceLine_some_iff.mpr ⟨k, hk⟩
      rw [hj]
    · cases hd : c.advanceLine d with
      | none => rfl
      | some k =>
        obtain ⟨j, hj⟩ := advanceLine_some_iff.mp ⟨k, hd⟩
        exact absurd hj (hno j)
  rest := by
    rw [← unshiftedMarks_eq]
    rfl

theorem takeConfiguration_aside {c : Configuration} {p : Plan} {s : State} (h : s.StandsAside) :
    (takeConfiguration c p s).StandsAside :=
  ⟨h.clock, h.computation, h.reference, h.greens, h.lines, h.arbiter, h.gating, h.slots⟩

theorem takeConfiguration_setup {c : Configuration} {p : Plan} (hp : c.plans.n1 = some p) (s : State) :
    (takeConfiguration c p s).setup = some (c, p) := by
  have hn : c.plans.get .n1 = some p := hp
  simp [State.setup, State.planInForce, State.config, takeConfiguration, hn]

/-- Settles O11: the configuration taken, and the leaving of PASS. -/
theorem goodLoadStartsTheUnit : Obligations.GoodLoadStartsTheUnit := by
  intro o c p s h hcl haside hend hp
  have hn : c.plans.get .n1 = some p := hp
  obtain ⟨u, hu⟩ : ∃ u, u = takeConfiguration c p s := ⟨_, rfl⟩
  have hexec : exec (.configLoadComplete o) s = .next (leavePass c u) := exec_of_worked h (by
    simp only [worked, completeLoad, hcl, hend, loadGood, hn, hu])
  have hmc : u.mc.preempt = s.mc.preempt := by rw [hu]; rfl
  refine ⟨_, u, hexec, hu ▸ takeConfiguration_loaded c p s, fun hpre => ?_, fun hpre hsync => ?_, fun hpre hsync => ?_⟩
  · exact if_pos (hmc ▸ hpre)
  · exact (if_neg (Bool.eq_false_iff.mp (hmc ▸ hpre))).trans (if_pos hsync)
  · have htake : leavePass c u = takeCharge u :=
      (if_neg (Bool.eq_false_iff.mp (hmc ▸ hpre))).trans (if_neg (Bool.eq_false_iff.mp hsync))
    rw [htake, hu]
    exact takeCharge_took (takeConfiguration_setup hp s) (checked_of_loadEnd hend).1 (takeConfiguration_aside haside)

end Sys2Proof.Machine

/-! ## The layouts of the Cabinet Port (R171, R172, R182) -/

namespace Sys2Proof.Machine

/-! ### Fields -/

theorem put16_eq (n : Nat) : put16 n = [BitVec.ofNat 8 (n / 256), BitVec.ofNat 8 n] := by
  have hhi : (BitVec.ofNat 16 n).extractLsb' 8 8 = BitVec.ofNat 8 (n / 256) := by
    apply BitVec.eq_of_toNat_eq
    simp only [BitVec.extractLsb'_toNat, BitVec.toNat_ofNat, Nat.shiftRight_eq_div_pow]
    omega
  have hlo : (BitVec.ofNat 16 n).extractLsb' 0 8 = BitVec.ofNat 8 n := by
    apply BitVec.eq_of_toNat_eq
    simp only [BitVec.extractLsb'_toNat, BitVec.toNat_ofNat, Nat.shiftRight_zero]
    omega
  rw [put16, putWord, hhi, hlo]

theorem putWord_eq (w : Word16) : putWord w = put16 w.toNat := by rw [put16, BitVec.ofNat_toNat, BitVec.setWidth_eq]

theorem putInt_eq (n : Int) : putInt n = put16 (n % 65536).toNat := by
  rw [putInt, put16]
  congr 1
  apply BitVec.eq_of_toNat_eq
  rw [BitVec.toNat_ofInt, BitVec.toNat_ofNat]
  omega

/-- A byte is the sum of its bits. -/
theorem byte_eq_bits : ∀ v : Byte, v = BitVec.ofNat 8
    (Num8.all.foldl (fun n k => n + boolCode (v.getLsbD (k.toNat - 1)) * 2 ^ (k.toNat - 1)) 0) := by decide

/-- A byte below 8 is the sum of its first three bits. -/
theorem byte_eq_marks : ∀ v : Byte, v.toNat < 8 → v = BitVec.ofNat 8
    (boolCode (v.getLsbD 0) + 2 * boolCode (v.getLsbD 1) + 4 * boolCode (v.getLsbD 2)) := by decide

theorem passThrough_eq {o : Eight OutputLine} {v : Byte}
    (h : ∀ k : Num8, v.getLsbD (k.toNat - 1) = (o.get k).passThrough) :
    v = BitVec.ofNat 8 (passThroughByte o) := by
  rw [byte_eq_bits v, passThroughByte]
  simp only [h]

theorem gatingMarks_eq {g : GatingMarks} {v : Byte} (h₀ : v.getLsbD 0 = g.active) (h₁ : v.getLsbD 1 = g.entered)
    (h₂ : v.getLsbD 2 = g.endedByLoss) (hlt : v.toNat < 8) : v = BitVec.ofNat 8 (gatingMarksCode g) := by
  rw [byte_eq_marks v hlt, h₀, h₁, h₂, gatingMarksCode]

theorem flatMap_put16_length (l : List Nat) : (l.flatMap put16).length = 2 * l.length := by
  induction l with
  | nil => rfl
  | cons n l ih => simp only [List.flatMap_cons, List.length_append, put16_length, ih, List.length_cons]; omega

theorem byteSum_cons (b : Byte) (l : List Byte) : byteSum (b :: l) = b + byteSum l := by
  have h := byteSum_append [b] l
  simpa [byteSum] using h

/-! ### Responses and their data -/

theorem responseBytes_eq (kind echo : Byte) (data : List Byte) : responseBytes kind echo data
    = [0x5A, BitVec.ofNat 8 (data.length + 2), kind, echo] ++ data
      ++ [checkByte (put8 (data.length + 2) ++ [kind, echo] ++ data)] := by
  simp only [responseBytes, put8, List.cons_append, List.nil_append]
  rfl

theorem append_congr {a b c d : List Byte} (h : a = c) (h' : b = d) : a ++ b = c ++ d := by rw [h, h']

theorem statusData_parts (s : State) : statusData s
    = ((unitStatus s ++ coordinationStatus s) ++ Num8.all.flatMap (fun k => detectorStatus (s.di.lines.get k)))
      ++ Num8.all.flatMap (outputStatus s)
      ++ [BitVec.ofNat 8 (passThroughByte s.olu), BitVec.ofNat 8 (boolCode s.alertOutput),
          BitVec.ofNat 8 (boolCode s.chargeOutput)] := by
  simp only [statusData, linesStatus, put8, List.append_assoc]
  rfl

theorem entryData_eq (e : Entry) : entryData e
    = [BitVec.ofNat 8 e.station] ++ put16 e.beacon.position
      ++ [BitVec.ofNat 8 e.beacon.period, BitVec.ofNat 8 (chargeModeCode e.beacon.mode),
          BitVec.ofNat 8 (directionCode e.beacon.direction)]
      ++ put16 e.beacon.cycle ++ put16 e.beacon.stamped ++ put16 e.capture.position
      ++ put16 e.capture.wrapCount.toNat ++ putTriple e.beacon.triple
      ++ [BitVec.ofNat 8 (storageCode e.approaches.inbound.storage), BitVec.ofNat 8 e.approaches.inbound.fedBy,
          BitVec.ofNat 8 (storageCode e.approaches.outbound.storage), BitVec.ofNat 8 e.approaches.outbound.fedBy,
          BitVec.ofNat 8 e.silence, BitVec.ofNat 8 (entryStateCode e.state)] := by
  simp only [entryData, put8, putWord_eq, List.cons_append, List.nil_append, List.append_assoc]

theorem recordData_parts (r : LogRecord) : recordData r
    = (put16 r.wrapCount.toNat
        ++ [BitVec.ofNat 8 (planCode? r.plan), BitVec.ofNat 8 (directionCode? r.direction), BitVec.ofNat 8 (modeCode r.mode)]
        ++ put16 r.cycle ++ put16 r.running ++ putInt r.adjustment)
      ++ putOptional r.error (put16 0) putInt ++ putOptional r.reference (put8 0) put8
      ++ [BitVec.ofNat 8 r.closed.stop.inbound, BitVec.ofNat 8 r.closed.stop.outbound,
          BitVec.ofNat 8 r.closed.cross, BitVec.ofNat 8 r.closed.onRed.inbound,
          BitVec.ofNat 8 r.closed.onGreen.inbound, BitVec.ofNat 8 r.closed.onRed.outbound,
          BitVec.ofNat 8 r.closed.onGreen.outbound, BitVec.ofNat 8 (storageCode r.storage.inbound),
          BitVec.ofNat 8 (storageCode r.storage.outbound), BitVec.ofNat 8 (gatingMarksCode r.gating.inbound),
          BitVec.ofNat 8 (gatingMarksCode r.gating.outbound)]
      ++ putOptional r.grant (put8 0 ++ put16 0) grantData ++ putTriple r.triple := by
  have hput : ∀ n, put8 n = [BitVec.ofNat 8 n] := fun _ => rfl
  simp only [recordData, cycleRecord, trafficRecord, putWord_eq, List.append_assoc, hput, List.cons_append,
    List.nil_append]

/-! ### Lengths -/

@[simp] theorem putTriple_length (t : Triple) : (putTriple t).length = 4 := rfl

theorem putOptional_length {α : Type} {zero : List Byte} {bytes : α → List Byte}
    (h : ∀ x, (bytes x).length = zero.length) (f : Option α) : (putOptional f zero bytes).length = zero.length + 1 := by
  cases f with
  | none => rfl
  | some x => exact congrArg Nat.succ (h x)

theorem statusData_length (s : State) : (statusData s).length = 82 := by
  have herror : (putOptional s.cau.lastError (put16 0) putInt).length = 3 := putOptional_length (fun _ => by rfl) _
  simp only [statusData, unitStatus, coordinationStatus, linesStatus, List.length_append, herror, putInt_length,
    put16_length, putTriple_length]
  rfl

theorem entryData_length (e : Entry) : (entryData e).length = 24 := by
  rw [entryData_eq]
  simp

theorem recordData_length (r : LogRecord) : (recordData r).length = 35 := by
  have herror : (putOptional r.error (put16 0) putInt).length = 3 := putOptional_length (fun _ => by rfl) _
  have hreference : (putOptional r.reference (put8 0) put8).length = 2 := putOptional_length (fun _ => by rfl) _
  have hgrant : (putOptional r.grant (put8 0 ++ put16 0) grantData).length = 4 := putOptional_length (fun g => by
    cases g with
    | extension _ => rfl
    | early _ => rfl) _
  rw [recordData_parts]
  simp [herror, hreference, hgrant]

/-! ### Codes -/

theorem modeCode_eq {mode : Mode → Byte} (h : mode (.inCharge .leading) = 1 ∧ mode (.inCharge .seeking) = 2
    ∧ mode (.inCharge .inStep) = 3 ∧ mode .pass = 4 ∧ mode .pickup = 5 ∧ mode .preempted = 6) :
    mode = fun m => BitVec.ofNat 8 (modeCode m) := by
  obtain ⟨hleading, hseeking, hinStep, hpass, hpickup, hpreempted⟩ := h
  funext m
  cases m with
  | inCharge m => cases m with
    | leading => exact hleading
    | seeking => exact hseeking
    | inStep => exact hinStep
  | pass => exact hpass
  | pickup => exact hpickup
  | preempted => exact hpreempted

theorem directionCode_eq {dir : Direction → Byte} (h : dir .inbound = 1 ∧ dir .outbound = 2) :
    dir = fun d => BitVec.ofNat 8 (directionCode d) := by
  funext d
  cases d with
  | inbound => exact h.1
  | outbound => exact h.2

theorem storageCode_eq {stor : Storage → Byte}
    (h : stor .clear = 0 ∧ stor .filling = 1 ∧ stor .full = 2 ∧ stor .unknown = 3) :
    stor = fun v => BitVec.ofNat 8 (storageCode v) := by
  obtain ⟨hclear, hfilling, hfull, hunknown⟩ := h
  funext v
  cases v with
  | clear => exact hclear
  | filling => exact hfilling
  | full => exact hfull
  | unknown => exact hunknown

theorem boolCode_eq {bit : Bool → Byte} (h : bit false = 0 ∧ bit true = 1) :
    bit = fun b => BitVec.ofNat 8 (boolCode b) := by
  funext b
  cases b with
  | false => exact h.1
  | true => exact h.2

theorem stationCode_eq {number : Option Nat → Byte}
    (h : number none = 0 ∧ ∀ x, number (some x) = BitVec.ofNat 8 x) :
    number = fun n => BitVec.ofNat 8 (stationCode? n) := by
  funext n
  cases n with
  | none => exact h.1
  | some n => exact h.2 n

theorem planCode_eq {plan : Option Num4 → Byte} (h : plan none = 0 ∧ plan (some .n1) = 1 ∧ plan (some .n2) = 2
    ∧ plan (some .n3) = 3 ∧ plan (some .n4) = 4) : plan = fun n => BitVec.ofNat 8 (planCode? n) := by
  obtain ⟨hnone, h₁, h₂, h₃, h₄⟩ := h
  funext n
  cases n with
  | none => exact hnone
  | some n => cases n with
    | n1 => exact h₁
    | n2 => exact h₂
    | n3 => exact h₃
    | n4 => exact h₄

/-- Settles O57: the fields are the model's once each code is the stated one. -/
theorem portLayouts : Obligations.PortLayouts := by
  refine ⟨fun kind echo data _ => ⟨_, responseBytes_eq kind echo data, byteSum_checkByte _⟩, ?_, ?_, rfl, byteSum_cons⟩
  · intro two signed triple mode dir stor bit number plan marks htwo hsigned htriple hmode hdir hstor hbit hnumber hplan
      hmarks
    obtain rfl : two = put16 := funext fun x => (htwo x).trans (put16_eq x).symm
    obtain rfl : signed = putInt := funext fun x => (hsigned x).trans (putInt_eq x).symm
    obtain rfl : triple = putTriple := funext fun t => by simp [htriple, putTriple, put8]
    obtain rfl := modeCode_eq hmode
    obtain rfl := directionCode_eq hdir
    obtain rfl := storageCode_eq hstor
    obtain rfl := boolCode_eq hbit
    obtain rfl := stationCode_eq hnumber
    obtain rfl := planCode_eq hplan
    obtain rfl : marks = fun g => BitVec.ofNat 8 (gatingMarksCode g) := funext fun g => by
      obtain ⟨hactive, hentered, hloss, hlt⟩ := hmarks g
      exact gatingMarks_eq hactive hentered hloss hlt
    clear htwo hsigned htriple hmode hdir hstor hbit hnumber hplan hmarks
    refine ⟨fun s through hthrough => ⟨?_, statusData_length s⟩, fun e => ⟨entryData_length e, ?_⟩, fun r =>
      ⟨recordData_length r, ?_⟩⟩
    · rw [passThrough_eq hthrough, statusData_parts]
      refine append_congr (append_congr (append_congr ?_ ?_) ?_) rfl
      · simp only [unitStatus, coordinationStatus, put8, List.cons_append, List.nil_append, List.append_assoc]
        cases s.cl <;> cases s.planInForce <;> cases s.cau.lastError <;> rfl
      · refine congrArg (fun f => Num8.all.flatMap f) (funext fun k => ?_)
        rw [detectorStatus]
        cases (s.di.lines.get k).fault <;> rfl
      · refine congrArg (fun f => Num8.all.flatMap f) (funext fun k => ?_)
        rw [outputStatus]
        cases s.source k <;> cases (s.olu.get k).manual <;> rfl
    · rw [entryData_eq]
      cases e.state <;> rfl
    · rw [recordData_parts]
      refine append_congr (append_congr (append_congr (append_congr (append_congr ?_ ?_) ?_) rfl) ?_) rfl
      · cases r.direction <;> rfl
      · cases r.error <;> rfl
      · cases r.reference <;> rfl
      · rcases r.grant with _ | _ | _ <;> rfl
  · intro s two htwo
    obtain rfl : two = put16 := funext fun x => (htwo x).trans (put16_eq x).symm
    exact ⟨rfl, rfl, flatMap_put16_length s.counters.toList⟩

end Sys2Proof.Machine

/-! ## Events without a cause (log entries 4 and 12)

Each event's operation asks for its cause first. What follows says, operation by operation, that without it the state stays
as it is. -/

namespace Sys2Proof.Machine

/-- A command that nothing answers on a unit out of work, and that a working unit finds without a cause. -/
theorem exec_idle {c : Instr} {s : State} (h : worked c s = s) (hidle : ∀ t : State, ignored c t = t) :
    exec c s = .next s := by
  rw [exec_eq, h, hidle, ite_self]

section
variable {s : State}

/-! ### The link and the table -/

theorem collisionFound_none (h : s.lc.attempt = none) : collisionFound s = s := by simp only [collisionFound, h]

theorem attemptDone_unmarked (h : ∀ a, s.lc.attempt = some a → a.frame = none) : attemptDone s = s := by
  unfold attemptDone
  split
  · next a ha => exact if_neg (by simp [h a ha])
  · rfl

theorem deferralRunsOut_waits (h : s.lc.deferral = none ∨ s.lc.line = .busy ∨ s.lc.attempt ≠ none) :
    deferralRunsOut s = s := by
  unfold deferralRunsOut
  split
  · next hidle =>
    have hnone : s.lc.deferral = none := by simpa [hidle.1, hidle.2] using h
    simp only [startAttempt, hnone]
  · rfl

theorem frameMarkPasses_ignored (hown : ∀ a, s.lc.attempt = some a → a.frame ≠ none)
    (hreceived : s.lc.attempt = none → s.lc.receiver ≠ .start2) : frameMarkPasses s = s := by
  unfold frameMarkPasses
  split
  · next a ha => exact if_neg (by simpa using hown a ha)
  · next hnone => exact if_neg fun h => hreceived hnone h.2

theorem lastCheckByte_unchecked (h : ∀ k n got f, s.lc.receiver ≠ .check k n got (some f)) (b : Byte) :
    lastCheckByte b s = s := by
  unfold lastCheckByte
  split
  · next k n got f _ hcheck => exact absurd hcheck (h k n got f)
  · rfl

theorem receiver_inactive (h : s.lc.attempt ≠ none ∨ ∀ c, s.cl ≠ .good c) : receiverActive s = false := by
  rcases h with hattempt | hcl
  · simpa [receiverActive] using fun _ => Option.isSome_iff_ne_none.mpr hattempt
  · simp [receiverActive, config_none hcl]

theorem linkByteArrives_inactive (h : receiverActive s = false) (b : Byte) (e : Bool) : linkByteArrives b e s = s :=
  if_neg (Bool.eq_false_iff.mp h)

theorem lastCheckByte_inactive (h : receiverActive s = false) (b : Byte) : lastCheckByte b s = s := by
  simp only [lastCheckByte, h]

theorem beaconTimerOut_runs (h : s.inCharge = false ∨ s.lc.beaconTimer ≠ some 0) : beaconTimerOut s = s := by
  unfold beaconTimerOut
  split
  · exact if_neg fun hdue => by simp [hdue.1, hdue.2] at h
  · rfl

theorem entryExpires_alive {n : Nat} (h : ∀ e ∈ s.nt.entries, e.station = n → e.silence ≠ 0) : entryExpires n s = s := by
  unfold entryExpires
  split
  · next e he =>
    obtain ⟨hmem, hstation⟩ := findEntry_some he
    exact if_neg (by simpa [expiryDue] using h e hmem hstation)
  · rfl

theorem entryTurnsQuiet_early {n : Nat}
    (h : ∀ e ∈ s.nt.entries, e.station = n → e.state = .quiet ∨ 3 * e.beacon.period < e.silence) :
    entryTurnsQuiet n s = s := by
  unfold entryTurnsQuiet
  split
  · next e he =>
    obtain ⟨hmem, hstation⟩ := findEntry_some he
    refine if_neg ?_
    rcases h e hmem hstation with hquiet | hearly
    · simp [quietDue, hquiet]
    · simp [quietDue, hearly]
  · rfl

/-! ### The clock, gating and priority -/

theorem clockWraps_early (h : wrapDue s.ct ≠ true) : clockWraps s = s := if_neg h

theorem computationCompletes_early (h : completionCanFall s ≠ true) : computationCompletes s = s := by
  unfold computationCompletes
  split
  · exact if_neg h
  · rfl

theorem markComesDue_early {m : Num8}
    (h : ¬ (s.ct.running = true ∧ s.ct.earlyGreen = false ∧ markReached s.ct m = true)) : markComesDue m s = s := by
  unfold markComesDue
  split
  · exact if_neg h
  · rfl

theorem gatePointComes_early {d : Direction} (h : gateDue s d ≠ true) : gatePointComes d s = s := by
  unfold gatePointComes
  split
  · exact if_neg h
  · rfl

theorem windowOpens_early (h : ∀ p, s.planInForce = some p → windowDue p s ≠ true) : windowOpens s = s := by
  unfold windowOpens
  split
  · next p hp => exact if_neg (h p hp)
  · rfl

theorem extensionRunsOut_early (h : limitReached s ≠ true) : extensionRunsOut s = s := by
  unfold extensionRunsOut
  split
  · exact if_neg h
  · rfl

theorem requestRunsOut_early {k : Num8} (h : ∀ p, s.planInForce = some p → requestAged p k s ≠ true) :
    requestRunsOut k s = s := by
  unfold requestRunsOut
  split
  · next p hp => exact if_neg (h p hp)
  · rfl

theorem completionCanFall_iff : completionCanFall s = true
    ↔ s.cau.snapshot ≠ none ∧ s.ct.running = true ∧ 1 ≤ s.ct.position ∧ s.ct.position ≤ 20 := by
  simp [completionCanFall, Option.isSome_iff_ne_none, and_assoc]

theorem gateDue_iff {d : Direction} : gateDue s d = true ↔ s.ct.running = true ∧ (s.gt.get d).station ≠ none
    ∧ (s.gt.get d).reached = false ∧ ∃ g, (s.gt.get d).point = some g ∧ g ≤ s.ct.position := by
  cases hpoint : (s.gt.get d).point with
  | none => simp [gateDue, hpoint]
  | some g => simp [gateDue, hpoint, Option.isSome_iff_ne_none, and_assoc]

theorem windowDue_iff {p : Plan} : windowDue p s = true ↔ s.ct.running = true ∧ s.pa.windowOpened = false
    ∧ s.ct.cRun ≤ s.ct.position + p.eMax ∧ p.xMin ≤ s.ct.position
    ∧ ∀ m, (s.ct.marks.get m).state ≠ .unused → (s.ct.marks.get m).position + p.xMin ≤ s.ct.position := by
  rw [windowDue, Bool.and_eq_true, Bool.and_eq_true, inWindow_iff]
  simp [and_assoc]

theorem limitReached_iff : limitReached s = true ↔ ∃ e, s.pa.extension = some e ∧ e.limit ≤ s.ct.x := by
  cases h : s.pa.extension <;> simp [limitReached, h]

theorem requestAged_iff {p : Plan} {k : Num8} :
    requestAged p k s = true ↔ ∃ r ∈ s.pa.queue, r.line = k ∧ p.pLife ≤ r.age := by
  simp [requestAged]

/-! ### Detector lines, inputs and modes -/

theorem lineRises_ignored {k : Num8} (h : ∀ c p, s.setup = some (c, p) →
    ¬ (roleUsed (c.role k) = true ∧ risingDue (s.di.lines.get k) = true)) : lineRises k s = s := by
  unfold lineRises
  split
  · next c p hset => exact if_neg (h c p hset)
  · rfl

theorem lineFalls_ignored {k : Num8} (h : ∀ c p, s.setup = some (c, p) →
    ¬ (roleUsed (c.role k) = true ∧ fallingDue (s.di.lines.get k) = true)) : lineFalls k s = s := by
  unfold lineFalls
  split
  · next c p hset => exact if_neg (h c p hset)
  · rfl

theorem lineSticksOn_ignored {k : Num8} (h : ∀ c, s.cl = .good c → stuckOnDue c k (s.di.lines.get k) ≠ true) :
    lineSticksOn k s = s := by
  unfold lineSticksOn
  split
  · next c hc => exact if_neg (h c (cl_of_config hc))
  · rfl

theorem directionFills_ignored {d : Direction} (h : ∀ c p, s.setup = some (c, p) → fullDue c p d s ≠ true) :
    directionFills d s = s := by
  unfold directionFills
  split
  · next c p hset => exact if_neg (h c p hset)
  · rfl

theorem directionClears_ignored {d : Direction} (h : ∀ c p, s.setup = some (c, p) → releaseDue c p d s ≠ true) :
    directionClears d s = s := by
  unfold directionClears
  split
  · next c p hset => exact if_neg (h c p hset)
  · rfl

theorem pickupRunsOut_ignored (h : ∀ p, s.planInForce = some p → pickupDue p s ≠ true) : pickupRunsOut s = s := by
  unfold pickupRunsOut
  split
  · next p hp => exact if_neg (h p hp)
  · rfl

theorem risingDue_iff {l : DetectorLine} : risingDue l = true ↔ l.timing = true ∧ l.raw = true ∧ l.occupied = false := by
  simp [risingDue, and_assoc]

theorem fallingDue_iff {l : DetectorLine} : fallingDue l = true ↔ l.timing = true ∧ l.raw = false ∧ l.occupied = true := by
  simp [fallingDue, and_assoc]

theorem stuckOnDue_iff {c : Configuration} {k : Num8} {l : DetectorLine} : stuckOnDue c k l = true ↔ c.role k ≠ .unused
    ∧ l.occupied = true ∧ 10 * (c.detectors.get k).stuckOn ≤ l.occupiedRun ∧ l.fault ≠ .stuckOn := by
  simp only [stuckOnDue, Bool.and_eq_true, roleUsed_iff, decide_eq_true_eq, and_assoc, ne_eq]
  rfl

theorem fullDue_line {c : Configuration} {p : Plan} {d : Direction} (h : fullDue c p d s = true) :
    ∃ k, c.advanceLine d = some k ∧ (s.di.storage.get d = .clear ∨ s.di.storage.get d = .filling)
      ∧ (s.di.lines.get k).occupied = true ∧ p.fFull ≤ (s.di.lines.get k).occupiedRun := by
  cases hk : c.advanceLine d with
  | none => simp [fullDue, hk] at h
  | some k => exact ⟨k, rfl, (fullDue_iff hk).mp h⟩

theorem releaseDue_line {c : Configuration} {p : Plan} {d : Direction} (h : releaseDue c p d s = true) :
    ∃ k, c.advanceLine d = some k ∧ s.di.storage.get d = .full
      ∧ (s.di.lines.get k).occupied = false ∧ p.fRel ≤ (s.di.lines.get k).vacantRun := by
  cases hk : c.advanceLine d with
  | none => simp [releaseDue, hk] at h
  | some k => exact ⟨k, rfl, (releaseDue_iff hk).mp h⟩

/-! ### The port and the load -/

theorem startByteOverruns_ignored (h : s.cp.receiver ≠ .wait ∨ s.cp.inHand = none) : startByteOverruns s = s :=
  if_neg fun hover => by
    rcases h with hreceiver | hfree
    · exact hreceiver hover.1
    · simp [hfree] at hover

theorem responseDone_free (h : s.cp.inHand = none) : responseDone s = s := by simp only [responseDone, h]

theorem portTimeout_waiting (h : s.cp.receiver = .wait) : portTimeout s = s := by simp only [portTimeout, h]

theorem completeLoad_ignored {o : LoadObservation} (h : s.cl ≠ .loading ∨ loadEnd o = .unfinished) :
    completeLoad o s = s := by
  cases hcl : s.cl with
  | loading => simp only [completeLoad, hcl, h.resolve_left (not_not_intro hcl)]
  | good c => simp only [completeLoad, hcl]
  | bad i => simp only [completeLoad, hcl]

end

theorem role_unused {s : State} {k : Num8} (h : ∀ c, s.cl = .good c → c.role k = .unused) {c : Configuration} {p : Plan}
    (hset : s.setup = some (c, p)) : roleUsed (c.role k) ≠ true :=
  fun hused => roleUsed_iff.mp hused (h c (setup_some hset).1)

/-- Settles O5, event by event. -/
theorem eventWithoutCauseChangesNothing : Obligations.EventWithoutCauseChangesNothing := by
  refine ⟨fun s => ⟨fun h => ?_, fun h => ?_, fun h => ?_, fun hpow h => ?_, fun hown hrec => ?_, fun h b => ?_,
    fun h b e => ⟨?_, ?_⟩, fun h => ?_, fun h => ?_, fun n h => ?_, fun n h => ?_⟩, fun s => ⟨fun h => ⟨?_, ?_, fun m => ?_,
    fun d => ?_, ?_, ?_⟩, fun h => ?_, fun h => ?_, fun m h => ?_, fun h m => ?_, fun d h => ?_, fun h => ?_, fun h => ?_,
    fun k h => ?_⟩, fun s => ⟨fun k l hl => ⟨fun h => ?_, fun h => ?_, fun h => ⟨?_, ?_, ?_⟩, fun h => ?_⟩, fun d h => ?_,
    fun d h => ?_, fun i hi => ⟨fun h => ?_, fun h => ?_⟩, fun i hi => ⟨fun h => ?_, fun h => ?_⟩, fun h => ?_⟩,
    fun s => ⟨fun h => ⟨?_, ?_⟩, fun h => ?_, fun h => ?_, fun o h => ?_, fun h => ⟨fun c hc => ?_, fun w a b =>
      ⟨?_, ?_, ?_, ?_, ?_, ?_⟩⟩⟩⟩
  · exact exec_idle (collisionFound_none h) fun _ => rfl
  · exact exec_idle (attemptDone_unmarked h) fun _ => rfl
  · exact exec_idle (deferralRunsOut_waits h) fun _ => rfl
  · exact exec_of_worked hpow (if_neg h)
  · exact exec_idle (frameMarkPasses_ignored hown hrec) fun _ => rfl
  · exact exec_idle (lastCheckByte_unchecked h b) fun _ => rfl
  · exact exec_idle (linkByteArrives_inactive (receiver_inactive h) b e) fun _ => rfl
  · exact exec_idle (lastCheckByte_inactive (receiver_inactive h) b) fun _ => rfl
  · exact exec_idle (beaconTimerOut_runs h) fun _ => rfl
  · exact exec_idle (if_neg h) fun _ => rfl
  · exact exec_idle (entryExpires_alive h) fun _ => rfl
  · exact exec_idle (entryTurnsQuiet_early h) fun _ => rfl
  · exact exec_idle (if_neg (Bool.eq_false_iff.mp h)) fun _ => rfl
  · exact exec_idle (clockWraps_early fun hdue => by simp [h, wrapDue_iff] at hdue) fun _ => rfl
  · exact exec_idle (markComesDue_early fun hdue => by simp [h] at hdue) fun _ => rfl
  · exact exec_idle (gatePointComes_early fun hdue => by simp [h, gateDue_iff] at hdue) fun _ => rfl
  · exact exec_idle (windowOpens_early fun p _ hdue => by simp [h, windowDue_iff] at hdue) fun _ => rfl
  · exact exec_idle (computationCompletes_early fun hdue => by simp [h, completionCanFall_iff] at hdue) fun _ => rfl
  · refine exec_idle (clockWraps_early fun hdue => ?_) fun _ => rfl
    obtain ⟨-, hext, hend⟩ := wrapDue_iff.mp hdue
    rcases h with h | h
    · exact hext h
    · omega
  · refine exec_idle (computationCompletes_early fun hdue => ?_) fun _ => rfl
    obtain ⟨hsnap, -, hlo, hhi⟩ := completionCanFall_iff.mp hdue
    rcases h with h | h | h
    · exact hsnap h
    · omega
    · omega
  · refine exec_idle (markComesDue_early fun hdue => ?_) fun _ => rfl
    obtain ⟨hwait, hpos⟩ := markReached_iff.mp hdue.2.2
    rcases h with h | h
    · exact h hwait
    · omega
  · exact exec_idle (markComesDue_early fun hdue => by simp [h] at hdue) fun _ => rfl
  · refine exec_idle (gatePointComes_early fun hdue => ?_) fun _ => rfl
    obtain ⟨-, hstation, hreached, g, hg, hpos⟩ := gateDue_iff.mp hdue
    rcases h with h | h | h
    · exact hstation h
    · simp [h] at hreached
    · exact absurd (h g hg) (by omega)
  · refine exec_idle (windowOpens_early fun p hp hdue => ?_) fun _ => rfl
    obtain ⟨-, hopened, hrun, hx, hmarks⟩ := windowDue_iff.mp hdue
    rcases h with h | h
    · simp [h] at hopened
    · rcases h p hp with h | h | ⟨m, hused, h⟩
      · omega
      · omega
      · exact absurd (hmarks m hused) (by omega)
  · refine exec_idle (extensionRunsOut_early fun hdue => ?_) fun _ => rfl
    obtain ⟨e, he, hlimit⟩ := limitReached_iff.mp hdue
    exact absurd (h e he) (by omega)
  · refine exec_idle (requestRunsOut_early fun p hp hdue => ?_) fun _ => rfl
    obtain ⟨r, hr, hline, hage⟩ := requestAged_iff.mp hdue
    exact absurd (h p hp r hr hline) (by omega)
  · refine exec_idle (lineRises_ignored fun c p _ hdue => ?_) fun _ => rfl
    rw [← hl, risingDue_iff] at hdue
    simp [hdue] at h
  · refine exec_idle (lineFalls_ignored fun c p _ hdue => ?_) fun _ => rfl
    rw [← hl, fallingDue_iff] at hdue
    simp [hdue] at h
  · exact exec_idle (lineRises_ignored fun c p hset hdue => role_unused h hset hdue.1) fun _ => rfl
  · exact exec_idle (lineFalls_ignored fun c p hset hdue => role_unused h hset hdue.1) fun _ => rfl
  · exact exec_idle (lineSticksOn_ignored fun c hc hdue => (stuckOnDue_iff.mp hdue).1 (h c hc)) fun _ => rfl
  · refine exec_idle (lineSticksOn_ignored fun c hc hdue => ?_) fun _ => rfl
    obtain ⟨-, hocc, hrun, hfault⟩ := stuckOnDue_iff.mp (hl ▸ hdue)
    rcases h with h | h | h
    · simp [h] at hocc
    · exact hfault h
    · exact absurd (h c hc) (by omega)
  · refine exec_idle (directionFills_ignored fun c p hset hdue => ?_) fun _ => rfl
    obtain ⟨k, hk, hstate, hocc, hrun⟩ := fullDue_line hdue
    rcases h with h | h | h
    · simp [h] at hstate
    · simp [h] at hstate
    · rcases h c p k hset hk with h | h
      · simp [h] at hocc
      · omega
  · refine exec_idle (directionClears_ignored fun c p hset hdue => ?_) fun _ => rfl
    obtain ⟨k, hk, hstate, hocc, hrun⟩ := releaseDue_line hdue
    rcases h with h | h
    · exact h hstate
    · rcases h c p k hset hk with h | h
      · simp [h] at hocc
      · omega
  · exact exec_idle (if_neg fun hdue => by rw [← hi, inputRises_iff] at hdue; simp [hdue] at h) fun _ => rfl
  · exact exec_idle (if_neg fun hdue => by rw [← hi, inputFalls_iff] at hdue; simp [hdue] at h) fun _ => rfl
  · exact exec_idle (if_neg fun hdue => by rw [← hi, inputRises_iff] at hdue; simp [hdue] at h) fun _ => rfl
  · exact exec_idle (if_neg fun hdue => by rw [← hi, inputFalls_iff] at hdue; simp [hdue] at h) fun _ => rfl
  · refine exec_idle (pickupRunsOut_ignored fun p hp hdue => ?_) fun _ => rfl
    obtain ⟨hmode, hrun⟩ := pickupDue_iff.mp hdue
    rcases h with h | h
    · exact h hmode
    · exact absurd (h p hp) (by omega)
  · exact exec_idle (startByteOverruns_ignored (.inr h)) fun _ => rfl
  · exact exec_idle (responseDone_free h) fun _ => rfl
  · exact exec_idle (portTimeout_waiting h) fun _ => rfl
  · exact exec_idle (startByteOverruns_ignored (.inl h)) fun _ => rfl
  · exact exec_idle (completeLoad_ignored h) fun _ => rfl
  · simp only [List.mem_cons, List.not_mem_nil, or_false] at hc
    rcases hc with rfl | rfl | rfl | rfl | rfl | rfl | rfl | rfl <;>
      exact exec_idle (takeMessage_busy h _) fun _ => rfl
  all_goals exact exec_idle (takeMessage_busy h _) fun _ => rfl

end Sys2Proof.Machine

/-! ## The wrap computation: the agreed demand, the base cycle's step and the offset (R107 to R124) -/

namespace Sys2Proof.Machine

/-! ### The candidates (R107 to R109) -/

/-- A candidate that another one does not beat (R109). -/
def Unbeaten (t u : Triple) : Prop :=
  u.value < t.value ∨ u.value = t.value ∧ (t.hops < u.hops ∨ t.hops = u.hops ∧ t.origin ≤ u.origin)

theorem Unbeaten.refl (t : Triple) : Unbeaten t t := .inr ⟨rfl, .inr ⟨rfl, le_rfl⟩⟩

theorem Unbeaten.trans {t u v : Triple} (h : Unbeaten t u) (h' : Unbeaten u v) : Unbeaten t v := by
  unfold Unbeaten at *
  omega

/-- The better of two candidates is one of them, and neither beats it. -/
theorem better_spec (t u : Triple) :
    (better t u = t ∨ better t u = u) ∧ Unbeaten (better t u) t ∧ Unbeaten (better t u) u := by
  unfold better
  split
  · next hbeaten => exact ⟨.inr rfl, by unfold Unbeaten; omega, .refl u⟩
  · next hkept => exact ⟨.inl rfl, .refl t, by unfold Unbeaten; omega⟩

theorem foldl_better (l : List Triple) (t : Triple) :
    (l.foldl better t = t ∨ l.foldl better t ∈ l) ∧ Unbeaten (l.foldl better t) t
      ∧ ∀ u ∈ l, Unbeaten (l.foldl better t) u := by
  induction l generalizing t with
  | nil => exact ⟨.inl rfl, .refl t, fun u hu => by cases hu⟩
  | cons v l ih =>
    obtain ⟨hone, hstart, hall⟩ := ih (better t v)
    obtain ⟨hbetter, hoft, hofv⟩ := better_spec t v
    rw [List.foldl_cons, List.forall_mem_cons]
    refine ⟨?_, hstart.trans hoft, hstart.trans hofv, hall⟩
    rcases hone with hone | hone
    · rw [hone, List.mem_cons]
      exact hbetter.imp id .inl
    · exact .inr (List.mem_cons_of_mem v hone)

theorem mem_heardCandidates {own hopLimit : Nat} {entries : List Entry} {u : Triple} :
    u ∈ heardCandidates own hopLimit entries ↔ ∃ e ∈ entries,
      u = ⟨e.beacon.triple.value, e.beacon.triple.origin, e.beacon.triple.hops + 1⟩ ∧ u.hops ≤ hopLimit
        ∧ u.origin ≠ own := by
  simp only [heardCandidates, List.mem_filter, List.mem_map, Bool.and_eq_true, decide_eq_true_eq]
  constructor
  · rintro ⟨⟨e, he, rfl⟩, hkept⟩
    exact ⟨e, he, rfl, hkept⟩
  · rintro ⟨e, he, rfl, hkept⟩
    exact ⟨⟨e, he, rfl⟩, hkept⟩

theorem not_displaces {t u : Triple} : displaces t u = false ↔
    (t.origin = u.origin → u.hops < t.hops ∨ u.hops = t.hops ∧ t.value ≤ u.value) := by
  rw [Bool.eq_false_iff, ne_eq, displaces]
  simp only [Bool.and_eq_true, Bool.or_eq_true, decide_eq_true_eq]
  omega

/-- The candidates kept are those heard that none of their origin's displaces (R108). -/
theorem mem_reduceCandidates {own hopLimit : Nat} {entries : List Entry} {u : Triple} :
    u ∈ reduceCandidates (heardCandidates own hopLimit entries) ↔ ∃ e ∈ entries,
      u = ⟨e.beacon.triple.value, e.beacon.triple.origin, e.beacon.triple.hops + 1⟩ ∧ u.hops ≤ hopLimit
        ∧ u.origin ≠ own
        ∧ ∀ f ∈ entries, f.beacon.triple.origin = u.origin → f.beacon.triple.hops + 1 ≤ hopLimit →
            u.hops < f.beacon.triple.hops + 1
              ∨ u.hops = f.beacon.triple.hops + 1 ∧ f.beacon.triple.value ≤ u.value := by
  have hmem : u ∈ reduceCandidates (heardCandidates own hopLimit entries) ↔
      u ∈ heardCandidates own hopLimit entries ∧
        ∀ t ∈ heardCandidates own hopLimit entries, displaces t u = false := by
    simp [reduceCandidates]
  rw [hmem, mem_heardCandidates]
  constructor
  · rintro ⟨⟨e, he, hu, hhops, hown⟩, hall⟩
    refine ⟨e, he, hu, hhops, hown, fun f hf horigin hlimit => ?_⟩
    exact not_displaces.mp (hall _ (mem_heardCandidates.mpr ⟨f, hf, rfl, hlimit, horigin ▸ hown⟩)) horigin
  · rintro ⟨e, he, hu, hhops, hown, hall⟩
    refine ⟨⟨e, he, hu, hhops, hown⟩, fun t ht => not_displaces.mpr fun horigin => ?_⟩
    obtain ⟨f, hf, rfl, hlimit, -⟩ := mem_heardCandidates.mp ht
    exact hall f hf horigin hlimit

/-- Settles O30: the fold takes the best of the candidates kept. -/
theorem agreedDemandIsGreatestBelieved : Obligations.AgreedDemandIsGreatestBelieved := by
  intro own hopLimit dq entries kept t hkept ht
  obtain ⟨hone, hstart, hall⟩ := foldl_better (reduceCandidates (heardCandidates own hopLimit entries)) ⟨dq, own, 0⟩
  have hiff : ∀ u, kept u ↔ u = ⟨dq, own, 0⟩ ∨ u ∈ reduceCandidates (heardCandidates own hopLimit entries) :=
    fun u => by rw [hkept, mem_reduceCandidates]
  subst ht
  refine ⟨(hiff _).mpr hone, fun u hu => ?_⟩
  rcases (hiff u).mp hu with rfl | hu
  · exact hstart
  · exact hall u hu

/-! ### The base cycle's step (R110) -/

theorem stepCycle_up {p : Plan} {c g : Nat} (h : c < g) : stepCycle p c g = min g (min (c + p.cStep) p.cMax) := if_pos h

theorem stepCycle_down {p : Plan} {c g : Nat} (h : g < c) : stepCycle p c g = max g (max (c - p.cStep) p.cMin) := by
  rw [stepCycle, if_neg (by omega), if_pos h]

theorem stepCycle_same (p : Plan) (c : Nat) : stepCycle p c c = c := by simp [stepCycle]

/-! ### The offset (R112 to R124) -/

theorem distance_eq (a b : Nat) : distance a b = max a b - min a b := by
  unfold distance
  split <;> omega

theorem scaled_mono {p : Plan} {c d : Nat} (h : c ≤ d) (m : Num8) : p.scaled c m ≤ p.scaled d m :=
  Nat.div_le_div_right (Nat.mul_le_mul_left _ h)

theorem referenceUsable_iff {p : Plan} {c : Nat} {finished : Word16} {r : Entry} :
    referenceUsable p c finished r = true ↔ r.state = .live ∧ r.beacon.direction = p.direction ∧ r.beacon.cycle = c
      ∧ r.capture.wrapCount = finished := by
  simp [referenceUsable, and_assoc]

theorem offsetStage_usable {own : Nat} {p : Plan} {c : Nat} {n : Snapshot} {r : Entry} (hr : n.reference = some r)
    (h : referenceUsable p c n.finished r = true) {e : Int}
    (he : e = offsetError own p c n.cPrev (n.closed.onRed.get p.direction) r) :
    offsetStage own p c n = ⟨some e, adjustmentFor p c e, modeForError n.previousMode e⟩ := by
  subst he
  simp only [offsetStage, hr, h, if_true]

theorem offsetStage_unusable {own : Nat} {p : Plan} {c : Nat} {n : Snapshot} {r : Entry} (hr : n.reference = some r)
    (h : ¬ referenceUsable p c n.finished r = true) : offsetStage own p c n = ⟨none, 0, n.previousMode⟩ := by
  simp only [offsetStage, hr]
  exact if_neg h

/-- The wrap to the half cycle (R1) takes a value below C to one congruent to it. -/
theorem signedWrap_range {z c : Nat} (hz : z < c) : -(c : Int) < 2 * signedWrap z c ∧ 2 * signedWrap z c ≤ c := by
  unfold signedWrap
  split <;> omega

theorem signedWrap_congr (z c : Nat) : ∃ k : Int, signedWrap z c = z - k * c := by
  unfold signedWrap
  split
  · exact ⟨0, by omega⟩
  · exact ⟨1, by omega⟩

/-- A value reduced into a cycle. -/
theorem toNat_emod_congr (x : Int) {c : Nat} (hc : 0 < c) :
    (x % (c : Int)).toNat < c ∧ ∃ k : Int, (((x % (c : Int)).toNat : Nat) : Int) = x - k * c := by
  have hlo := Int.emod_nonneg x (by omega : (c : Int) ≠ 0)
  have hhi := Int.emod_lt_of_pos x (by omega : (0 : Int) < c)
  refine ⟨by omega, x / c, ?_⟩
  rw [Int.toNat_of_nonneg hlo, Int.emod_def, mul_comm]

/-- The error is −Δ + T − Q wrapped to the half cycle (R119, R120). -/
theorem offsetError_spec (own : Nat) (p : Plan) {c : Nat} (hc : 0 < c) (cPrev arrivals : Nat) (r : Entry) {e : Int}
    (he : e = offsetError own p c cPrev arrivals r) : (-(c : Int) < 2 * e ∧ 2 * e ≤ c) ∧ ∃ turns : Int,
      e = turns * c - (r.beacon.stamped + cPrev - r.capture.position)
        + travelTime (distance r.beacon.position own) (planSpeed p) - queueLead p arrivals := by
  obtain ⟨T, hT⟩ : ∃ T, T = travelTime (distance r.beacon.position own) (planSpeed p) := ⟨_, rfl⟩
  obtain ⟨Q, hQ⟩ : ∃ Q, Q = queueLead p arrivals := ⟨_, rfl⟩
  obtain ⟨Δ, hΔ⟩ : ∃ Δ, Δ = referencePhase c cPrev r.beacon.stamped r.capture.position := ⟨_, rfl⟩
  obtain ⟨z, hz⟩ : ∃ z, z = targetZero c Δ T Q := ⟨_, rfl⟩
  obtain ⟨-, i, hi⟩ := toNat_emod_congr ((r.beacon.stamped : Int) + ((cPrev : Int) - (r.capture.position : Int))) hc
  obtain ⟨hlt, j, hj⟩ := toNat_emod_congr ((c : Int) - (Δ : Int) + (T : Int) - (Q : Int)) hc
  obtain ⟨k, hk⟩ := signedWrap_congr z c
  have hphase : (Δ : Int) = r.beacon.stamped + (cPrev - r.capture.position) - i * c := by rw [hΔ]; exact hi
  have htarget : (z : Int) = c - Δ + T - Q - j * c := by rw [hz]; exact hj
  have herror : e = signedWrap z c := by rw [he, hz, hΔ, hT, hQ]; rfl
  rw [← hT, ← hQ, herror]
  refine ⟨signedWrap_range (hz ▸ hlt), 1 + i - j - k, ?_⟩
  rw [hk, htarget, hphase]
  ring

theorem adjustmentFor_small {p : Plan} {c : Nat} {e : Int} (h : -3 ≤ e ∧ e ≤ 3) : adjustmentFor p c e = 0 := if_pos h

theorem adjustmentFor_large {p : Plan} {c : Nat} {e : Int} (h : e < -3 ∨ 3 < e) :
    adjustmentFor p c e = if e < -(shorteningLimit p c : Int) then -(shorteningLimit p c : Int)
      else if ((c / 5 : Nat) : Int) < e then ((c / 5 : Nat) : Int) else e := by
  rw [adjustmentFor, if_neg (by omega)]
  rfl

/-- The adjustment lies between the greatest shortening and the greatest lengthening (R121, R122). -/
theorem adjustmentFor_range (p : Plan) (c : Nat) (e : Int) :
    -(shorteningLimit p c : Int) ≤ adjustmentFor p c e ∧ adjustmentFor p c e ≤ ((c / 5 : Nat) : Int) := by
  unfold adjustmentFor clampInt
  split
  · omega
  · split
    · omega
    · split <;> omega

/-- The stretch mark does not fall below Gmin (R122). -/
theorem gMin_le_stretch {p : Plan} (hp : p.Checked) {c : Nat} (hc : p.cMin ≤ c) {a : Int}
    (ha : -(shorteningLimit p c : Int) ≤ a) : (p.gMin : Int) ≤ (p.scaled c p.stretch : Nat) + a := by
  obtain ⟨-, -, hmin⟩ := hp.gMin
  have hscaled : p.gMin ≤ p.scaled c p.stretch := hmin.trans (scaled_mono hc _)
  have hshort : shorteningLimit p c ≤ p.scaled c p.stretch - p.gMin := Nat.min_le_right _ _
  omega

theorem modeForError_inStep {previous : ChargeMode} {e : Int} : modeForError previous e = .inStep
    ↔ (-3 ≤ e ∧ e ≤ 3) ∨ (-10 ≤ e ∧ e ≤ 10 ∧ previous = .inStep) := by
  unfold modeForError
  split
  · next h => simp [h]
  · next h =>
    split
    · next hnear => split <;> simp_all
    · next hfar => simp only [reduceCtorEq, false_iff]; omega

theorem modeForError_ne_leading (previous : ChargeMode) (e : Int) : modeForError previous e ≠ .leading := by
  unfold modeForError
  split
  · decide
  · split
    · split <;> decide
    · decide

/-- Settles O31: the step, the stages of the computation, and the offset stage by the reference. -/
theorem cycleStepAndOffset : Obligations.CycleStepAndOffset := by
  refine ⟨fun p c g n hp hlo hhi hn => ?_, fun f k p n old c r hr hwork => ?_, fun own p c n hn => ?_,
    fun own p c n r hp hc hn => ⟨fun hbad => ?_, fun hlive hdir hcycle hcount => ?_⟩⟩
  · obtain ⟨hstep, -, -⟩ := hp.cStep
    have hup := fun h => hn.trans (stepCycle_up (p := p) (c := c) (g := g) h)
    have hdown := fun h => hn.trans (stepCycle_down (p := p) (c := c) (g := g) h)
    have hsame : g = c → n = c := fun h => hn.trans (h ▸ stepCycle_same p g)
    refine ⟨hup, hdown, hsame, ?_⟩
    rcases lt_trichotomy c g with h | h | h
    · have := hup h; omega
    · have := hsame h.symm; omega
    · have := hdown h; omega
  · have hold : old = workingSmoothed p n ∧ c = workingCycle p n := by
      cases hpend : n.pendingPlan with
      | none => simpa [hpend, workingSmoothed, workingCycle] using hwork
      | some k => simpa [hpend, workingSmoothed, workingCycle, clampNat] using hwork
    obtain ⟨rfl, rfl⟩ := hold
    subst hr
    exact ⟨rfl, rfl, rfl, rfl, rfl⟩
  · simp only [offsetStage, hn]
  · refine offsetStage_unusable hn fun husable => ?_
    obtain ⟨hlive, hdir, hcycle, hcount⟩ := referenceUsable_iff.mp husable
    simp [hlive, hdir, hcycle, hcount] at hbad
  · obtain ⟨e, he⟩ : ∃ e, e = offsetError own p c n.cPrev (n.closed.onRed.get p.direction) r := ⟨_, rfl⟩
    have hpos : 0 < c := by
      obtain ⟨hmin, -, -⟩ := hp.cMin
      omega
    obtain ⟨⟨hlow, hhigh⟩, hturns⟩ := offsetError_spec own p hpos _ _ _ he
    refine ⟨e, _, _, offsetStage_usable hn (referenceUsable_iff.mpr ⟨hlive, hdir, hcycle, hcount⟩) he, hlow, hhigh,
      fun d v travel lead hd hv htravel hlead => ?_, fun h3 h3' => adjustmentFor_small ⟨h3, h3'⟩, fun hlarge short hs => ?_,
      gMin_le_stretch hp hc (adjustmentFor_range p c e).1, modeForError_inStep, modeForError_ne_leading _ _⟩
    · have hspeed : v = planSpeed p := hv
      rw [← distance_eq] at hd
      subst hd hspeed htravel hlead
      exact hturns
    · subst hs
      exact adjustmentFor_large hlarge

end Sys2Proof.Machine

/-! ## The closing of a cycle: detector counts, storage states and the log record (R68, R71, R73, R76, R77, R174, R175) -/

namespace Sys2Proof.Machine

/-! ### An event counted several times -/

/-- The counters after an event counted some times. -/
def Counters.bumps (c : Counter) (times : Nat) (n : Counters) : Counters := (fun v => v.bump c)^[times] n

theorem Counters.bumps_succ (c : Counter) (times : Nat) (n : Counters) :
    n.bumps c (times + 1) = (n.bumps c times).bump c := Function.iterate_succ_apply' ..

theorem Counters.value_bumps_other {c i : Counter} (h : i ≠ c) (times : Nat) (n : Counters) :
    (n.bumps c times).value i = n.value i := by
  induction times with
  | zero => rfl
  | succ times ih => rw [Counters.bumps_succ, Counters.value_bump, if_neg h, ih]

theorem Counters.value_bumps {c : Counter} {n : Counters} (h : n.value c ≤ 65535) (times : Nat) :
    (n.bumps c times).value c = min (n.value c + times) 65535 := by
  induction times with
  | zero => exact (Nat.min_eq_left h).symm
  | succ times ih =>
    rw [Counters.bumps_succ, Counters.value_bump, if_pos rfl, ih, countEvent]
    omega

/-! ### Requests of STORAGE frames for directions that enter or leave FULL (R77) -/

/-- Whether a direction enters or leaves FULL between two states. -/
def movesFull (s t : State) (d : Direction) : Bool :=
  !decide (s.di.storage.get d = .full ↔ t.di.storage.get d = .full)

theorem movesFull_false {s t : State} {d : Direction} :
    movesFull s t d = false ↔ (s.di.storage.get d = .full ↔ t.di.storage.get d = .full) := by
  simp [movesFull]

/-- A STORAGE request has been made for each direction that has entered or left FULL. -/
def Requested (s t : State) : Prop :=
  t.lc = storageRequests (movesFull s t .inbound) (movesFull s t .outbound) s.lc

theorem Requested.refl (s : State) : Requested s s := by
  rw [Requested, movesFull_false.mpr Iff.rfl, movesFull_false.mpr Iff.rfl]
  rfl

theorem Requested.storage {s t : State} (h : Requested s t) : StorageRequested s t :=
  storageRequests_requested (moved := movesFull s t) (fun _ => movesFull_false) h

/-- One more direction's move, with its request. -/
theorem Requested.move {s t u : State} (h : Requested s t) {d : Direction} (hd : s.di.storage.get d = t.di.storage.get d)
    (hother : ∀ e, e ≠ d → u.di.storage.get e = t.di.storage.get e)
    (hlc : u.lc = if t.di.storage.get d = .full ↔ u.di.storage.get d = .full then t.lc else fillStorage t.lc) :
    Requested s u := by
  have hsame : movesFull s t d = false := movesFull_false.mpr (by rw [hd])
  have hnew : movesFull s u d = !decide (t.di.storage.get d = .full ↔ u.di.storage.get d = .full) := by
    rw [movesFull, hd]
  have hkeep : ∀ e, e ≠ d → movesFull s u e = movesFull s t e := fun e he => by rw [movesFull, hother e he, movesFull]
  unfold Requested at h ⊢
  rw [hlc, h]
  cases d with
  | inbound =>
    rw [hkeep .outbound (by decide), hsame, hnew]
    split
    · next hfull => rw [decide_eq_true hfull]; rfl
    · next hfull =>
      rw [decide_eq_false hfull]
      cases movesFull s t .outbound <;> rfl
  | outbound =>
    rw [hkeep .inbound (by decide), hsame, hnew]
    split
    · next hfull => rw [decide_eq_true hfull]; rfl
    · next hfull => rw [decide_eq_false hfull]; rfl

/-! ### Lines that become STUCK_OFF (R71, R73) -/

theorem advanceLine_eq {c : Configuration} (hc : c.Checked) {d : Direction} {k : Num8} :
    c.advanceLine d = some k ↔ c.role k = advanceRole d := by
  constructor
  · intro h
    exact of_decide_eq_true (List.find?_some (p := fun k => decide (c.role k = advanceRole d)) h)
  · intro h
    obtain ⟨j, hj⟩ := advanceLine_some_iff.mpr ⟨k, h⟩
    have hrole := of_decide_eq_true (List.find?_some (p := fun k => decide (c.role k = advanceRole d)) hj)
    rw [hj, hc.oneAdvance d j k hrole h]

/-- What the entry of STUCK_OFF by some lines has made of a state in charge. -/
structure FaultsEntered (c : Configuration) (ks : List Num8) (s t : State) : Prop where
  rest : { t with di := { t.di with lines := s.di.lines, storage := s.di.storage }, lc := s.lc,
                  counters := s.counters, cp := { t.cp with flags := s.cp.flags } } = s
  counters : t.counters = s.counters.bumps .detectorFault ks.length
  flag : ∀ f, flagIn f t.cp.flags = (flagIn f s.cp.flags || decide (f = .detectorFault ∧ ks ≠ []))
  line : ∀ j, t.di.lines.get j = if j ∈ ks then { s.di.lines.get j with fault := .stuckOff } else s.di.lines.get j
  storage : ∀ d, t.di.storage.get d
    = if ks.any (fun k => decide (c.role k = advanceRole d)) then .unknown else s.di.storage.get d
  request : Requested s t

theorem faultsEntered_none (c : Configuration) (s : State) : FaultsEntered c [] s s where
  rest := rfl
  counters := rfl
  flag f := by simp
  line j := rfl
  storage d := rfl
  request := .refl s

/-- One more line becomes STUCK_OFF. -/
theorem FaultsEntered.snoc {c : Configuration} {ks : List Num8} {s t : State} (h : FaultsEntered c ks s t)
    (hin : s.inCharge = true) {k : Num8} (hk : k ∉ ks)
    (hone : ∀ d, c.role k = advanceRole d → ∀ j ∈ ks, c.role j ≠ advanceRole d) :
    FaultsEntered c (ks ++ [k]) s (enterFault c k .stuckOff t) := by
  have hbump : t.counters.bump .detectorFault = s.counters.bumps .detectorFault (ks ++ [k]).length := by
    rw [h.counters, List.length_append, List.length_singleton, Counters.bumps_succ]
  have htin : t.inCharge = true := by
    rw [← h.rest] at hin
    exact hin
  have hline : ∀ j, (t.di.lines.set k { t.di.lines.get k with fault := .stuckOff }).get j
      = if j ∈ ks ++ [k] then { s.di.lines.get j with fault := .stuckOff } else s.di.lines.get j := fun j => by
    by_cases hj : j = k
    · subst hj
      rw [Eight.get_set_same, h.line, if_neg hk, if_pos (by simp)]
    · rw [Eight.get_set, if_neg hj, h.line]
      simp [hj]
  have hflag : ∀ f, flagIn f (t.cp.flags ||| Flag.detectorFault.word)
      = (flagIn f s.cp.flags || decide (f = .detectorFault ∧ ks ++ [k] ≠ [])) := fun f => by
    rw [flagIn_setFlag, h.flag]
    by_cases hf : f = .detectorFault <;> simp [hf]
  cases hadv : roleAdvance (c.role k) with
  | none =>
    have hno : ∀ d, c.role k ≠ advanceRole d := roleAdvance_none_iff.mp hadv
    have hstorage : ∀ d, t.di.storage.get d
        = if (ks ++ [k]).any (fun k => decide (c.role k = advanceRole d)) then .unknown else s.di.storage.get d := by
      intro d
      rw [h.storage, List.any_append]
      simp [hno d]
    have hrequest : Requested s (enterFault c k .stuckOff t) := by
      rw [enterFault_other hno]
      exact h.request
    rw [enterFault_other hno] at hrequest ⊢
    exact ⟨h.rest, hbump, hflag, hline, hstorage, hrequest⟩
  | some d =>
    have hrole := roleAdvance_iff.mp hadv
    have hfree : ks.any (fun k => decide (c.role k = advanceRole d)) = false := by
      rw [List.any_eq_false]
      exact fun j hj => by simpa using hone d hrole j hj
    have hkept : s.di.storage.get d = t.di.storage.get d := by rw [h.storage, hfree]; rfl
    have hstorage : ∀ e, (t.di.storage.set d .unknown).get e
        = if (ks ++ [k]).any (fun k => decide (c.role k = advanceRole e)) then .unknown else s.di.storage.get e := by
      intro e
      by_cases he : e = d
      · subst he
        rw [PerDir.get_set_same, List.any_append]
        simp [hrole]
      · rw [PerDir.get_set, if_neg he, h.storage, List.any_append]
        have hne : c.role k ≠ advanceRole e := fun heq => he (advanceRole_injective (heq.symm.trans hrole))
        simp [hne]
    have hrequest : Requested s (enterFault c k .stuckOff t) := by
      rw [enterFault_advance hrole]
      refine h.request.move hkept (fun e he => (PerDir.get_set ..).trans (if_neg he)) ?_
      simp only [htin, true_and, PerDir.get_set_same, reduceCtorEq, iff_false]
      by_cases hfull : t.di.storage.get d = .full
      · rw [if_pos hfull, if_neg (not_not_intro hfull)]
      · rw [if_neg hfull, if_pos hfull]
    rw [enterFault_advance hrole] at hrequest ⊢
    exact ⟨h.rest, hbump, hflag, hline, hstorage, hrequest⟩

theorem faultsEntered {c : Configuration} (hc : c.Checked) {s : State} (hin : s.inCharge = true) {ks : List Num8}
    (hks : ks.Nodup) : FaultsEntered c ks s (ks.foldl (fun s k => enterFault c k .stuckOff s) s) := by
  induction ks using List.reverseRecOn with
  | nil => exact faultsEntered_none c s
  | append_singleton ks k ih =>
    obtain ⟨hnodup, -, hdisjoint⟩ := List.nodup_append.mp hks
    have hk : k ∉ ks := fun hmem => hdisjoint k hmem k (List.mem_singleton_self k) rfl
    rw [List.foldl_append]
    exact (ih hnodup).snoc hin hk fun d hd j hj heq => hk (hc.oneAdvance d k j hd heq ▸ hj)

/-! ### The judgement of the storage states (R76) -/

/-- The storage state of a direction once a wrap has judged it. -/
def judgedStorage (c : Configuration) (p : Plan) (s : State) (d : Direction) : Storage :=
  match c.advanceLine d with
  | some k =>
    if (s.di.lines.get k).fault = .good ∧ s.di.storage.get d ≠ .full then
      (if 3 * p.capacity.get d ≤ 4 * s.di.closed.onRed.get d then .filling else .clear)
    else s.di.storage.get d
  | none => s.di.storage.get d

theorem judgeStorage_eq (c : Configuration) (p : Plan) (d : Direction) (s : State) : judgeStorage c p d s
    = { s with di := { s.di with storage := s.di.storage.set d (judgedStorage c p s d) } } := by
  cases hk : c.advanceLine d with
  | none =>
    simp only [judgeStorage, judgedStorage, hk]
    rw [set_get]
  | some k =>
    simp only [judgeStorage, judgedStorage, hk]
    by_cases hjudged : (s.di.lines.get k).fault = .good ∧ s.di.storage.get d ≠ .full
    · rw [if_pos hjudged, if_pos hjudged]
      refine setStorage_quiet ⟨fun hfull => absurd hfull hjudged.2, fun hfull => ?_⟩
      split at hfull <;> cases hfull
    · rw [if_neg hjudged, if_neg hjudged, set_get]

theorem judgedStorage_full (c : Configuration) (p : Plan) (s : State) (d : Direction) :
    s.di.storage.get d = .full ↔ judgedStorage c p s d = .full := by
  unfold judgedStorage
  split
  · split
    · next hjudged =>
      refine ⟨fun hfull => absurd hfull hjudged.2, fun hfull => ?_⟩
      split at hfull <;> cases hfull
    · rfl
  · rfl

/-- Both directions judged. -/
def judgedBoth (c : Configuration) (p : Plan) (s : State) : State :=
  { s with di := { s.di with storage := ⟨judgedStorage c p s .inbound, judgedStorage c p s .outbound⟩ } }

theorem judgeStorage_both (c : Configuration) (p : Plan) (s : State) :
    judgeStorage c p .outbound (judgeStorage c p .inbound s) = judgedBoth c p s := by
  rw [judgeStorage_eq, judgeStorage_eq]
  rfl

/-! ### The whole closing -/

/-- The lines that become STUCK_OFF at a wrap (R71). -/
def stuckOffLines (c : Configuration) (s : State) : List Num8 :=
  Num8.all.filter fun k => becomesStuckOff (c.detectors.get k) (s.di.lines.get k)

theorem stuckOffLines_nodup (c : Configuration) (s : State) : (stuckOffLines c s).Nodup :=
  List.Nodup.filter _ (by decide : Num8.all.Nodup)

theorem mem_stuckOffLines {c : Configuration} {s : State} {k : Num8} :
    k ∈ stuckOffLines c s ↔ becomesStuckOff (c.detectors.get k) (s.di.lines.get k) = true := by
  simp [stuckOffLines, Num8.mem_all]

/-- The detector lines and the closed record of the finished cycle, before the faults. -/
def countsClosed (c : Configuration) (s : State) : State :=
  { s with di := { s.di with
      lines := s.di.lines.mapNum (fun k l => closeLine (c.detectors.get k) l)
      closed := makeClosed c (s.di.lines.mapNum (fun k l => closeLine (c.detectors.get k) l)) } }

theorem closeCycle_faults {c : Configuration} (hc : c.Checked) (p : Plan) {s : State} (hin : s.inCharge = true) :
    ∃ u, FaultsEntered c (stuckOffLines c s) (countsClosed c s) u ∧ closeCycle c p s = judgedBoth c p u := by
  refine ⟨_, faultsEntered hc (s := countsClosed c s) hin (stuckOffLines_nodup c s), ?_⟩
  rw [← judgeStorage_both, stuckOffLines, List.foldl_filter]
  rfl

theorem becomesStuckOff_iff {set : DetectorSetting} {l : DetectorLine} : becomesStuckOff set l = true ↔
    roleCounts set.role = true ∧ l.fault = .good ∧ set.stuckOff ≤ nextZeroRun l := by
  simp [becomesStuckOff, and_assoc]

theorem sumHeld_eq (c : Configuration) (lines : Eight DetectorLine) (role : Role) (f : Counts → Nat) :
    sumHeld c lines role f
      = min ((Num8.all.map (fun k => if c.role k = role then f (lines.get k).held else 0)).sum) 255 := by
  have hfold : ∀ (l : List Num8) (n : Nat),
      l.foldl (fun n k => if c.role k = role then n + f (lines.get k).held else n) n
        = n + (l.map (fun k => if c.role k = role then f (lines.get k).held else 0)).sum := by
    intro l
    induction l with
    | nil => exact fun n => rfl
    | cons k l ih =>
      intro n
      rw [List.foldl_cons, ih, List.map_cons, List.sum_cons]
      split <;> omega
  rw [sumHeld, hfold, Nat.zero_add]

end Sys2Proof.Machine

/-! ## The wrap (R45, R98, R138, R143, R155, R161, R174, R175) -/

namespace Sys2Proof.Machine

/-! ### The cycle log -/

theorem countAged_foldl {α : Type} (l : List α) (s : State) : l.foldl (fun s _ => countAged s) s = { s with
    counters := s.counters.bumps .logTimeout l.length
    cp := { s.cp with flags := if l = [] then s.cp.flags else s.cp.flags ||| Flag.logTimeout.word } } := by
  induction l using List.reverseRecOn with
  | nil => rfl
  | append_singleton l x ih =>
    rw [List.foldl_append, ih]
    have hflags : (if l = [] then s.cp.flags else s.cp.flags ||| Flag.logTimeout.word) ||| Flag.logTimeout.word
        = s.cp.flags ||| Flag.logTimeout.word := by
      split
      · rfl
      · rw [BitVec.or_assoc, BitVec.or_self]
    have hcounters := Counters.bumps_succ .logTimeout l.length s.counters
    rw [if_neg (by simp : l ++ [x] ≠ []), List.length_append, List.length_singleton]
    exact congrArg₂ (fun v w => ({ s with counters := v, cp := { s.cp with flags := w } } : State)) hcounters.symm hflags

/-- The log record of the finished cycle appended, and the aged ones discarded. -/
theorem appendRecord_eq (c : Configuration) (r : LogRecord) (s : State) : appendRecord c r s = { s with
    counters := s.counters.bumps .logTimeout (s.cp.log.filter (agedOut c.retention r.wrapCount)).length
    cp := { s.cp with
      flags := if s.cp.log.filter (agedOut c.retention r.wrapCount) = [] then s.cp.flags
        else s.cp.flags ||| Flag.logTimeout.word
      log := s.cp.log.filter (fun q => !agedOut c.retention r.wrapCount q) ++ [r] } } := by
  simp only [appendRecord, countAged_foldl]

theorem appendRecord_counters (c : Configuration) (r : LogRecord) (s : State) :
    ∃ aged, (appendRecord c r s).counters = s.counters.bumps .logTimeout aged :=
  ⟨_, congrArg State.counters (appendRecord_eq c r s)⟩

theorem appendRecord_flag {f : Flag} (hf : f ≠ .logTimeout) (c : Configuration) (r : LogRecord) (s : State) :
    flagIn f (appendRecord c r s).cp.flags = flagIn f s.cp.flags := by
  rw [appendRecord_eq]
  dsimp only
  split
  · rfl
  · rw [flagIn_setFlag, decide_eq_false hf, Bool.or_false]

theorem not_agedOut (k : Nat) (n : Word16) (q : LogRecord) :
    (!agedOut k n q) = decide ((n - q.wrapCount).toNat < k) := by
  rw [agedOut, Bool.eq_iff_iff]
  simp only [Bool.not_eq_true', decide_eq_true_eq, decide_eq_false_iff_not, Nat.not_le]

/-- A strictly falling list of numbers below a bound is no longer than the bound. -/
theorem length_le_of_falling {l : List Nat} (h : l.Pairwise fun a b => b < a) {k : Nat} (hk : ∀ x ∈ l, x < k) :
    l.length ≤ k := by
  induction l generalizing k with
  | nil => exact Nat.zero_le k
  | cons x l ih =>
    obtain ⟨hhead, htail⟩ := List.pairwise_cons.mp h
    have hx := hk x List.mem_cons_self
    have hle := ih htail hhead
    rw [List.length_cons]
    omega

/-! ### Gating at a wrap -/

/-- A direction's gating state in the next cycle (R138, R143). -/
def wrappedGate (p : Plan) (g : Gate) : Gate :=
  { station := g.station, point := g.station.map (fun _ => p.gateMin), reached := false,
    marks := ⟨g.station.isSome, false, false⟩ }

theorem placeGateIfOn_early {c : Configuration} {p : Plan} {d : Direction} {s : State} (h : s.ct.position < p.gateMin) :
    placeGateIfOn c p d s = { s with gt := s.gt.set d { s.gt.get d with
      point := if (s.gt.get d).station.isSome then some p.gateMin else (s.gt.get d).point } } := by
  unfold placeGateIfOn
  split
  · rw [placeGate_later c p d s (Nat.not_le.mpr h), placedGate_early h]
    rfl
  · rw [set_get]

theorem gatingWrap_eq {c : Configuration} {p : Plan} {s : State} (h : s.ct.position < p.gateMin) :
    gatingWrap c p s = { s with gt := ⟨wrappedGate p s.gt.inbound, wrappedGate p s.gt.outbound⟩ } := by
  have hgate : ∀ g : Gate, ({ gateNextCycle g with
      point := if (gateNextCycle g).station.isSome then some p.gateMin else (gateNextCycle g).point } : Gate)
      = wrappedGate p g := by
    intro g
    unfold gateNextCycle wrappedGate
    cases g.station <;> rfl
  obtain ⟨u, hu⟩ : ∃ u, u = placeGateIfOn c p .inbound
    { s with gt := ⟨gateNextCycle s.gt.inbound, gateNextCycle s.gt.outbound⟩ } := ⟨_, rfl⟩
  have hwrap : gatingWrap c p s = placeGateIfOn c p .outbound u := by
    rw [hu]
    rfl
  rw [placeGateIfOn_early (by exact h)] at hu
  rw [hwrap, placeGateIfOn_early (by rw [hu]; exact h), hu, ← hgate, ← hgate]
  rfl

/-! ### The wrap as a whole -/

/-- The unit at the wrap, from its state once the Detector Interface has closed the finished cycle, before the marks at
position 0 come due. -/
def wrapOpened (c : Configuration) (p : Plan) (m : ChargeMode) (finished : CT) (u : State) : State :=
  { appendRecord c (makeRecord p finished u) u with
    cau := { u.cau with snapshot := some (takeSnapshot c p m finished.cRun finished.wrapCount u) }
    mc := { u.mc with pendingTaken := false }
    computations := u.computations + 1
    pa := priorityWrap u.pa
    olu := u.olu.mapNum (fun _ o => { o with drive := false })
    di := { u.di with green := ⟨true, true⟩ }
    gt := ⟨wrappedGate p u.gt.inbound, wrappedGate p u.gt.outbound⟩ }

/-- The stretch mark is not at position 0 (R122 and the load's checks). -/
theorem stretch_waits {p : Plan} (hp : p.Checked) {n : Nat} (hn : p.cMin ≤ n) : opensDue p n p.stretch = false := by
  obtain ⟨hgreen, -, hmin⟩ := hp.gMin
  have hscaled : p.gMin ≤ p.base p.stretch * n / p.cBase := hmin.trans (scaled_mono hn _)
  have hused := usesMark_iff.mp hp.stretch
  rw [opensDue, decide_eq_false_iff_not, openingMark, if_neg hused, if_neg (by omega)]
  exact nofun

theorem doWrap_eq {s : State} {c : Configuration} {p : Plan} {m : ChargeMode} (hset : s.setup = some (c, p))
    (hm : s.mc.mode = .inCharge m) (hp : p.Checked) (hcycle : p.cMin ≤ s.cau.cycle) {u : State}
    (hu : u = closeCycle c p { s with ct := openCycle p s.cau.cycle s.ct }) :
    doWrap s = duesTaken c p (opensDue p s.cau.cycle) (wrapOpened c p m s.ct u) := by
  have hct : u.ct = openCycle p s.cau.cycle s.ct := by rw [hu, closeCycle_ct]
  obtain ⟨v, hv⟩ : ∃ v, v = setGreens true (clearLines { startComputation c p m s.ct
      (appendRecord c (makeRecord p s.ct u) u) with pa := priorityWrap u.pa }) := ⟨_, rfl⟩
  have hwrap : doWrap s = takeReachedDeciding c p (gatingWrap c p v) := by
    rw [hv, hu]
    simp only [doWrap, hset, hm, startComputation_pa, appendRecord_pa]
  obtain ⟨hgate, -⟩ := hp.gateMin
  have hvct : v.ct = openCycle p s.cau.cycle s.ct := by rw [hv, ← hct, setGreens_ct, clearLines_ct]; simp
  have hopened : gatingWrap c p v = wrapOpened c p m s.ct u := by
    rw [gatingWrap_eq (by rw [hvct]; exact Nat.lt_of_lt_of_le (Nat.succ_pos 49) hgate), hv, wrapOpened]
    simp only [appendRecord_eq]
    rfl
  have hwct : (wrapOpened c p m s.ct u).ct = openCycle p s.cau.cycle s.ct := (appendRecord_ct ..).trans hct
  have hreached : markReached (wrapOpened c p m s.ct u).ct = opensDue p s.cau.cycle := funext fun j =>
    markReached_opening (by rw [hwct]; rfl) (by rw [hwct]; rfl) j
  have hstretch : markReached (wrapOpened c p m s.ct u).ct p.stretch = false := by
    rw [hreached]
    exact stretch_waits hp hcycle
  rw [hwrap, hopened, takeReachedDeciding_eq (.inl hstretch), hreached]

end Sys2Proof.Machine

/-! ## What a wrap makes of a lawful unit (O25 to O28) -/

namespace Sys2Proof.Machine

/-! ### STORAGE requests leave the rest of the Link Controller -/

/-- What of the Link Controller no STORAGE request touches. -/
def LC.apart (l : LC) : Option Nat × Option Nat × LineState × Option DepartReason × Bool × Option Attempt :=
  (l.beaconTimer, l.silenceTimer, l.line, l.depart, l.beacon, l.attempt)

theorem fillStorage_apart (l : LC) : (fillStorage l).apart = l.apart := by
  cases h : l.storage with
  | true => rw [fillStorage_held h]; rfl
  | false => rw [fillStorage_empty h, deferWhenIdle_rest]; rfl

theorem storageRequests_apart (i o : Bool) (l : LC) : (storageRequests i o l).apart = l.apart := by
  unfold storageRequests
  cases i <;> cases o <;> simp [fillStorage_apart]

/-! ### The wrap of a lawful unit -/

theorem config_checked {s : State} (h : s.SetupObeys) {c : Configuration} (hc : s.config = some c) : c.Checked := by
  rw [State.SetupObeys, hc] at h
  exact h.1

theorem cycle_inLimits {s : State} (h : s.CycleObeys) {p : Plan} (hp : s.planInForce = some p) :
    p.cMin ≤ s.cau.cycle ∧ s.cau.cycle ≤ p.cMax ∧ s.cau.cycle % 20 = 0 := by
  rw [State.CycleObeys, hp] at h
  exact h

/-- The detectors' state before the closing, with the clock in the next cycle. -/
def countsClosedAt (c : Configuration) (p : Plan) (s : State) : State :=
  countsClosed c { s with ct := openCycle p s.cau.cycle s.ct }

section
variable {s : State} {c : Configuration} {p : Plan} {m : ChargeMode}

/-- A wrap closes the finished cycle, with the lines that become STUCK_OFF, and opens the next one. -/
theorem wrap_lawful (hs : s.Lawful) (hpow : s.powered = true) (hset : s.setup = some (c, p))
    (hm : s.mc.mode = .inCharge m) (hext : s.ct.extension ≠ .running) (hend : s.ct.cRun ≤ s.ct.position + 1) :
    c.Checked ∧ p.Checked ∧ ∃ u, FaultsEntered c (stuckOffLines c s) (countsClosedAt c p s) u
      ∧ exec .wrap s
        = .next (duesTaken c p (opensDue p s.cau.cycle) (wrapOpened c p m s.ct (judgedBoth c p u))) := by
  obtain ⟨-, hc, hp, -⟩ := setup_some hset
  have hchecked := config_checked hs.setup hc
  have hin : s.inCharge = true := by rw [State.inCharge, hm]; rfl
  have hrun := hs.charge.1 hin
  have hplan := plan_checked hset hchecked
  obtain ⟨u, hu, hclose⟩ := closeCycle_faults hchecked p (s := { s with ct := openCycle p s.cau.cycle s.ct }) hin
  refine ⟨hchecked, hplan, u, hu, exec_of_worked hpow ?_⟩
  have hwraps : worked .wrap s = doWrap s := if_pos (wrapDue_iff.mpr ⟨hrun, hext, hend⟩)
  rw [hwraps, doWrap_eq hset hm hplan (cycle_inLimits hs.cycle hp).1 hclose.symm]

/-! ### What the closing leaves -/

variable {u : State} {ks : List Num8}

theorem FaultsEntered.mc (h : FaultsEntered c ks (countsClosedAt c p s) u) : u.mc = s.mc :=
  (congrArg State.mc h.rest :)
theorem FaultsEntered.nt (h : FaultsEntered c ks (countsClosedAt c p s) u) : u.nt = s.nt :=
  (congrArg State.nt h.rest :)
theorem FaultsEntered.cl (h : FaultsEntered c ks (countsClosedAt c p s) u) : u.cl = s.cl :=
  (congrArg State.cl h.rest :)
theorem FaultsEntered.cau (h : FaultsEntered c ks (countsClosedAt c p s) u) : u.cau = s.cau :=
  (congrArg State.cau h.rest :)
theorem FaultsEntered.pa (h : FaultsEntered c ks (countsClosedAt c p s) u) : u.pa = s.pa :=
  (congrArg State.pa h.rest :)
theorem FaultsEntered.gt (h : FaultsEntered c ks (countsClosedAt c p s) u) : u.gt = s.gt :=
  (congrArg State.gt h.rest :)
theorem FaultsEntered.olu (h : FaultsEntered c ks (countsClosedAt c p s) u) : u.olu = s.olu :=
  (congrArg State.olu h.rest :)
theorem FaultsEntered.ct (h : FaultsEntered c ks (countsClosedAt c p s) u) :
    u.ct = openCycle p s.cau.cycle s.ct :=
  (congrArg State.ct h.rest :)
theorem FaultsEntered.closed (h : FaultsEntered c ks (countsClosedAt c p s) u) :
    u.di.closed = (countsClosedAt c p s).di.closed :=
  (congrArg (fun v : State => v.di.closed) h.rest :)
theorem FaultsEntered.port (h : FaultsEntered c ks (countsClosedAt c p s) u) :
    { u.cp with flags := s.cp.flags } = s.cp :=
  (congrArg State.cp h.rest :)

theorem FaultsEntered.link (h : FaultsEntered c ks (countsClosedAt c p s) u) :
    u.lc.beaconTimer = s.lc.beaconTimer ∧ u.lc.silenceTimer = s.lc.silenceTimer ∧ u.lc.line = s.lc.line
      ∧ u.lc.depart = s.lc.depart ∧ u.lc.beacon = s.lc.beacon ∧ u.lc.attempt = s.lc.attempt := by
  have hapart : u.lc.apart = s.lc.apart := (congrArg LC.apart h.request).trans (storageRequests_apart ..)
  simpa [LC.apart] using hapart

theorem snapshotDirection_eq {q : Plan}
    (h : match s.mc.pendingPlan with | some k => c.plans.get k = some q | none => q = p) :
    snapshotDirection c p s.mc.pendingPlan = q.direction := by
  cases hk : s.mc.pendingPlan with
  | none =>
    simp only [hk] at h
    rw [snapshotDirection, h]
  | some k =>
    simp only [hk] at h
    simp only [snapshotDirection, h]

end

/-! ### The detector lines and the storage states after the closing -/

section
variable {s u : State} {c : Configuration} {p : Plan}

theorem closedLine_counting {set : DetectorSetting} {l : DetectorLine} (h : roleCounts set.role = true) :
    (if becomesStuckOff set l then { closeLine set l with fault := .stuckOff } else closeLine set l)
      = { l with zeroRun := nextZeroRun l
                 fault := if l.fault = .good ∧ set.stuckOff ≤ nextZeroRun l then .stuckOff else l.fault
                 counts := .zero
                 held := if (if l.fault = .good ∧ set.stuckOff ≤ nextZeroRun l then FaultState.stuckOff else l.fault)
                   = .good then l.counts else l.held } := by
  have hstuck : becomesStuckOff set l = decide (l.fault = .good ∧ set.stuckOff ≤ nextZeroRun l) := by
    rw [Bool.eq_iff_iff, becomesStuckOff_iff, decide_eq_true_iff]
    exact and_iff_right h
  rw [closeLine, if_pos h, hstuck]
  by_cases hdue : l.fault = .good ∧ set.stuckOff ≤ nextZeroRun l
  · simp [hdue]
  · simp [hdue]

theorem closedLine_other {set : DetectorSetting} {l : DetectorLine} (h : roleCounts set.role = false) :
    (if becomesStuckOff set l then { closeLine set l with fault := .stuckOff } else closeLine set l)
      = { l with counts := .zero } := by
  have hstuck : ¬ becomesStuckOff set l = true := fun hn => by
    rw [(becomesStuckOff_iff.mp hn).1] at h
    cases h
  have hcounts : ¬ roleCounts set.role = true := Bool.eq_false_iff.mp h
  rw [if_neg hstuck, closeLine, if_neg hcounts]

theorem FaultsEntered.closedLine (h : FaultsEntered c (stuckOffLines c s) (countsClosedAt c p s) u) (k : Num8) :
    u.di.lines.get k = if becomesStuckOff (c.detectors.get k) (s.di.lines.get k)
      then { closeLine (c.detectors.get k) (s.di.lines.get k) with fault := .stuckOff }
      else closeLine (c.detectors.get k) (s.di.lines.get k) := by
  have hline : (countsClosedAt c p s).di.lines.get k = closeLine (c.detectors.get k) (s.di.lines.get k) :=
    Eight.get_mapNum ..
  rw [h.line, hline]
  simp only [mem_stuckOffLines]

theorem closeLine_fault (set : DetectorSetting) (l : DetectorLine) : (closeLine set l).fault = l.fault := by
  unfold closeLine
  split <;> rfl

theorem FaultsEntered.fault (h : FaultsEntered c (stuckOffLines c s) (countsClosedAt c p s) u) (k : Num8) :
    (u.di.lines.get k).fault = if k ∈ stuckOffLines c s then .stuckOff else (s.di.lines.get k).fault := by
  rw [h.closedLine]
  simp only [mem_stuckOffLines]
  split
  · rfl
  · exact closeLine_fault ..

theorem FaultsEntered.held (h : FaultsEntered c (stuckOffLines c s) (countsClosedAt c p s) u) (k : Num8) :
    (u.di.lines.get k).held = ((countsClosedAt c p s).di.lines.get k).held := by
  rw [h.line]
  split <;> rfl

theorem FaultsEntered.sum (h : FaultsEntered c (stuckOffLines c s) (countsClosedAt c p s) u) (role : Role)
    (f : Counts → Nat) : sumHeld c (countsClosedAt c p s).di.lines role f
      = min ((Num8.all.map (fun k => if c.role k = role then f (u.di.lines.get k).held else 0)).sum) 255 := by
  rw [sumHeld_eq]
  simp only [h.held]

theorem stuckOff_good {k : Num8} (h : k ∈ stuckOffLines c s) : (s.di.lines.get k).fault = .good :=
  (becomesStuckOff_iff.mp (mem_stuckOffLines.mp h)).2.1

/-- The lines that become STUCK_OFF are those that are good before the wrap and STUCK_OFF after it. -/
theorem FaultsEntered.failed (h : FaultsEntered c (stuckOffLines c s) (countsClosedAt c p s) u) :
    Num8.all.filter (fun k => decide ((s.di.lines.get k).fault = .good ∧ (u.di.lines.get k).fault = .stuckOff))
      = stuckOffLines c s := by
  refine List.filter_congr fun k _ => ?_
  rw [h.fault, Bool.eq_iff_iff, decide_eq_true_iff, ← mem_stuckOffLines]
  constructor
  · rintro ⟨hgood, hfault⟩
    by_contra hno
    rw [if_neg hno, hgood] at hfault
    cases hfault
  · intro hstuck
    exact ⟨stuckOff_good hstuck, if_pos hstuck⟩

/-- A direction none of whose advance lines becomes STUCK_OFF keeps its storage state until it is judged. -/
theorem FaultsEntered.storage_kept (h : FaultsEntered c (stuckOffLines c s) (countsClosedAt c p s) u) {d : Direction}
    (hd : ∀ k ∈ stuckOffLines c s, c.role k ≠ advanceRole d) : u.di.storage.get d = s.di.storage.get d := by
  have hno : (stuckOffLines c s).any (fun k => decide (c.role k = advanceRole d)) = false :=
    List.any_eq_false.mpr fun k hk => by simpa using hd k hk
  rw [h.storage, hno]
  rfl

theorem FaultsEntered.storage_unknown (h : FaultsEntered c (stuckOffLines c s) (countsClosedAt c p s) u) {d : Direction}
    {k : Num8} (hk : k ∈ stuckOffLines c s) (hd : c.role k = advanceRole d) : u.di.storage.get d = .unknown := by
  have hyes : (stuckOffLines c s).any (fun k => decide (c.role k = advanceRole d)) = true :=
    List.any_eq_true.mpr ⟨k, hk, decide_eq_true hd⟩
  rw [h.storage, hyes]
  rfl

end

theorem judgedStorage_faulty {c : Configuration} {p : Plan} {u : State} {d : Direction}
    (h : ∀ k, c.advanceLine d = some k → (u.di.lines.get k).fault ≠ .good) :
    judgedStorage c p u d = u.di.storage.get d := by
  cases hk : c.advanceLine d with
  | none => simp only [judgedStorage, hk]
  | some k => simp only [judgedStorage, hk, h k hk, false_and, if_false]

theorem judgedStorage_good {c : Configuration} {p : Plan} {u : State} {d : Direction} {k : Num8}
    (hk : c.advanceLine d = some k) (hgood : (u.di.lines.get k).fault = .good) :
    judgedStorage c p u d = if u.di.storage.get d = .full then .full
      else if 3 * p.capacity.get d ≤ 4 * u.di.closed.onRed.get d then .filling else .clear := by
  simp only [judgedStorage, hk, hgood, true_and]
  by_cases hfull : u.di.storage.get d = .full
  · rw [if_pos hfull, if_neg (not_not_intro hfull), hfull]
  · rw [if_neg hfull, if_pos hfull]

/-- Settles O25: the blocks as the wrap opens them, and the snapshot. -/
theorem wrapOpensNextCycle : Obligations.WrapOpensNextCycle := by
  refine ⟨fun s c p m hs hpow hset hm hext hend => ?_, fun s c p q m hs hpow hset hm hext hend hq => ?_⟩
  · obtain ⟨-, -, u, hu, hexec⟩ := wrap_lawful hs hpow hset hm hext hend
    obtain ⟨w, hw⟩ : ∃ w, w = wrapOpened c p m s.ct (judgedBoth c p u) := ⟨_, rfl⟩
    rw [← hw] at hexec
    have hct : w.ct = openCycle p s.cau.cycle s.ct := by rw [hw]; exact (appendRecord_ct ..).trans hu.ct
    have hrun := hs.charge.1 (by rw [State.inCharge, hm]; rfl)
    refine ⟨_, hexec, ?_, ?_, fun d => ?_, fun k => ?_, fun d => ?_, ?_, ?_, ?_, ?_⟩
    · have hmarks := duesTaken_opening (c := c) (p := p) (n := s.cau.cycle) (s := w) (by rw [hct]; rfl)
      calc (duesTaken c p (opensDue p s.cau.cycle) w).ct
          = { w.ct with marks := (duesTaken c p (opensDue p s.cau.cycle) w).ct.marks } := rfl
        _ = _ := by rw [hmarks, hct, openCycle, hrun]
    · have hpa : w.pa = priorityWrap s.pa := by rw [hw, ← hu.pa]; rfl
      exact hpa
    · have hgt : w.gt = ⟨wrappedGate p s.gt.inbound, wrappedGate p s.gt.outbound⟩ := by rw [hw, ← hu.gt]; rfl
      calc (duesTaken c p (opensDue p s.cau.cycle) w).gt.get d = w.gt.get d := rfl
        _ = wrappedGate p (s.gt.get d) := by rw [hgt]; cases d <;> rfl
    · have holu : w.olu.get k = { s.olu.get k with drive := false } := by
        rw [hw, ← hu.olu]
        exact Eight.get_mapNum ..
      rw [duesTaken_openingDrive k (by rw [holu]), holu]
    · exact duesTaken_openingGreen (by rw [hw]; rfl) d
    · have hmc : w.mc = { s.mc with pendingTaken := false } := by rw [hw, ← hu.mc]; rfl
      exact hmc
    · have hnt : w.nt = s.nt := by rw [hw]; exact (appendRecord_nt ..).trans hu.nt
      exact hnt
    · have hcl : w.cl = s.cl := by rw [hw]; exact (appendRecord_cl ..).trans hu.cl
      exact hcl
    · have hlc : w.lc = u.lc := by rw [hw]; exact appendRecord_lc ..
      have hlink := hu.link
      rw [← hlc] at hlink
      exact hlink
  · obtain ⟨-, -, u, hu, hexec⟩ := wrap_lawful hs hpow hset hm hext hend
    refine ⟨_, hexec, takeSnapshot c p m s.ct.cRun s.ct.wrapCount (judgedBoth c p u), ?_, ?_⟩
    · rw [← hu.cau]
      rfl
    · rw [← snapshotDirection_eq hq, ← hu.mc, ← hu.nt, ← hu.cau]
      rfl

/-- Settles O26: the lines, the closed record, the judgement and the requests. -/
theorem wrapClosesCounts : Obligations.WrapClosesCounts := by
  intro s c p m hs hpow hset hm hext hend
  obtain ⟨hc, -, u, hu, hexec⟩ := wrap_lawful hs hpow hset hm hext hend
  obtain ⟨t, ht⟩ : ∃ t, t = duesTaken c p (opensDue p s.cau.cycle) (wrapOpened c p m s.ct (judgedBoth c p u)) := ⟨_, rfl⟩
  have hlines : t.di.lines = u.di.lines := by rw [ht]; rfl
  have hclosed : t.di.closed = u.di.closed := by rw [ht]; rfl
  have hstorage : ∀ d, t.di.storage.get d = judgedStorage c p u d := fun d => by rw [ht]; cases d <;> rfl
  have hlc : t.lc = u.lc := by rw [ht]; exact appendRecord_lc ..
  have hrecord : u.di.closed = makeClosed c (countsClosedAt c p s).di.lines := hu.closed
  obtain ⟨aged, hcounters⟩ : ∃ aged, t.counters = u.counters.bumps .logTimeout aged := by
    rw [ht]
    exact appendRecord_counters ..
  have hflags : flagIn .detectorFault t.cp.flags = flagIn .detectorFault u.cp.flags := by
    rw [ht]
    exact appendRecord_flag (by decide) ..
  refine ⟨t, ht ▸ hexec, fun k l run fault hl hcounts hrun hfault => ?_, fun k hcounts => ?_, fun role f n hn => ?_,
    fun d k hk hgood => ?_, fun d k hk hstuck hgood => ?_, fun d hd => ?_, fun failed hf => ⟨fun hlimit => ?_, ?_⟩, ?_⟩
  · subst hl hrun hfault
    rw [hlines, hu.closedLine]
    exact closedLine_counting hcounts
  · rw [hlines, hu.closedLine]
    exact closedLine_other hcounts
  · have hsum : n = sumHeld c (countsClosedAt c p s).di.lines role f := by rw [hn, hlines, hu.sum]
    rw [hsum, hclosed, hrecord]
    refine ⟨?_, ?_, ?_, ?_, ?_, ?_, ?_⟩ <;>
      · rintro rfl rfl
        rfl
  · have hadv := (advanceLine_eq hc).mpr hk
    rw [hlines] at hgood
    have hfree : ∀ j ∈ stuckOffLines c s, c.role j ≠ advanceRole d := fun j hj hrole => by
      rw [hu.fault, ← hc.oneAdvance d j k hrole hk, if_pos hj] at hgood
      cases hgood
    rw [hstorage, judgedStorage_good hadv hgood, hu.storage_kept hfree, hclosed]
  · have hmem : k ∈ stuckOffLines c s := by
      by_contra hno
      rw [hlines, hu.fault, if_neg hno, hgood] at hstuck
      cases hstuck
    rw [hstorage, judgedStorage_faulty fun j hj => ?_, hu.storage_unknown hmem hk]
    rw [hc.oneAdvance d j k ((advanceLine_eq hc).mp hj) hk, ← hlines, hstuck]
    exact nofun
  · have hfree : ∀ j ∈ stuckOffLines c s, c.role j ≠ advanceRole d := fun j hj hrole => hd j hrole (stuckOff_good hj)
    rw [hstorage, judgedStorage_faulty fun j hj => ?_, hu.storage_kept hfree]
    have hrole := (advanceLine_eq hc).mp hj
    rw [hu.fault, if_neg fun hmem => hfree j hmem hrole]
    exact hd j hrole
  · rw [hlines, hu.failed] at hf
    have hother := Counters.value_bumps_other (c := .logTimeout) (i := .detectorFault) (by decide) aged u.counters
    rw [← hcounters, hu.counters, Counters.value_bumps (by exact hlimit)] at hother
    rw [hf]
    exact hother
  · rw [hlines, hu.failed] at hf
    rw [hflags, hu.flag, hf]
    simp only [true_and]
    rfl
  · refine storageRequests_requested (moved := movesFull (countsClosedAt c p s) u) (fun d => ?_) (hlc.trans hu.request)
    rw [movesFull_false, hstorage, ← judgedStorage_full]
    rfl

/-- Settles O27: the record is made of the state as the closing leaves it. -/
theorem wrapMakesLogRecord : Obligations.WrapMakesLogRecord := by
  intro s c p m hs hpow hset hm hext hend
  obtain ⟨-, -, u, hu, hexec⟩ := wrap_lawful hs hpow hset hm hext hend
  obtain ⟨v, hv⟩ : ∃ v, v = judgedBoth c p u := ⟨_, rfl⟩
  rw [← hv] at hexec
  obtain ⟨w, hw⟩ : ∃ w, w = appendRecord c (makeRecord p s.ct v) v := ⟨_, rfl⟩
  have hport : { v.cp with flags := s.cp.flags } = s.cp := by
    rw [hv]
    exact hu.port
  have hlog : v.cp.log = s.cp.log := (congrArg CP.log hport :)
  have hcounters : v.counters.value .logTimeout = s.counters.logTimeout := by
    rw [hv]
    exact (congrArg (fun n : Counters => n.value .logTimeout) hu.counters).trans
      (Counters.value_bumps_other (by decide) _ _)
  have hflags : flagIn .logTimeout v.cp.flags = flagIn .logTimeout s.cp.flags := by
    rw [hv]
    exact (hu.flag .logTimeout).trans (by simp [countsClosedAt, countsClosed])
  have hrecord : makeRecord p s.ct v
      = { wrapCount := s.ct.wrapCount, plan := s.mc.plan, direction := some p.direction, mode := s.mc.mode
          cycle := s.cau.cycle, running := s.ct.cRun
          adjustment := if s.ct.completionSeen then s.ct.adjustment else 0
          error := if s.ct.completionSeen then s.cp.logError else none
          reference := if s.ct.completionSeen then s.cp.logReference else none
          closed := v.di.closed, storage := v.di.storage
          gating := ⟨s.gt.inbound.marks, s.gt.outbound.marks⟩, grant := s.pa.cycleGrant, triple := s.cau.triple } := by
    rw [← hport, ← hu.mc, ← hu.cau, ← hu.gt, ← hu.pa, hv]
    rfl
  have happ := appendRecord_eq c (makeRecord p s.ct v) v
  rw [hlog, ← hw] at happ
  obtain ⟨t, ht⟩ : ∃ t, t = duesTaken c p (opensDue p s.cau.cycle) (wrapOpened c p m s.ct v) := ⟨_, rfl⟩
  have hcp : t.cp = w.cp := by rw [ht, hw]; rfl
  have hdi : t.di.closed = v.di.closed ∧ t.di.storage = v.di.storage := by rw [ht]; exact ⟨rfl, rfl⟩
  refine ⟨t, ht ▸ hexec, ?_, fun hlimit => ?_, ?_, ?_⟩
  · have hwlog : w.cp.log = s.cp.log.filter (fun q => !agedOut c.retention s.ct.wrapCount q) ++ [makeRecord p s.ct v] :=
      (congrArg (fun v : State => v.cp.log) happ :)
    rw [hcp, hwlog, hrecord, hdi.1, hdi.2]
    simp only [not_agedOut]
  · have hwcounters : t.counters.value .logTimeout = w.counters.value .logTimeout := by rw [ht, hw]; rfl
    have hw' : w.counters = _ := congrArg State.counters happ
    rw [hw', Counters.value_bumps (by rw [hcounters]; exact hlimit), hcounters] at hwcounters
    exact hwcounters
  · have hwflags : w.cp.flags = _ := congrArg (fun v : State => v.cp.flags) happ
    rw [hcp, hwflags, ← hflags]
    cases hany : s.cp.log.any (fun q => decide (c.retention ≤ (s.ct.wrapCount - q.wrapCount).toNat)) with
    | false =>
      have hnil : s.cp.log.filter (agedOut c.retention s.ct.wrapCount) = [] :=
        List.filter_eq_nil_iff.mpr fun q hq => List.any_eq_false.mp hany q hq
      exact (congrArg (flagIn .logTimeout) (if_pos hnil)).trans (Bool.or_false _).symm
    | true =>
      obtain ⟨q, hq, hage⟩ := List.any_eq_true.mp hany
      have hsome : s.cp.log.filter (agedOut c.retention s.ct.wrapCount) ≠ [] :=
        List.ne_nil_of_mem (List.mem_filter.mpr ⟨hq, hage⟩)
      exact (congrArg (flagIn .logTimeout) (if_neg hsome)).trans ((flagIn_setFlag ..).trans (by simp))
  · have hkept : w.cp.mask = v.cp.mask ∧ w.cp.inHand = v.cp.inHand ∧ w.cp.receiver = v.cp.receiver := by
      rw [happ]
      exact ⟨rfl, rfl, rfl⟩
    rw [hcp, ← hport]
    exact hkept

/-! ### The log's order -/

theorem enterFault_log (c : Configuration) (k : Num8) (v : FaultState) (s : State) :
    (enterFault c k v s).cp.log = s.cp.log := by
  cases hadv : roleAdvance (c.role k) with
  | none => rw [enterFault_other (roleAdvance_none_iff.mp hadv)]
  | some d => rw [enterFault_advance (roleAdvance_iff.mp hadv)]

theorem closeCycle_log (c : Configuration) (p : Plan) (s : State) : (closeCycle c p s).cp.log = s.cp.log := by
  have hfold : ∀ (old : Eight DetectorLine) (l : List Num8) (u : State), (l.foldl (fun s k =>
      if becomesStuckOff (c.detectors.get k) (old.get k) then enterFault c k .stuckOff s else s) u).cp.log
      = u.cp.log := by
    intro old l
    induction l with
    | nil => exact fun u => rfl
    | cons k l ih =>
      intro u
      rw [List.foldl_cons, ih]
      split
      · exact enterFault_log ..
      · rfl
  rw [closeCycle, judgeStorage_cp, judgeStorage_cp]
  exact hfold ..

/-- A wrap makes its record, or does nothing to the log. -/
theorem clockWraps_log (s : State) : (clockWraps s).cp.log = s.cp.log
    ∨ ∃ c r, s.config = some c ∧ r.wrapCount = s.ct.wrapCount
      ∧ (clockWraps s).cp.log = s.cp.log.filter (fun q => !agedOut c.retention s.ct.wrapCount q) ++ [r] := by
  unfold clockWraps
  split
  · unfold doWrap
    split
    · next c p m hset _ =>
      refine .inr ⟨c, makeRecord p s.ct (closeCycle c p { s with ct := openCycle p s.cau.cycle s.ct }),
        (setup_some hset).2.1, rfl, ?_⟩
      simp only [takeReachedDeciding_cp, gatingWrap_cp, setGreens_cp, clearLines_cp, startComputation_cp, appendRecord_eq,
        closeCycle_log, makeRecord]
    · exact .inl rfl
  · exact .inl rfl

theorem append_ordered {n : Word16} {k : Nat} {l : List LogRecord} {r : LogRecord} (hl : LogOrdered n l)
    (hnot : ∀ q ∈ l, q.wrapCount ≠ n) (hr : r.wrapCount = n) (hk : 0 < k) :
    LogOrdered n (l.filter (fun q => !agedOut k n q) ++ [r])
      ∧ (l.filter (fun q => !agedOut k n q) ++ [r]).length ≤ k := by
  have hage : (n - r.wrapCount).toNat = 0 := by rw [hr, BitVec.sub_self]; rfl
  have hordered : LogOrdered n (l.filter (fun q => !agedOut k n q) ++ [r]) := by
    refine List.pairwise_append.mpr ⟨hl.filter _, List.pairwise_singleton .., fun q hq x hx => ?_⟩
    rw [List.mem_singleton.mp hx, hage]
    refine Nat.pos_of_ne_zero fun hzero => hnot q (List.mem_filter.mp hq).1 ?_
    have hsame : n - q.wrapCount = 0#16 := BitVec.eq_of_toNat_eq hzero
    rw [BitVec.sub_eq_iff_eq_add, BitVec.zero_add] at hsame
    exact hsame.symm
  refine ⟨hordered, ?_⟩
  have hfalls : ((l.filter (fun q => !agedOut k n q) ++ [r]).map fun q => (n - q.wrapCount).toNat).Pairwise
      fun a b => b < a := List.pairwise_map.mpr hordered
  refine (List.length_map _).symm.trans_le (length_le_of_falling hfalls fun x hx => ?_)
  · obtain ⟨q, hq, rfl⟩ := List.mem_map.mp hx
    rcases List.mem_append.mp hq with hq | hq
    · have hyoung := (List.mem_filter.mp hq).2
      rw [not_agedOut] at hyoung
      exact of_decide_eq_true hyoung
    · rw [List.mem_singleton.mp hq, hage]
      exact hk

/-- Settles O28: the record of the finished cycle is the youngest. -/
theorem logStaysOrdered : Obligations.LogStaysOrdered := by
  intro s t c hcl hc hpow hordered hnot hlength hexec
  rw [exec_worked .wrap hpow] at hexec
  cases hexec
  rcases clockWraps_log s with hsame | ⟨c', r, hc', hr, hlog⟩
  · have hlog : (worked .wrap s).cp.log = s.cp.log := hsame
    rw [hlog]
    exact ⟨hordered, hlength⟩
  · obtain rfl : c = c' := Option.some.inj ((config_good hcl).symm.trans hc')
    have hlog : (worked .wrap s).cp.log = _ := hlog
    rw [hlog]
    exact append_ordered hordered hnot hr (by have := hc.retention; omega)

end Sys2Proof.Machine

/-! ## The completion of a computation (R52, R53, R74, R92, R93, R100, R102, R138, R148, R163) -/

namespace Sys2Proof.Machine

/-! ### Marks already reached (log entry 38) -/

section
variable {c : Configuration} {p : Plan} {s : State}

/-- The taking of the reached marks leaves none reached. -/
theorem takeReachedDeciding_noneReached (m : Num8) : markReached (takeReachedDeciding c p s).ct m = false := by
  have hdue : ∀ (due : Num8 → Bool) (u : State), (∀ j, markReached u.ct j = true → due j = true) →
      markReached (duesTaken c p due u).ct m = false := by
    intro due u h
    rw [Bool.eq_false_iff, ne_eq, markReached_iff, duesTaken_mark]
    cases hm : due m with
    | true => exact fun hn => nomatch hn.1
    | false =>
      refine fun hn => Bool.eq_false_iff.mp hm (h m (markReached_iff.mpr hn))
  unfold takeReachedDeciding
  split
  · cases hw : extensionWinner c p s with
    | none =>
      rw [reachStretch_refused hw]
      exact hdue _ _ fun j hj => hj
    | some r =>
      rw [reachStretch_granted hw]
      refine hdue _ _ fun j hj => ?_
      obtain ⟨hstate, hpos⟩ := markReached_iff.mp hj
      rw [Bool.and_eq_true, markReached_iff]
      simp only [grantExtension, count_ct, holdStretched, Eight.get_mapNum] at hstate hpos
      by_cases hst : p.stretches j = true <;> by_cases hw : (s.ct.marks.get j).state = .waiting <;> simp_all
  · rw [takeReached_eq]
    exact hdue _ _ fun j hj => hj

theorem takeReachedDeciding_quiet (h : ∀ m, markReached s.ct m = false) : takeReachedDeciding c p s = s := by
  rw [takeReachedDeciding_eq (.inl (h _)), duesTaken_none c p h]

theorem takeReachedDeciding_again : takeReachedDeciding c p (takeReachedDeciding c p s) = takeReachedDeciding c p s :=
  takeReachedDeciding_quiet takeReachedDeciding_noneReached

theorem stretches_stretch (hp : p.Checked) : p.stretches p.stretch = true :=
  stretches_iff.mpr ⟨usesMark_iff.mp hp.stretch, le_rfl⟩

/-- The marks once the WAITING stretched ones are HELD are the same whether a mark that is not stretched has come due
before or after. -/
theorem grantExtension_duesTaken {due : Num8 → Bool} (h : ∀ m, due m = true → p.stretches m = false) (r : Request) :
    grantExtension p r (duesTaken c p due s) = duesTaken c p due (grantExtension p r s) := by
  have hmarks : (grantExtension p r (duesTaken c p due s)).ct.marks
      = (duesTaken c p due (grantExtension p r s)).ct.marks := by
    refine Eight.ext_get fun m => ?_
    simp only [grantExtension, count_ct, holdStretched, Eight.get_mapNum, duesTaken_mark]
    cases hm : due m with
    | true => simp [h m hm]
    | false => simp
  calc grantExtension p r (duesTaken c p due s)
      = { duesTaken c p due (grantExtension p r s) with
          ct := { (grantExtension p r s).ct with marks := (grantExtension p r (duesTaken c p due s)).ct.marks } } := rfl
    _ = _ := by rw [hmarks]; rfl

/-- The due of a reached mark that is not decided with the stretch mark comes to the same before the taking of all. -/
theorem takeReachedDeciding_afterDue (hp : p.Checked) {m : Num8} (hm : markReached s.ct m = true)
    (hnot : ¬ (p.stretches m = true ∧ markReached s.ct p.stretch = true)) :
    takeReachedDeciding c p (takeDue c p m s) = takeReachedDeciding c p s := by
  have hreached : ∀ j, markReached (duesTaken c p (fun j => decide (j = m)) s).ct j
      = (markReached s.ct j && !decide (j = m)) := by
    intro j
    rw [Bool.eq_iff_iff, Bool.and_eq_true, markReached_iff, markReached_iff, duesTaken_mark]
    by_cases hj : j = m <;> simp [hj, duesTaken]
  have htogether : (fun j => decide (j = m) || (markReached s.ct j && !decide (j = m))) = markReached s.ct := by
    funext j
    by_cases hj : j = m
    · simp [hj, hm]
    · simp [hj]
  rw [takeDue_eq]
  by_cases hst : markReached s.ct p.stretch = true
  · have hfree : p.stretches m = false := Bool.eq_false_iff.mpr fun h => hnot ⟨h, hst⟩
    have hne : p.stretch ≠ m := fun h => by
      rw [← h, stretches_stretch hp] at hfree
      cases hfree
    have hst' : markReached (duesTaken c p (fun j => decide (j = m)) s).ct p.stretch = true := by
      rw [hreached, hst, decide_eq_false hne]
      rfl
    unfold takeReachedDeciding
    rw [if_pos hst, if_pos hst']
    cases hw : extensionWinner c p s with
    | none =>
      have hw' : extensionWinner c p (duesTaken c p (fun j => decide (j = m)) s) = none := hw
      rw [reachStretch_refused hw', reachStretch_refused hw, duesTaken_duesTaken]
      simp only [hreached, htogether]
    | some r =>
      have hw' : extensionWinner c p (duesTaken c p (fun j => decide (j = m)) s) = some r := hw
      rw [reachStretch_granted hw', reachStretch_granted hw, grantExtension_duesTaken (fun j hj => by
        rw [of_decide_eq_true hj]; exact hfree), duesTaken_duesTaken]
      refine congrArg (duesTaken c p · (grantExtension p r s)) (funext fun j => ?_)
      rw [hreached]
      by_cases hj : j = m
      · simp [hj, hm, hfree]
      · simp [hj]
  · have hst' := Bool.eq_false_iff.mpr hst
    rw [takeReachedDeciding_eq (.inl hst'), takeReachedDeciding_eq (.inl (by rw [hreached, hst']; rfl)),
      duesTaken_duesTaken]
    simp only [hreached, htogether]

theorem takeStepDues_eq (hset : s.setup = some (c, p)) :
    takeStepDues s = if s.ct.earlyGreen then s else takeReachedDeciding c p s := by
  simp only [takeStepDues, hset]

/-- A MARK_DUE changes nothing that the taking of the reached marks would not. -/
theorem takeStepDues_afterMark (hc : s.SetupObeys) (m : Num8) :
    takeStepDues (markComesDue m s) = takeStepDues s ∧ (markComesDue m s).cau = s.cau
      ∧ (markComesDue m s).ct.running = s.ct.running ∧ (markComesDue m s).ct.position = s.ct.position := by
  by_cases hdue : s.ct.running = true ∧ s.ct.earlyGreen = false ∧ markReached s.ct m = true
  · obtain ⟨hrun, hearly, hm⟩ := hdue
    cases hset : s.setup with
    | none =>
      have hsame : markComesDue m s = s := by simp only [markComesDue, hset]
      rw [hsame]
      exact ⟨rfl, rfl, rfl, rfl⟩
    | some cp =>
      obtain ⟨c, p⟩ := cp
      have hp := plan_checked hset (config_checked hc (setup_some hset).2.1)
      rw [markComesDue_due hset hrun hearly hm]
      have hother : ∀ u, u.setup = s.setup → u.ct.earlyGreen = false →
          takeReachedDeciding c p u = takeReachedDeciding c p s → takeStepDues u = takeStepDues s := by
        intro u hu huearly htaken
        rw [takeStepDues_eq (hu.trans hset), takeStepDues_eq hset, huearly, hearly]
        exact htaken
      split
      · next hdecided =>
        have hreach : reachStretch c p s = takeReachedDeciding c p s := (if_pos hdecided.2).symm
        rw [hreach]
        have hct : (takeReachedDeciding c p s).ct.earlyGreen = s.ct.earlyGreen
            ∧ (takeReachedDeciding c p s).ct.running = s.ct.running
            ∧ (takeReachedDeciding c p s).ct.position = s.ct.position := by
          rw [← hreach]
          cases hw : extensionWinner c p s with
          | none => rw [reachStretch_refused hw]; exact ⟨rfl, rfl, rfl⟩
          | some r => rw [reachStretch_granted hw]; exact ⟨rfl, rfl, rfl⟩
        refine ⟨hother _ ?_ (hct.1.trans hearly) takeReachedDeciding_again, by simp, hct.2⟩
        exact setup_eq (by simp) (by simp)
      · next hplain =>
        refine ⟨hother _ (setup_eq (by simp) (by simp)) ?_ (takeReachedDeciding_afterDue hp hm hplain), by simp, ?_⟩
        · rw [takeDue_eq]
          exact hearly
        · rw [takeDue_eq]
          exact ⟨rfl, rfl⟩
  · rw [markComesDue_early hdue]
    exact ⟨rfl, rfl, rfl, rfl⟩

/-- A MARK_DUE before the completion makes no difference to it. -/
theorem computationCompletes_afterMark (hc : s.SetupObeys) (m : Num8) :
    s.cau.snapshot.isSome = true → completionCanFall s = true →
      computationCompletes (markComesDue m s) = computationCompletes s := by
  intro hsome hfall
  obtain ⟨htaken, hcau, hrun, hpos⟩ := takeStepDues_afterMark hc m
  obtain ⟨n, hn⟩ := Option.isSome_iff_exists.mp hsome
  have hfall' : completionCanFall (markComesDue m s) = true := by
    rw [completionCanFall, hcau, hrun, hpos]
    exact hfall
  have hcompletes : ∀ u : State, u.cau.snapshot = some n → completionCanFall u = true →
      computationCompletes u = doCompletion n (takeStepDues u) := fun u hu hufall => by
    simp only [computationCompletes, hu]
    exact if_pos hufall
  rw [hcompletes _ (by rw [hcau, hn]) hfall', hcompletes s hn hfall, htaken]

end

end Sys2Proof.Machine

/-! ## What a completion makes of a lawful unit (O32) -/

namespace Sys2Proof.Machine

/-! ### The limits of the results -/

theorem adjustment_zero_range (p : Plan) (c : Nat) :
    -(shorteningLimit p c : Int) ≤ 0 ∧ (0 : Int) ≤ ((c / 5 : Nat) : Int) := by omega

/-- The adjustment a computation decides (R121 to R123). -/
theorem offsetStage_range (own : Nat) (p : Plan) (c : Nat) (n : Snapshot) :
    -(shorteningLimit p c : Int) ≤ (offsetStage own p c n).adjustment
      ∧ (offsetStage own p c n).adjustment ≤ ((c / 5 : Nat) : Int) := by
  cases hr : n.reference with
  | none =>
    simp only [offsetStage, hr]
    exact adjustment_zero_range p c
  | some e =>
    by_cases husable : referenceUsable p c n.finished e = true
    · rw [offsetStage_usable hr husable rfl]
      exact adjustmentFor_range ..
    · rw [offsetStage_unusable hr husable]
      exact adjustment_zero_range p c

theorem shorteningLimit_le (p : Plan) (c : Nat) : shorteningLimit p c ≤ c / 8 := Nat.min_le_left ..

theorem stepCycle_range {p : Plan} (hp : p.Checked) {c g : Nat} (hc : p.cMin ≤ c ∧ c ≤ p.cMax) :
    p.cMin ≤ stepCycle p c g ∧ stepCycle p c g ≤ p.cMax := by
  obtain ⟨hstep, -, -⟩ := hp.cStep
  rcases lt_trichotomy c g with h | rfl | h
  · rw [stepCycle_up h]; omega
  · rw [stepCycle_same]; exact hc
  · rw [stepCycle_down h]; omega

/-- The plan a completion applies is present, and C is within its limits once the working C is. -/
theorem compute_cycle_range {c : Configuration} {k : Num4} {q : Plan} {n : Snapshot} (hq : q.Checked)
    (hplain : n.pendingPlan = none → q.cMin ≤ n.cycle ∧ n.cycle ≤ q.cMax) :
    q.cMin ≤ (compute c k q n).cycle ∧ (compute c k q n).cycle ≤ q.cMax := by
  refine stepCycle_range hq ?_
  unfold workingCycle
  cases hn : n.pendingPlan with
  | none => exact hplain hn
  | some j => exact clampNat_mem _ (cMin_le_cMax_of_checked hq)

/-- The position of a mark that is shifted does not fall below Gmin. -/
theorem shiftedPosition_spec {q : Plan} (hq : q.Checked) {c : Nat} (hc : q.cMin ≤ c) {a : Int}
    (ha : -(shorteningLimit q c : Int) ≤ a) (x : Nat) {m : Num8} (hm : q.stretches m = true) :
    (shiftedPosition q c a x m : Int) = (q.scaled c m : Nat) + a + x ∧ q.gMin ≤ shiftedPosition q c a x m := by
  have hstretch := gMin_le_stretch hq hc ha
  have hbase : q.scaled c q.stretch ≤ q.scaled c m :=
    Nat.div_le_div_right (Nat.mul_le_mul_right _ (stretches_iff.mp hm).2)
  rw [shiftedPosition, if_pos hm]
  omega

/-! ### Requests that expire as a plan takes effect (R148) -/

theorem bumps_priorityExpired {n : Counters} (h : n.priorityExpired ≤ 65535) (k : Nat) :
    n.bumps .priorityExpired k = { n with priorityExpired := min (n.priorityExpired + k) 65535 } := by
  induction k with
  | zero =>
    rw [Nat.add_zero, Nat.min_eq_left h]
    rfl
  | succ k ih =>
    rw [Counters.bumps_succ, ih]
    have hmin : min (min (n.priorityExpired + k) 65535 + 1) 65535 = min (n.priorityExpired + (k + 1)) 65535 := by omega
    simp only [Counters.bump, countEvent, hmin]

theorem expire_foldl (aged : List Request) (s : State) : aged.foldl (fun s r => expireRequest r.line s) s = { s with
    pa := { s.pa with queue := s.pa.queue.filter fun w => !aged.any fun r => decide (w.line = r.line) }
    counters := s.counters.bumps .priorityExpired aged.length
    cp := { s.cp with flags := if aged = [] then s.cp.flags else s.cp.flags ||| Flag.priorityExpired.word } } := by
  induction aged using List.reverseRecOn with
  | nil => simp [Counters.bumps]
  | append_singleton aged r ih =>
    rw [List.foldl_append, ih]
    have hflags : (if aged = [] then s.cp.flags else s.cp.flags ||| Flag.priorityExpired.word)
        ||| Flag.priorityExpired.word = s.cp.flags ||| Flag.priorityExpired.word := by
      split
      · rfl
      · rw [BitVec.or_assoc, BitVec.or_self]
    have hcounters := Counters.bumps_succ .priorityExpired aged.length s.counters
    have hqueue : withoutLine r.line (s.pa.queue.filter fun w => !aged.any fun r => decide (w.line = r.line))
        = s.pa.queue.filter fun w => !(aged ++ [r]).any fun r => decide (w.line = r.line) := by
      rw [withoutLine, List.filter_filter]
      refine List.filter_congr fun w _ => ?_
      rw [List.any_append, Bool.not_or, Bool.and_comm]
      simp
    rw [if_neg (by simp : aged ++ [r] ≠ []), List.length_append, List.length_singleton, ← hqueue, hcounters]
    simp only [List.foldl_cons, List.foldl_nil, expireRequest, setFlag, count, hflags]

/-- The requests of lines that do not repeat: those at or above P_life expire. -/
theorem expireAged_eq {p : Plan} {s : State} (h : (s.pa.queue.map Request.line).Nodup) {aged : List Request}
    (haged : aged = s.pa.queue.filter fun w => decide (p.pLife ≤ w.age)) : expireAged p s = { s with
      pa := { s.pa with queue := s.pa.queue.filter fun w => decide (w.age < p.pLife) }
      counters := s.counters.bumps .priorityExpired aged.length
      cp := { s.cp with flags := if aged = [] then s.cp.flags else s.cp.flags ||| Flag.priorityExpired.word } } := by
  have hfold : expireAged p s = aged.foldl (fun s r => expireRequest r.line s) s := by
    rw [haged, List.foldl_filter]
    simp only [decide_eq_true_eq]
    rfl
  have hqueue : s.pa.queue.filter (fun w => !aged.any fun r => decide (w.line = r.line))
      = s.pa.queue.filter fun w => decide (w.age < p.pLife) := by
    refine List.filter_congr fun w hw => ?_
    rw [Bool.eq_iff_iff, Bool.not_eq_true', List.any_eq_false, decide_eq_true_iff, haged]
    constructor
    · intro hno
      by_contra hage
      exact hno w (List.mem_filter.mpr ⟨hw, decide_eq_true (Nat.not_lt.mp hage)⟩) (decide_eq_true rfl)
    · intro hage r hr hline
      obtain ⟨hmem, hlife⟩ := List.mem_filter.mp hr
      have hsame := List.inj_on_of_nodup_map h hw hmem (of_decide_eq_true hline)
      rw [← hsame] at hlife
      exact absurd (of_decide_eq_true hlife) (Nat.not_le.mpr hage)
  rw [hfold, expire_foldl, hqueue]

/-! ### A plan that a completion brings (R74, R93, R138) -/

/-- A direction's gating state once its gate point has been placed again. -/
def replacedGate (p : Plan) (g : Gate) : Gate :=
  if g.station.isSome = true ∧ g.reached = false then { g with point := some p.gateMin } else g

theorem replaceGate_early {c : Configuration} {p : Plan} {d : Direction} {s : State} (h : s.ct.position < p.gateMin) :
    replaceGate c p d s = { s with gt := s.gt.set d (replacedGate p (s.gt.get d)) } := by
  unfold replaceGate replacedGate
  split
  · rw [placeGate_later c p d s (Nat.not_le.mpr h), placedGate_early h]
    rfl
  · rw [set_get]

theorem planAtCompletion_eq {c : Configuration} {p : Plan} {s u : State} (h : s.ct.position < p.gateMin)
    (hin : s.inCharge = true) (hu : u = expireAged p s) : planAtCompletion c p s = { u with
      di := { s.di with storage := ⟨filledState c p u .inbound, filledState c p u .outbound⟩ }
      lc := storageRequests (fullDue c p .inbound u) (fullDue c p .outbound u) s.lc
      gt := ⟨replacedGate p s.gt.inbound, replacedGate p s.gt.outbound⟩ } := by
  have huin : u.inCharge = true := by
    rw [hu, State.inCharge, expireAged_mc]
    exact hin
  have hdi : u.di = s.di := by rw [hu, expireAged_di]
  have hlc : u.lc = s.lc := by rw [hu, expireAged_lc]
  have hgt : u.gt = s.gt := by rw [hu, expireAged_gt]
  have hct : u.ct.position < p.gateMin := by
    rw [hu, expireAged_ct]
    exact h
  have hfull := enterFullBoth_eq c p u
  obtain ⟨v, hv⟩ : ∃ v, v = enterFullWhenDue c p .outbound (enterFullWhenDue c p .inbound u) := ⟨_, rfl⟩
  rw [← hv, huin, hdi, hlc] at hfull
  have hplan : planAtCompletion c p s = replaceGate c p .outbound (replaceGate c p .inbound v) := by
    rw [hv, hu]
    rfl
  rw [hplan, replaceGate_early (d := .inbound) (by rw [hfull]; exact hct),
    replaceGate_early (d := .outbound) (by rw [hfull]; exact hct), hfull]
  simp only [hgt]
  rfl

end Sys2Proof.Machine

/-! ## The completion, block by block (O32) -/

namespace Sys2Proof.Machine

/-- What a plan that a completion brings leaves of the unit to which the results have been applied. -/
structure Brought (v w : State) : Prop where
  rest : { w with pa := v.pa, gt := v.gt, di := { w.di with storage := v.di.storage }, lc := v.lc,
                  counters := v.counters, cp := { w.cp with flags := v.cp.flags } } = v

theorem Brought.refl (v : State) : Brought v v := ⟨rfl⟩

theorem Brought.ct {v w : State} (h : Brought v w) : w.ct = v.ct := (congrArg State.ct h.rest :)
theorem Brought.cau {v w : State} (h : Brought v w) : w.cau = v.cau := (congrArg State.cau h.rest :)
theorem Brought.mc {v w : State} (h : Brought v w) : w.mc = v.mc := (congrArg State.mc h.rest :)
theorem Brought.nt {v w : State} (h : Brought v w) : w.nt = v.nt := (congrArg State.nt h.rest :)
theorem Brought.olu {v w : State} (h : Brought v w) : w.olu = v.olu := (congrArg State.olu h.rest :)
theorem Brought.cl {v w : State} (h : Brought v w) : w.cl = v.cl := (congrArg State.cl h.rest :)
theorem Brought.di {v w : State} (h : Brought v w) : { w.di with storage := v.di.storage } = v.di :=
  (congrArg State.di h.rest :)
theorem Brought.cp {v w : State} (h : Brought v w) : { w.cp with flags := v.cp.flags } = v.cp :=
  (congrArg State.cp h.rest :)

theorem expireAged_port (p : Plan) (s : State) : { (expireAged p s).cp with flags := s.cp.flags } = s.cp := by
  have hfold : expireAged p s = (s.pa.queue.filter fun w => decide (p.pLife ≤ w.age)).foldl
      (fun s r => expireRequest r.line s) s := by
    rw [List.foldl_filter]
    simp only [decide_eq_true_eq]
    rfl
  rw [hfold, expire_foldl]

theorem planAtCompletion_brought {c : Configuration} {p : Plan} {v : State} (h : v.ct.position < p.gateMin)
    (hin : v.inCharge = true) : Brought v (planAtCompletion c p v) := by
  obtain ⟨u, hu⟩ : ∃ u, u = expireAged p v := ⟨_, rfl⟩
  have hcp : { u.cp with flags := v.cp.flags } = v.cp := by rw [hu, expireAged_port]
  have hnt : u.nt = v.nt := by rw [hu, expireAged_nt]
  have hct : u.ct = v.ct := by rw [hu, expireAged_ct]
  have hcau : u.cau = v.cau := by rw [hu, expireAged_cau]
  have hmc : u.mc = v.mc := by rw [hu, expireAged_mc]
  have holu : u.olu = v.olu := by rw [hu, expireAged_olu]
  have hcl : u.cl = v.cl := by rw [hu, expireAged_cl]
  have hheld : u.resetHeld = v.resetHeld := by rw [hu, expireAged_resetHeld]
  have hsupply : u.supplyOut = v.supplyOut := by rw [hu, expireAged_supplyOut]
  have hcomp : u.computations = v.computations := by rw [hu, expireAged_computations]
  have hpend : u.pending = v.pending := by rw [hu, expireAged_pending]
  constructor
  rw [planAtCompletion_eq h hin hu]
  simp only [hcp, hnt, hct, hcau, hmc, holu, hcl, hheld, hsupply, hcomp, hpend]

/-! ### The marks after a completion -/

section
variable {q : Plan} {cycle : Nat} {a : Int} {t : CT}

theorem completedMark (m : Num8) : (applyToClock q cycle a t).marks.get m =
    if q.base m = 0 then ⟨0, .unused⟩
    else ⟨shiftedPosition q cycle a t.x m, markStateAfter q t.extension m (t.marks.get m).state⟩ := by
  rw [applyToClock, Eight.get_mapNum]
  by_cases h : q.base m = 0
  · rw [if_pos h, if_neg fun hu => usesMark_iff.mp hu h]
  · rw [if_neg h, if_pos (usesMark_iff.mpr h)]

theorem markStateAfter_due {e : ExtensionState} {m : Num8} {v : MarkState} (hm : q.base m ≠ 0) :
    markStateAfter q e m v = .due ↔ v = .due := by
  have hused : ¬ q.usesMark m = false := by simpa using usesMark_iff.mpr hm
  unfold markStateAfter
  rw [if_neg hused]
  cases v <;> split <;> simp

theorem markStateAfter_running {m : Num8} {v : MarkState} (hm : q.stretches m = true) (hv : v ≠ .due) :
    markStateAfter q .running m v = .held := by
  have hused : ¬ q.usesMark m = false := by simpa using usesMark_iff.mpr (stretches_iff.mp hm).1
  have hrun : ExtensionState.running = .running ∧ q.stretches m = true := ⟨rfl, hm⟩
  unfold markStateAfter
  rw [if_neg hused, if_pos hrun, if_neg hv]

theorem markStateAfter_waits {e : ExtensionState} {m : Num8} {v : MarkState} (hm : q.base m ≠ 0) (he : e ≠ .running)
    (hv : v ≠ .due) : markStateAfter q e m v = .waiting := by
  have hused : ¬ q.usesMark m = false := by simpa using usesMark_iff.mpr hm
  unfold markStateAfter
  rw [if_neg hused, if_neg fun h => he h.1]
  cases v <;> simp_all

/-- The marks a completion has put at or before the position. -/
def leftBehind (q : Plan) (cycle : Nat) (a : Int) (t : CT) (m : Num8) : Bool :=
  !t.earlyGreen && markReached (applyToClock q cycle a t) m

theorem leftBehind_iff {m : Num8} : leftBehind q cycle a t m = true ↔ t.earlyGreen = false ∧ q.base m ≠ 0
    ∧ markStateAfter q t.extension m (t.marks.get m).state = .waiting
    ∧ shiftedPosition q cycle a t.x m ≤ t.position := by
  rw [leftBehind, Bool.and_eq_true, Bool.not_eq_true', markReached_iff, completedMark]
  have hpos : (applyToClock q cycle a t).position = t.position := rfl
  rw [hpos]
  by_cases hm : q.base m = 0 <;> simp [hm]

/-- A mark's state once the dues of a completion have been taken. -/
theorem takenState (m : Num8) : (if leftBehind q cycle a t m then
      { (applyToClock q cycle a t).marks.get m with state := MarkState.due }
      else (applyToClock q cycle a t).marks.get m : Mark)
    = if q.base m = 0 then ⟨0, .unused⟩
      else ⟨shiftedPosition q cycle a t.x m, if leftBehind q cycle a t m then .due
        else markStateAfter q t.extension m (t.marks.get m).state⟩ := by
  rw [completedMark]
  by_cases hm : q.base m = 0
  · have hno : ¬ leftBehind q cycle a t m = true := fun h => (leftBehind_iff.mp h).2.1 hm
    rw [if_neg hno, if_pos hm, if_pos hm]
  · rw [if_neg hm, if_neg hm]
    split <;> rfl

/-- The marks that a completion makes DUE are those whose due it takes. -/
theorem newlyDue_iff {m : Num8} {v : Mark} (hv : v = if q.base m = 0 then ⟨0, .unused⟩
      else ⟨shiftedPosition q cycle a t.x m, if leftBehind q cycle a t m then .due
        else markStateAfter q t.extension m (t.marks.get m).state⟩) :
    ((t.marks.get m).state ≠ .due ∧ v.state = .due) ↔ leftBehind q cycle a t m = true := by
  constructor
  · rintro ⟨hold, hnew⟩
    by_contra hno
    rw [hv, if_neg hno] at hnew
    by_cases hm : q.base m = 0
    · rw [if_pos hm] at hnew
      cases hnew
    · rw [if_neg hm] at hnew
      exact hold ((markStateAfter_due hm).mp hnew)
  · intro hdue
    obtain ⟨-, hm, hwait, -⟩ := leftBehind_iff.mp hdue
    refine ⟨fun hold => ?_, ?_⟩
    · rw [(markStateAfter_due hm).mpr hold] at hwait
      cases hwait
    · rw [hv, if_neg hm, if_pos hdue]

end

/-! ### The whole completion -/

/-- The unit to which the results of a computation have been applied, before its plan and its dues. -/
def completed (c : Configuration) (n : Snapshot) (q : Plan) (r : Computed) (s : State) : State :=
  clearUnusedLines c q (applyResults n q r s)

/-- The unit under the plan that a completion brings, or as it was without one. -/
def planBrought (c : Configuration) (n : Snapshot) (q : Plan) (v : State) : State :=
  if n.pendingPlan.isSome then planAtCompletion c q v else v

theorem workingPlan_eq {c : Configuration} {f : Option Num4} {n : Snapshot} {k : Num4} {q : Plan}
    (hk : match n.pendingPlan with | some j => j = k | none => f = some k) (hq : c.plans.get k = some q) :
    workingPlan c f n = some (k, q) := by
  cases hn : n.pendingPlan with
  | none =>
    simp only [hn] at hk
    simp only [workingPlan, hn, hk, hq]
  | some j =>
    simp only [hn] at hk
    simp only [workingPlan, hn, hk, hq]

theorem doCompletion_eq {c : Configuration} {n : Snapshot} {k : Num4} {q : Plan} {s : State} (hc : s.config = some c)
    (hk : match n.pendingPlan with | some j => j = k | none => s.mc.plan = some k) (hq : c.plans.get k = some q)
    {r : Computed} (hr : r = compute c k q n) {w : State} (hw : w = planBrought c n q (completed c n q r s)) :
    doCompletion n s = if w.ct.earlyGreen then w else takeReachedDeciding c q w := by
  subst hw hr
  simp only [doCompletion, hc, workingPlan_eq hk hq]
  rfl

/-- What stands of a lawful unit as its completion falls. -/
theorem completion_limits {s : State} (hs : s.Lawful) {c : Configuration} (hc : s.config = some c) {n : Snapshot}
    (hn : s.cau.snapshot = some n) {k : Num4} {q : Plan}
    (hk : match n.pendingPlan with | some j => j = k | none => s.mc.plan = some k) (hq : c.plans.get k = some q)
    {r : Computed} (hr : r = compute c k q n) : q.Checked ∧ q.cMin ≤ r.cycle
      ∧ -(shorteningLimit q r.cycle : Int) ≤ r.offset.adjustment := by
  have hchecked := (config_checked hs.setup hc).plans k q hq
  refine ⟨hchecked, ?_, ?_⟩
  · rw [hr]
    refine (compute_cycle_range hchecked fun hnone => ?_).1
    rw [hnone] at hk
    obtain ⟨-, hcycle, -, -⟩ := hs.snapshot n hn
    have hplan : s.planInForce = some q := by
      rw [State.planInForce, hc]
      have hk : s.mc.plan = some k := hk
      rw [hk]
      exact hq
    obtain ⟨hlo, hhi, -⟩ := cycle_inLimits hs.cycle hplan
    rw [hcycle]
    exact ⟨hlo, hhi⟩
  · rw [hr]
    exact (offsetStage_range ..).1

section
variable {c : Configuration} {n : Snapshot} {q : Plan} {r : Computed} {s w : State}

theorem planBrought_brought (hq : q.Checked) (hpos : s.ct.position ≤ 20) :
    Brought (completed c n q r s) (planBrought c n q (completed c n q r s)) := by
  obtain ⟨hgate, -⟩ := hq.gateMin
  unfold planBrought
  split
  · refine planAtCompletion_brought ?_ rfl
    have hct : (completed c n q r s).ct.position = s.ct.position := rfl
    omega
  · exact .refl _

/-- The completion is the results, the plan they bring, and the dues of the marks put at or before the position: the
stretch mark is later. -/
theorem doCompletion_dues (hq : q.Checked) (hcycle : q.cMin ≤ r.cycle)
    (ha : -(shorteningLimit q r.cycle : Int) ≤ r.offset.adjustment) (hpos : s.ct.position ≤ 20)
    (hct : w.ct = applyToClock q r.cycle r.offset.adjustment s.ct) :
    (if w.ct.earlyGreen then w else takeReachedDeciding c q w)
      = duesTaken c q (leftBehind q r.cycle r.offset.adjustment s.ct) w := by
  have hearly : w.ct.earlyGreen = s.ct.earlyGreen := by rw [hct]; rfl
  have hstretches := stretches_stretch hq
  obtain ⟨hgreen, -⟩ := hq.gMin
  cases he : s.ct.earlyGreen with
  | true =>
    rw [if_pos (hearly.trans he), duesTaken_none]
    intro m
    rw [leftBehind, he]
    rfl
  | false =>
    have hdue : leftBehind q r.cycle r.offset.adjustment s.ct = markReached w.ct := funext fun m => by
      rw [leftBehind, he, hct]
      exact Bool.true_and _
    have hnot : ¬ w.ct.earlyGreen = true := by
      rw [hearly, he]
      exact Bool.false_ne_true
    have hstretch : markReached w.ct q.stretch = false := by
      rw [Bool.eq_false_iff, ne_eq, ← hdue, leftBehind_iff]
      rintro ⟨-, -, -, hreached⟩
      have hlater := (shiftedPosition_spec hq hcycle ha s.ct.x hstretches).2
      omega
    rw [if_neg hnot, takeReachedDeciding_eq (.inl hstretch), hdue]

theorem recordedReference_some {entries : List Entry} {e : Entry} (h : ∃ f ∈ entries, f.station = e.station) :
    recordedReference entries (some e) = some e.station := by
  obtain ⟨f, hf⟩ := findEntry_isSome h
  simp [recordedReference, hf]

theorem recordedReference_none {entries : List Entry} {o : Option Entry}
    (h : o = none ∨ ∃ e, o = some e ∧ ∀ f ∈ entries, f.station ≠ e.station) : recordedReference entries o = none := by
  rcases h with rfl | ⟨e, rfl, hno⟩
  · rfl
  · simp [recordedReference, findEntry_none hno]

end

/-- Without reached WAITING marks the completion finds the unit as it is. -/
theorem takeStepDues_idle {c : Configuration} {p : Plan} {s : State} (hset : s.setup = some (c, p))
    (h : s.ct.earlyGreen = true
      ∨ ∀ m, (s.ct.marks.get m).state = .waiting → s.ct.position < (s.ct.marks.get m).position) :
    takeStepDues s = s := by
  rw [takeStepDues_eq hset]
  split
  · rfl
  · next hearly =>
    refine takeReachedDeciding_quiet fun m => ?_
    rw [Bool.eq_false_iff, ne_eq, markReached_iff]
    rintro ⟨hwait, hpos⟩
    have := h.resolve_left hearly m hwait
    omega

theorem setup_of_good {s : State} (hs : s.SetupObeys) {c : Configuration} (hc : s.config = some c) :
    ∃ p, s.setup = some (c, p) := by
  rw [State.SetupObeys, hc] at hs
  obtain ⟨-, ⟨k, p, hk, hp⟩, -⟩ := hs
  refine ⟨p, ?_⟩
  simp only [State.setup, State.planInForce, hc, hk, hp]

end Sys2Proof.Machine

/-! ## COMPLETION (O32) -/

namespace Sys2Proof.Machine

section
variable {c : Configuration} {n : Snapshot} {q : Plan} {r : Computed} {s w : State}

/-- The unit after a completion, from the state under the plan it brings. -/
def dueTaken (c : Configuration) (q : Plan) (r : Computed) (s w : State) : State :=
  duesTaken c q (leftBehind q r.cycle r.offset.adjustment s.ct) w

theorem dueTaken_mark (hb : Brought (completed c n q r s) w) (m : Num8) : (dueTaken c q r s w).ct.marks.get m =
    if q.base m = 0 then ⟨0, .unused⟩
    else ⟨shiftedPosition q r.cycle r.offset.adjustment s.ct.x m,
      if leftBehind q r.cycle r.offset.adjustment s.ct m then .due
      else markStateAfter q s.ct.extension m (s.ct.marks.get m).state⟩ := by
  have hct : w.ct = applyToClock q r.cycle r.offset.adjustment s.ct := hb.ct
  rw [dueTaken, duesTaken_mark, hct, takenState]

theorem dueTaken_newlyDue (hb : Brought (completed c n q r s) w) (m : Num8) :
    ((s.ct.marks.get m).state ≠ .due ∧ ((dueTaken c q r s w).ct.marks.get m).state = .due)
      ↔ leftBehind q r.cycle r.offset.adjustment s.ct m = true := newlyDue_iff (dueTaken_mark hb m)

theorem completed_line (k : Num8) : (completed c n q r s).olu.get k =
    if lineMarkUsed (c.outputs.get k) q then s.olu.get k else { s.olu.get k with drive := false } :=
  Eight.get_mapNum ..

theorem dueTaken_unusedLine (hb : Brought (completed c n q r s) w) {k : Num8}
    (hk : lineMarkUsed (c.outputs.get k) q = false) :
    (dueTaken c q r s w).olu.get k = { s.olu.get k with drive := false } := by
  have hno : (c.outputs.get k).mark.any (leftBehind q r.cycle r.offset.adjustment s.ct) = false := by
    cases hm : (c.outputs.get k).mark with
    | none => rfl
    | some m =>
      rw [lineMarkUsed, hm] at hk
      refine Bool.eq_false_iff.mpr fun hdue => ?_
      exact (leftBehind_iff.mp hdue).2.1 (by simpa [Plan.usesMark] using hk)
  rw [dueTaken, duesTaken_line, hno, hb.olu, completed_line, hk]
  rfl

theorem dueTaken_usedLine (hb : Brought (completed c n q r s) w) {k m : Num8} (hk : (c.outputs.get k).mark = some m)
    (hm : q.base m ≠ 0) : (dueTaken c q r s w).olu.get k = { s.olu.get k with
      drive := (s.olu.get k).drive || leftBehind q r.cycle r.offset.adjustment s.ct m } := by
  have hused : lineMarkUsed (c.outputs.get k) q = true := by
    rw [lineMarkUsed, hk]
    exact usesMark_iff.mpr hm
  rw [dueTaken, duesTaken_line, hb.olu, completed_line, hused, hk]
  rfl

theorem dueTaken_green (hb : Brought (completed c n q r s) w) (d : Direction) :
    (dueTaken c q r s w).di.green.get d = true ↔ s.di.green.get d = true
      ∧ ∀ m, leftBehind q r.cycle r.offset.adjustment s.ct m = true → ¬ EndsGreen c q m d := by
  have hgreen : w.di.green = s.di.green := (congrArg DI.green hb.di :)
  rw [dueTaken, duesTaken_green_iff, hgreen]

theorem completed_length (hearly : s.ct.earlyGreen = false) (ha : -(shorteningLimit q r.cycle : Int) ≤ r.offset.adjustment) :
    ((completed c n q r s).ct.cRun : Int) = r.cycle + r.offset.adjustment + s.ct.x := by
  have hshort := shorteningLimit_le q r.cycle
  have hrun : (completed c n q r s).ct.cRun = ((r.cycle : Int) + r.offset.adjustment + s.ct.x).toNat :=
    if_neg (Bool.eq_false_iff.mp hearly)
  rw [hrun]
  omega

theorem planBrought_none (h : n.pendingPlan = none) (v : State) : planBrought c n q v = v :=
  if_neg (by rw [h]; exact Bool.false_ne_true)

theorem planBrought_some {k : Num4} (h : n.pendingPlan = some k) (v : State) :
    planBrought c n q v = planAtCompletion c q v := if_pos (by rw [h]; rfl)

end

theorem markComesDue_powered (m : Num8) (s : State) : (markComesDue m s).powered = s.powered := by
  unfold markComesDue
  split
  · split
    · split
      · exact powered_eq (by simp) (by simp)
      · exact powered_eq (by simp) (by simp)
    · rfl
  · rfl

/-- Settles O32: the results at one instant, the plan they bring, and the dues of the marks left behind. -/
theorem completionAppliesResults : Obligations.CompletionAppliesResults := by
  refine ⟨fun s t m hs hpow hsnap hlo hhi hexec => ?_,
    fun s c n k q r hs hpow hcl hn hlo hhi hk hq hreached hr => ?_⟩
  · have hin : s.inCharge = true := by
      obtain ⟨n, hn⟩ := Option.isSome_iff_exists.mp hsnap
      exact (hs.snapshot n hn).1
    have hfall : completionCanFall s = true :=
      completionCanFall_iff.mpr ⟨Option.isSome_iff_ne_none.mp hsnap, hs.charge.1 hin, hlo, hhi⟩
    rw [exec_worked _ hpow] at hexec
    obtain rfl : markComesDue m s = t := Host.Outcome.next.inj hexec
    have hpow' : (markComesDue m s).powered = true := (markComesDue_powered m s).trans hpow
    rw [exec_worked _ hpow, exec_worked _ hpow']
    exact congrArg Host.Outcome.next (computationCompletes_afterMark hs.setup m hsnap hfall)
  · have hc := config_good hcl
    obtain ⟨p, hset⟩ := setup_of_good hs.setup hc
    obtain ⟨hplan, hcycle, ha⟩ := completion_limits hs hc hn hk hq hr
    have hin := (hs.snapshot n hn).1
    have hfall : completionCanFall s = true :=
      completionCanFall_iff.mpr ⟨by rw [hn]; exact Option.some_ne_none n, hs.charge.1 hin, hlo, hhi⟩
    obtain ⟨w, hw⟩ : ∃ w, w = planBrought c n q (completed c n q r s) := ⟨_, rfl⟩
    have hb : Brought (completed c n q r s) w := hw ▸ planBrought_brought hplan hhi
    have hexec : exec .completion s = .next (dueTaken c q r s w) := exec_of_worked hpow (by
      have hcompletes : worked .completion s = doCompletion n (takeStepDues s) := by
        simp only [worked, computationCompletes, hn]
        exact if_pos hfall
      rw [hcompletes, takeStepDues_idle hset hreached, doCompletion_eq hc hk hq hr hw]
      exact doCompletion_dues hplan hcycle ha hhi hb.ct)
    obtain ⟨t, ht⟩ : ∃ t, t = dueTaken c q r s w := ⟨_, rfl⟩
    rw [← ht] at hexec
    have hcau : t.cau = (completed c n q r s).cau := by rw [ht, ← hb.cau]; rfl
    have hmc : t.mc = (completed c n q r s).mc := by rw [ht, ← hb.mc]; rfl
    have hnt : t.nt = (completed c n q r s).nt := by rw [ht, ← hb.nt]; rfl
    have hcp : { t.cp with flags := s.cp.flags } = (completed c n q r s).cp := by rw [ht, ← hb.cp]; rfl
    have hct : { t.ct with marks := w.ct.marks } = (completed c n q r s).ct := by rw [ht, ← hb.ct]; rfl
    have hdi : { t.di with storage := s.di.storage, green := s.di.green } = s.di := by
      have hw' : { w.di with storage := s.di.storage } = s.di := hb.di
      have hgreen : w.di.green = s.di.green := (congrArg DI.green hw' :)
      rw [ht, ← hgreen]
      exact hw'
    have hmark := fun m => dueTaken_mark hb m
    have hnew := fun m => dueTaken_newlyDue hb m
    rw [← ht] at hmark hnew
    refine ⟨t, hexec, ?_, ?_, ?_, fun e he hf => ?_, fun hnone => ?_, ?_, ?_, ?_, ?_, ?_, ?_, ?_, ?_, fun he => ?_,
      fun he => ?_, fun m hm => ?_, fun m hm hearly => ?_, fun m hm hlate => ?_, fun m hm hdue => ?_,
      fun hext he m hm hdue => ⟨fun hpos => ?_, fun hpos => ?_⟩, fun hext m hm hlate hdue => ?_, fun k hk => ?_,
      fun k m hk hm => ?_, fun d => ?_, ?_, ?_, ?_, fun hnone => ?_, fun hsome => ?_⟩
    · rw [hcau]; rfl
    · rw [hmc, hr]; rfl
    · rw [hnt]; rfl
    · rw [hnt]
      exact (congrArg (recordedReference s.nt.entries) he).trans (recordedReference_some hf)
    · rw [hnt]
      exact recordedReference_none hnone
    · exact (congrArg CP.logError hcp :)
    · rw [hnt]
      exact (congrArg CP.logReference hcp :)
    · exact (congrArg CP.log hcp :)
    · exact (congrArg CT.adjustment hct :)
    · exact (congrArg CT.completionSeen hct :)
    · exact (congrArg CT.position hct :)
    · exact (congrArg CT.x hct :)
    · exact (congrArg CT.wrapCount hct :)
    · have hrun : t.ct.cRun = (completed c n q r s).ct.cRun := (congrArg CT.cRun hct :)
      rw [hrun]
      exact completed_length he ha
    · have hrun : t.ct.cRun = (completed c n q r s).ct.cRun := (congrArg CT.cRun hct :)
      exact hrun.trans (if_pos he)
    · rw [hmark, if_pos hm]
    · have hfree : ¬ q.stretches m = true := fun h => by
        have := (stretches_iff.mp h).2
        omega
      rw [hmark, if_neg hm, shiftedPosition, if_neg hfree]
      rfl
    · rw [hmark, if_neg hm]
      exact (shiftedPosition_spec hplan hcycle ha s.ct.x (stretches_iff.mpr ⟨hm, hlate⟩)).1
    · rw [hmark, if_neg hm]
      dsimp only
      rw [(markStateAfter_due hm).mpr hdue, ite_self]
    · rw [hmark, if_neg hm] at hpos ⊢
      dsimp only at hpos ⊢
      rw [if_neg fun h => by have := (leftBehind_iff.mp h).2.2.2; omega, markStateAfter_waits hm hext hdue]
    · rw [hmark, if_neg hm] at hpos ⊢
      exact if_pos (leftBehind_iff.mpr ⟨he, hm, markStateAfter_waits hm hext hdue, hpos⟩)
    · have hheld := markStateAfter_running (q := q) (stretches_iff.mpr ⟨hm, hlate⟩) hdue
      rw [← hext] at hheld
      rw [hmark, if_neg hm]
      refine (if_neg fun h => ?_).trans hheld
      have hwait := (leftBehind_iff.mp h).2.2.1
      rw [hheld] at hwait
      cases hwait
    · rw [ht]
      exact dueTaken_unusedLine hb hk
    · have hdecide : leftBehind q r.cycle r.offset.adjustment s.ct m
          = decide ((s.ct.marks.get m).state ≠ .due ∧ (t.ct.marks.get m).state = .due) := by
        rw [Bool.eq_iff_iff, decide_eq_true_iff]
        exact (hnew m).symm
      rw [← hdecide, ht]
      exact dueTaken_usedLine hb hk hm
    · rw [ht, dueTaken_green hb, ← ht]
      refine and_congr_right fun _ => forall_congr' fun m => ?_
      rw [← hnew m, and_imp]
    · have htcl : t.cl = w.cl := by rw [ht]; rfl
      exact htcl.trans hb.cl
    · rw [← hdi]
    · have hport : { t.cp with flags := s.cp.flags, logError := s.cp.logError, logReference := s.cp.logReference } = s.cp :=
        (congrArg (fun v : CP => { v with logError := s.cp.logError, logReference := s.cp.logReference }) hcp :)
      rw [← hport]
    · have hsame : w = completed c n q r s := hw.trans (planBrought_none hnone _)
      rw [ht, hsame]
      exact ⟨rfl, rfl, rfl, rfl, rfl, rfl⟩
    · obtain ⟨u, hu⟩ : ∃ u, u = expireAged q (completed c n q r s) := ⟨_, rfl⟩
      obtain ⟨hgate, -⟩ := hplan.gateMin
      have hbrought := hw.trans (planBrought_some hsome _)
      rw [planAtCompletion_eq (s := completed c n q r s) (Nat.lt_of_le_of_lt hhi (by omega)) rfl hu] at hbrought
      have hudi : u.di = (completed c n q r s).di := by rw [hu, expireAged_di]
      have hstorage : t.di.storage = ⟨filledState c q u .inbound, filledState c q u .outbound⟩ := by
        rw [ht, hbrought]; rfl
      have hfilled : ∀ d, t.di.storage.get d = filledState c q u d := fun d => by
        rw [hstorage]
        cases d <;> rfl
      refine ⟨filledState_byPlan (by rw [hudi]; rfl) (by rw [hudi]; rfl) hstorage,
        storageRequests_requested (moved := fun d => fullDue c q d u) (fun d => ?_) (by rw [ht, hbrought]; rfl),
        fun d => ?_, fun hnodup hlimit aged haged => ?_⟩
      · have hold : u.di.storage.get d = s.di.storage.get d := by rw [hudi]; rfl
        rw [filledState_full, hfilled, hold]
      · rw [ht, hbrought]
        cases d <;> rfl
      · rw [expireAged_eq (s := completed c n q r s) hnodup haged] at hu
        have hcounters : u.counters = s.counters.bumps .priorityExpired aged.length := by rw [hu]; rfl
        rw [bumps_priorityExpired hlimit] at hcounters
        rw [ht, hbrought]
        refine ⟨?_, hcounters, ?_⟩
        · rw [hu]
          rfl
        · rw [hu]
          rfl

end Sys2Proof.Machine

/-! ## What every operation keeps: the joint laws, the law of transit requests, and one grant a cycle

An operation that moves neither the mode nor the clock is `Minor`: it keeps the laws of a unit, whether in charge or aside,
and the law of the queue; the position stands, and either no grant is made or the first of the cycle. -/

namespace Sys2Proof.Machine

/-! ### The joint laws in two parts -/

/-- The joint laws but for what stands while the unit is not in charge. -/
structure State.Core (s : State) : Prop where
  setup : s.SetupObeys
  runs : s.inCharge = true → s.ct.running = true
  elapsed : s.mc.mode ≠ .pickup → s.mc.pickupElapsed = 0
  clock : s.ClockObeys
  adjustment : s.AdjustmentObeys
  cycle : s.CycleObeys
  triple : s.TripleObeys
  entries : ∀ e ∈ s.nt.entries, EntryChecked e
  snapshot : s.SnapshotObeys
  gating : s.GatingObeys

/-- A unit that is not in charge stands aside (R87). -/
def State.AsideObeys (s : State) : Prop := s.inCharge = false → s.StandsAside

theorem lawful_iff {s : State} : s.Lawful ↔ s.Core ∧ s.AsideObeys := by
  constructor
  · rintro ⟨hsetup, ⟨hruns, haside, helapsed⟩, hclock, hadj, hcycle, htriple, hentries, hsnap, hgating⟩
    exact ⟨⟨hsetup, hruns, helapsed, hclock, hadj, hcycle, htriple, hentries, hsnap, hgating⟩, haside⟩
  · rintro ⟨⟨hsetup, hruns, helapsed, hclock, hadj, hcycle, htriple, hentries, hsnap, hgating⟩, haside⟩
    exact ⟨hsetup, ⟨hruns, haside, helapsed⟩, hclock, hadj, hcycle, htriple, hentries, hsnap, hgating⟩

/-- A unit whose clock runs does not stand aside. -/
theorem not_aside_of_running {s : State} (h : s.ct.running = true) : ¬ s.StandsAside := fun ha => by
  rw [ha.clock.1] at h
  cases h

/-! ### What the laws read -/

/-- The blocks the joint laws read beside the clock and the arbiter. -/
def State.frame (s : State) : Load × (Mode × Option Num4 × Option Num4 × Nat) × CAU × List Entry
    × Option Nat × Option Nat :=
  (s.cl, (s.mc.mode, s.mc.plan, s.mc.pendingPlan, s.mc.pickupElapsed), s.cau, s.nt.entries, s.gt.inbound.station,
    s.gt.outbound.station)

/-- All that the laws of the unit and of its queue, and the counting of grants, read. -/
def State.view (s : State) : (Load × (Mode × Option Num4 × Option Num4 × Nat) × CAU × List Entry
    × Option Nat × Option Nat) × CT × PA × (Num8 → Bool) × Nat × Nat :=
  (s.frame, { s.ct with marks := Eight.make fun _ => ⟨0, .unused⟩ }, s.pa, fun k => (s.di.lines.get k).occupied,
    s.counters.priorityExtended, s.counters.priorityEarly)

/-- What more stands while a unit is not in charge. -/
def State.rest (s : State) : Option Nat × PerDir Bool × (Num8 → Bool) × PerDir Gate × Option Nat × Bool × Bool :=
  (s.nt.lastReference, s.di.green, fun k => (s.olu.get k).drive, s.gt, s.lc.beaconTimer, s.lc.storage, s.lc.beacon)

/-- What more stands while a unit is not in charge, as it must. -/
structure State.RestObeys (s : State) : Prop where
  reference : s.nt.lastReference = none
  greens : s.di.green = ⟨false, false⟩
  lines : ∀ k, (s.olu.get k).drive = false
  gating : ∀ d, (s.gt.get d).station = none ∧ (s.gt.get d).point = none ∧ (s.gt.get d).reached = false
  slots : s.lc.beaconTimer = none ∧ s.lc.storage = false ∧ s.lc.beacon = false

section
variable {s t : State}

theorem frame_parts (h : t.frame = s.frame) : t.cl = s.cl ∧ t.mc.mode = s.mc.mode ∧ t.mc.plan = s.mc.plan
    ∧ t.mc.pendingPlan = s.mc.pendingPlan ∧ t.mc.pickupElapsed = s.mc.pickupElapsed ∧ t.cau = s.cau
    ∧ t.nt.entries = s.nt.entries ∧ ∀ d, (t.gt.get d).station = (s.gt.get d).station := by
  simp only [State.frame, Prod.mk.injEq] at h
  obtain ⟨hcl, ⟨hmode, hplan, hpending, helapsed⟩, hcau, hentries, hin, hout⟩ := h
  refine ⟨hcl, hmode, hplan, hpending, helapsed, hcau, hentries, fun d => ?_⟩
  cases d with
  | inbound => exact hin
  | outbound => exact hout

theorem frame_config (h : t.frame = s.frame) : t.config = s.config := by
  obtain ⟨hcl, -⟩ := frame_parts h
  rw [State.config, hcl]
  rfl

theorem frame_inCharge (h : t.frame = s.frame) : t.inCharge = s.inCharge := by
  obtain ⟨-, hmode, -⟩ := frame_parts h
  rw [State.inCharge, hmode]
  rfl

/-- The laws that do not read the clock stand where the frame does. -/
theorem State.Core.change (hs : s.Core) (h : t.frame = s.frame) (hruns : s.ct.running = true → t.ct.running = true)
    (hclock : t.ClockObeys) (hadj : t.AdjustmentObeys) : t.Core := by
  have hconfig := frame_config h
  have hin := frame_inCharge h
  obtain ⟨hcl, hmode, hplan, hpending, helapsed, hcau, hentries, hstations⟩ := frame_parts h
  have hforce : t.planInForce = s.planInForce := by
    rw [State.planInForce, hconfig, hplan]
    rfl
  refine ⟨?_, fun hc => hruns (hs.runs (hin ▸ hc)), fun hm => ?_, hclock, hadj, ?_, ?_, fun e he => ?_, fun n hn => ?_,
    fun d n hn => ?_⟩
  · have hsetup := hs.setup
    rw [State.SetupObeys] at hsetup ⊢
    rw [hconfig, hplan, hpending, hmode]
    exact hsetup
  · rw [helapsed]
    exact hs.elapsed (hmode ▸ hm)
  · have hcycle := hs.cycle
    rw [State.CycleObeys] at hcycle ⊢
    rw [hforce, hcau]
    exact hcycle
  · have htriple := hs.triple
    rw [State.TripleObeys] at htriple ⊢
    rw [hconfig, hcau]
    exact htriple
  · exact hs.entries e (hentries ▸ he)
  · rw [hcau] at hn ⊢
    rw [hin, hconfig]
    exact hs.snapshot n hn
  · rw [hstations] at hn
    rw [hin, hconfig, hentries]
    exact hs.gating d n hn

/-- The laws that do not read the lines stand where the frame, the clock, the extension and grant used do. -/
theorem State.Core.of_frame (hs : s.Core) (h : t.frame = s.frame) (hct : t.ct = s.ct)
    (hext : t.pa.extension = s.pa.extension) (hused : t.pa.grantUsed = s.pa.grantUsed) : t.Core := by
  obtain ⟨-, -, -, -, -, hcau, -⟩ := frame_parts h
  obtain ⟨hbelow, hlength, hgreatest, htime, hextension, hearly⟩ := hs.clock
  have hadj := hs.adjustment
  rw [← hct] at hbelow hlength hgreatest htime hextension hearly
  rw [← hcau] at hlength
  rw [← hext] at hextension
  rw [← hused] at hearly
  rw [State.AdjustmentObeys, ← hct, ← hcau] at hadj
  exact hs.change h (fun hr => by rw [hct]; exact hr) ⟨hbelow, hlength, hgreatest, htime, hextension, hearly⟩ hadj

theorem view_frame (h : t.view = s.view) : t.frame = s.frame := congrArg Prod.fst h

theorem view_parts (h : t.view = s.view) : t.pa = s.pa ∧ (∀ k, (t.di.lines.get k).occupied = (s.di.lines.get k).occupied)
    ∧ t.counters.priorityExtended = s.counters.priorityExtended
    ∧ t.counters.priorityEarly = s.counters.priorityEarly := by
  simp only [State.view, Prod.mk.injEq] at h
  obtain ⟨-, -, hpa, hoccupied, hextended, hearly⟩ := h
  exact ⟨hpa, congrFun hoccupied, hextended, hearly⟩

theorem view_clock (h : t.view = s.view) : { t.ct with marks := Eight.make fun _ => ⟨0, .unused⟩ }
    = { s.ct with marks := Eight.make fun _ => ⟨0, .unused⟩ } := by
  simp only [State.view, Prod.mk.injEq] at h
  exact h.2.1

theorem view_ct (h : t.view = s.view) : t.ct.running = s.ct.running ∧ t.ct.position = s.ct.position
    ∧ t.ct.cRun = s.ct.cRun ∧ t.ct.adjustment = s.ct.adjustment ∧ t.ct.x = s.ct.x ∧ t.ct.extension = s.ct.extension
    ∧ t.ct.earlyGreen = s.ct.earlyGreen ∧ t.ct.completionSeen = s.ct.completionSeen := by
  have hct := view_clock h
  exact ⟨(congrArg CT.running hct :), (congrArg CT.position hct :), (congrArg CT.cRun hct :),
    (congrArg CT.adjustment hct :), (congrArg CT.x hct :), (congrArg CT.extension hct :),
    (congrArg CT.earlyGreen hct :), (congrArg CT.completionSeen hct :)⟩

theorem State.Core.of_view (hs : s.Core) (h : t.view = s.view) : t.Core := by
  obtain ⟨hrun, hpos, hcRun, ha, hx, hext, hearly, hseen⟩ := view_ct h
  obtain ⟨hpa, -⟩ := view_parts h
  obtain ⟨-, -, -, -, -, hcau, -⟩ := frame_parts (view_frame h)
  refine hs.change (view_frame h) (fun hr => hrun.trans hr) ?_ ?_
  · obtain ⟨hbelow, hlength, hgreatest, htime, hextension, hgreen⟩ := hs.clock
    refine ⟨?_, fun he => ?_, ?_, ?_, ?_, fun he => ?_⟩
    · rw [hpos, hcRun]
      exact hbelow
    · rw [hcRun, hcau, ha, hx]
      exact hlength (hearly ▸ he)
    · rw [hcRun]
      exact hgreatest
    · rw [hx]
      exact htime
    · rw [hext, hpa]
      exact hextension
    · rw [hpa, hext]
      exact hgreen (hearly ▸ he)
  · have hadj := hs.adjustment
    rw [State.AdjustmentObeys] at hadj ⊢
    rw [hseen, ha, hcau]
    exact hadj

theorem queueObeys_of_view (hs : s.QueueObeys) (h : t.view = s.view) : t.QueueObeys := by
  obtain ⟨hpa, hoccupied, -⟩ := view_parts h
  rw [State.QueueObeys] at hs ⊢
  rw [frame_config (view_frame h)]
  cases hc : s.config with
  | none =>
    simp only [hc] at hs ⊢
    rw [hpa]
    exact hs
  | some c =>
    simp only [hc] at hs ⊢
    refine ⟨by rw [hpa]; exact hs.onePerLine, fun r hr => ?_⟩
    rw [hoccupied]
    exact hs.occupied r (hpa ▸ hr)

theorem rest_of_aside (h : s.StandsAside) : s.RestObeys := ⟨h.reference, h.greens, h.lines, h.gating, h.slots⟩

theorem aside_of_view (hs : s.StandsAside) (h : t.view = s.view) (hrest : t.RestObeys) : t.StandsAside := by
  obtain ⟨hrun, hpos, hcRun, ha, hx, hext, hearly, hseen⟩ := view_ct h
  obtain ⟨hpa, -⟩ := view_parts h
  obtain ⟨-, -, -, -, -, hcau, -⟩ := frame_parts (view_frame h)
  refine ⟨?_, ?_, hrest.reference, hrest.greens, hrest.lines, ?_, hrest.gating, hrest.slots⟩
  · rw [hrun, hpos, ha, hx, hext, hearly, hseen]
    exact hs.clock
  · rw [hcau]
    exact hs.computation
  · rw [hpa]
    exact hs.arbiter

theorem restObeys_of_eq (hs : s.RestObeys) (h : t.rest = s.rest) : t.RestObeys := by
  simp only [State.rest, Prod.mk.injEq] at h
  obtain ⟨href, hgreen, hlines, hgt, htimer, hstorage, hbeacon⟩ := h
  exact ⟨href.trans hs.reference, hgreen.trans hs.greens, fun k => (congrFun hlines k).trans (hs.lines k),
    fun d => by rw [hgt]; exact hs.gating d, by rw [htimer, hstorage, hbeacon]; exact hs.slots⟩

end

/-! ### Minor operations -/

/-- Either no grant is made, or the first of the cycle. -/
def Granting (s t : State) : Prop :=
  (t.counters.priorityExtended = s.counters.priorityExtended ∧ t.counters.priorityEarly = s.counters.priorityEarly
    ∧ t.pa.grantUsed = s.pa.grantUsed) ∨ s.pa.grantUsed = false ∧ t.pa.grantUsed = true

theorem Granting.trans {s t u : State} (h : Granting s t) (h' : Granting t u) : Granting s u := by
  rcases h with ⟨hext, hearly, hused⟩ | ⟨hno, hyes⟩
  · rcases h' with ⟨hext', hearly', hused'⟩ | ⟨hno', hyes'⟩
    · exact .inl ⟨hext'.trans hext, hearly'.trans hearly, hused'.trans hused⟩
    · exact .inr ⟨hused.symm.trans hno', hyes'⟩
  · rcases h' with ⟨-, -, hused'⟩ | ⟨hno', -⟩
    · exact .inr ⟨hno, hused'.trans hyes⟩
    · rw [hyes] at hno'
      cases hno'

/-- An operation that keeps the laws, does not move the position, and makes at most the first grant of the cycle. -/
structure Minor (s t : State) : Prop where
  lawful : s.Lawful → t.Lawful
  queue : s.QueueObeys → t.QueueObeys
  position : t.ct.position = s.ct.position
  grant : Granting s t

/-- A unit that plainly does not stand aside. -/
def State.Busy (s : State) : Prop := s.inCharge = true ∨ s.ct.running = true ∨ s.ct.extension ≠ .none

theorem State.Busy.not_aside {s : State} (h : s.Busy) (hin : s.inCharge = false) : ¬ s.StandsAside := fun ha => by
  obtain ⟨hrun, -, -, -, hext, -⟩ := ha.clock
  rcases h with h | h | h
  · rw [hin] at h
    cases h
  · rw [hrun] at h
    cases h
  · exact h hext

theorem State.Busy.of_view {s t : State} (h : s.Busy) (hv : t.view = s.view) : t.Busy := by
  obtain ⟨hrun, -, -, -, -, hext, -⟩ := view_ct hv
  rw [State.Busy, frame_inCharge (view_frame hv), hrun, hext]
  exact h

theorem Granting.of_view {s t : State} (h : t.view = s.view) : Granting s t := by
  obtain ⟨hpa, -, hext, hearly⟩ := view_parts h
  exact .inl ⟨hext, hearly, by rw [hpa]⟩

namespace Minor
variable {s t u : State}

/-- What the laws read in charge stands, and what more they read aside is as it must be. -/
theorem of_view (h : t.view = s.view) (hrest : s.inCharge = false → s.RestObeys → t.RestObeys) : Minor s t := by
  refine ⟨fun hs => ?_, fun hs => queueObeys_of_view hs h, (view_ct h).2.1, .of_view h⟩
  obtain ⟨hcore, haside⟩ := lawful_iff.mp hs
  refine lawful_iff.mpr ⟨hcore.of_view h, fun hin => ?_⟩
  have hnot : s.inCharge = false := (frame_inCharge (view_frame h)).symm.trans hin
  exact aside_of_view (haside hnot) h (hrest hnot (rest_of_aside (haside hnot)))

theorem of_eq (h : t.view = s.view ∧ t.rest = s.rest) : Minor s t :=
  of_view h.1 fun _ hs => restObeys_of_eq hs h.2

theorem refl (s : State) : Minor s s := of_eq ⟨rfl, rfl⟩

/-- What the laws read in charge stands, and the unit does not stand aside. -/
theorem of_busy (h : t.view = s.view) (hbusy : s.Busy) : Minor s t := by
  refine ⟨fun hs => ?_, fun hs => queueObeys_of_view hs h, (view_ct h).2.1, .of_view h⟩
  obtain ⟨hcore, haside⟩ := lawful_iff.mp hs
  refine lawful_iff.mpr ⟨hcore.of_view h, fun hin => ?_⟩
  have hnot : s.inCharge = false := (frame_inCharge (view_frame h)).symm.trans hin
  exact absurd (haside hnot) (hbusy.not_aside hnot)

theorem trans (h : Minor s t) (h' : Minor t u) : Minor s u :=
  ⟨h'.lawful ∘ h.lawful, h'.queue ∘ h.queue, h'.position.trans h.position, h.grant.trans h'.grant⟩

theorem of_start (h : Minor t u) (hs : t.view = s.view ∧ t.rest = s.rest) : Minor s u := (of_eq hs).trans h

theorem ite {b : Prop} [Decidable b] (ht : Minor s t) (hu : Minor s u) : Minor s (if b then t else u) := by
  split
  · exact ht
  · exact hu

theorem foldl {α : Type} {f : State → α → State} (hf : ∀ s a, Minor s (f s a)) (l : List α) (s : State) :
    Minor s (l.foldl f s) := by
  induction l generalizing s with
  | nil => exact .refl s
  | cons a l ih => exact (hf s a).trans (ih _)

end Minor

end Sys2Proof.Machine

/-! ## The shared operations are minor -/

namespace Sys2Proof.Machine

/-! ### Flags, counts and the Link Controller -/

/-- What the Link Controller of a unit not in charge holds (R20, R21). -/
def LC.Quiet (l : LC) : Prop := l.beaconTimer = none ∧ l.storage = false ∧ l.beacon = false

section
variable (s : State)

theorem setFlag_minor (f : Flag) : Minor s (setFlag f s) := .of_eq ⟨rfl, rfl⟩

/-- An event is counted, and it is no grant. -/
theorem count_minor (n : Counter) (h : n ≠ .priorityExtended ∧ n ≠ .priorityEarly) : Minor s (count n s) := by
  refine .of_eq ⟨?_, rfl⟩
  have hcounts : (count n s).counters.priorityExtended = s.counters.priorityExtended
      ∧ (count n s).counters.priorityEarly = s.counters.priorityEarly := by
    cases n with
    | priorityExtended => exact absurd rfl h.1
    | priorityEarly => exact absurd rfl h.2
    | _ => exact ⟨rfl, rfl⟩
  rw [State.view, hcounts.1, hcounts.2]
  rfl

/-- The Link Controller changes, and is as quiet as before. -/
theorem link_minor {s : State} {l : LC} (h : s.inCharge = false → s.lc.Quiet → l.Quiet) :
    Minor s { s with lc := l } :=
  .of_view rfl fun hin hs => ⟨hs.reference, hs.greens, hs.lines, hs.gating, h hin hs.slots⟩

theorem deferWhenIdle_quiet {l : LC} (h : l.Quiet) : (deferWhenIdle l).Quiet := by
  rw [deferWhenIdle_rest]
  exact h

theorem requestBeacon_minor : Minor s (requestBeacon s) := by
  unfold requestBeacon
  split
  · next hin => exact link_minor fun hnot => by rw [hin] at hnot; cases hnot
  · exact .refl s

theorem requestStorage_minor : Minor s (requestStorage s) := by
  unfold requestStorage
  split
  · next hin => exact link_minor fun hnot => by rw [hin] at hnot; cases hnot
  · exact .refl s

theorem requestDepart_minor (r : DepartReason) : Minor s (requestDepart r s) := by
  refine link_minor fun _ h => ?_
  unfold fillDepart
  split
  · exact h
  · exact deferWhenIdle_quiet h

/-! ### The detector lines and the storage states -/

/-- A line changes, but not in its level. -/
theorem setLine_minor {s : State} {k : Num8} {l : DetectorLine} (h : l.occupied = (s.di.lines.get k).occupied) :
    Minor s (setLine k l s) := by
  refine .of_eq ⟨?_, rfl⟩
  have hoccupied : (fun j => ((setLine k l s).di.lines.get j).occupied) = fun j => (s.di.lines.get j).occupied := by
    funext j
    show ((s.di.lines.set k l).get j).occupied = _
    rw [Eight.get_set]
    split
    · next hj => rw [h, hj]
    · rfl
  rw [State.view, hoccupied]
  rfl

theorem setStorage_minor (d : Direction) (v : Storage) : Minor s (setStorage d v s) := by
  unfold setStorage
  exact .ite (.of_eq ⟨rfl, rfl⟩) (.of_start (requestStorage_minor _) ⟨rfl, rfl⟩)

theorem enterFault_minor (c : Configuration) (k : Num8) (v : FaultState) : Minor s (enterFault c k v s) := by
  have hcounted : ∀ l, l.occupied = (s.di.lines.get k).occupied →
      Minor s (setFlag .detectorFault (count .detectorFault (setLine k l s))) := fun l h =>
    (setLine_minor h).trans ((count_minor _ .detectorFault ⟨nofun, nofun⟩).trans (setFlag_minor _ _))
  unfold enterFault
  dsimp only
  split
  · refine (hcounted _ ?_).trans (setStorage_minor _ _ _)
    rfl
  · exact hcounted _ rfl

theorem storageRecovers_minor (c : Configuration) (k : Num8) : Minor s (storageRecovers c k s) := by
  unfold storageRecovers
  split
  · exact .ite (setStorage_minor s _ _) (.refl s)
  · exact .refl s

theorem judgeStorage_minor (c : Configuration) (p : Plan) (d : Direction) : Minor s (judgeStorage c p d s) := by
  unfold judgeStorage
  split
  · exact .ite (setStorage_minor s _ _) (.refl s)
  · exact .refl s

theorem closeLine_occupied (set : DetectorSetting) (l : DetectorLine) : (closeLine set l).occupied = l.occupied := by
  unfold closeLine
  split <;> rfl

theorem closeCycle_minor (c : Configuration) (p : Plan) : Minor s (closeCycle c p s) := by
  unfold closeCycle
  refine .trans ?_ (judgeStorage_minor _ c p _)
  refine .trans ?_ (judgeStorage_minor _ c p _)
  refine .trans ?_ (.foldl (fun s _ => .ite (enterFault_minor s c _ _) (.refl s)) _ _)
  refine .of_eq ⟨?_, rfl⟩
  have hoccupied : (fun k => ((s.di.lines.mapNum fun k l => closeLine (c.detectors.get k) l).get k).occupied)
      = fun k => (s.di.lines.get k).occupied := by
    funext k
    rw [Eight.get_mapNum, closeLine_occupied]
  simp only [State.view, hoccupied]
  rfl

theorem enterFullWhenDue_minor (c : Configuration) (p : Plan) (d : Direction) :
    Minor s (enterFullWhenDue c p d s) := .ite (setStorage_minor s _ _) (.refl s)

/-! ### The log and the resets of counts -/

theorem appendRecord_minor (c : Configuration) (r : LogRecord) : Minor s (appendRecord c r s) := by
  refine .trans (.foldl (fun s _ => ?_) _ s) (.of_eq ⟨rfl, rfl⟩)
  exact (count_minor s .logTimeout ⟨nofun, nofun⟩).trans (setFlag_minor _ _)

theorem zeroCounts_minor : Minor s (zeroCounts s) := by
  refine .of_eq ⟨?_, rfl⟩
  have hoccupied : (fun k => ((zeroCounts s).di.lines.get k).occupied) = fun k => (s.di.lines.get k).occupied := by
    funext k
    show ((s.di.lines.mapNum fun _ (l : DetectorLine) => { l with counts := .zero }).get k).occupied = _
    rw [Eight.get_mapNum]
  rw [State.view, hoccupied]
  rfl

/-! ### The queue -/

theorem queueObeys_sublist {s t : State} (hs : s.QueueObeys) (hconfig : t.config = s.config)
    (hqueue : t.pa.queue.Sublist s.pa.queue)
    (hoccupied : ∀ r ∈ t.pa.queue, (t.di.lines.get r.line).occupied = (s.di.lines.get r.line).occupied) :
    t.QueueObeys := by
  rw [State.QueueObeys] at hs ⊢
  rw [hconfig]
  cases hc : s.config with
  | none =>
    simp only [hc] at hs ⊢
    rw [hs] at hqueue
    exact List.sublist_nil.mp hqueue
  | some c =>
    simp only [hc] at hs ⊢
    exact ⟨hs.onePerLine.sublist (hqueue.map _), fun r hr => by rw [hoccupied r hr]; exact hs.occupied r (hqueue.subset hr)⟩

/-- The laws of the unit do not read the queue but where it stands aside, and there it is empty. -/
theorem Lawful.setQueue {s : State} (hs : s.Lawful) {q : List Request} (hq : s.pa.queue = [] → q = []) :
    State.Lawful { s with pa := { s.pa with queue := q } } := by
  obtain ⟨hcore, haside⟩ := lawful_iff.mp hs
  refine lawful_iff.mpr ⟨hcore.of_frame rfl rfl rfl rfl, fun hin => ?_⟩
  obtain ⟨hclock, hcomp, href, hgreen, hlines, ⟨hqueue, hext, hused, hgrant⟩, hgate, hslots⟩ := haside hin
  exact ⟨hclock, hcomp, href, hgreen, hlines, ⟨hq hqueue, hext, hused, hgrant⟩, hgate, hslots⟩

theorem withoutLine_minor (k : Num8) : Minor s { s with pa := { s.pa with queue := withoutLine k s.pa.queue } } :=
  ⟨fun hs => Lawful.setQueue hs fun h => by rw [h]; rfl,
    fun hs => queueObeys_sublist hs rfl List.filter_sublist fun _ _ => rfl, rfl, .inl ⟨rfl, rfl, rfl⟩⟩

theorem expireRequest_minor (k : Num8) : Minor s (expireRequest k s) :=
  (withoutLine_minor s k).trans ((count_minor _ .priorityExpired ⟨nofun, nofun⟩).trans (setFlag_minor _ _))

theorem expireAged_minor (p : Plan) : Minor s (expireAged p s) :=
  .foldl (fun s _ => .ite (expireRequest_minor s _) (.refl s)) _ s

/-! ### Marks, gate points, lines and greens of a unit that does not stand aside -/

theorem clearLines_minor (hbusy : s.Busy) : Minor s (clearLines s) := .of_busy rfl hbusy

theorem setGreens_minor (b : Bool) (hbusy : s.Busy) : Minor s (setGreens b s) := .of_busy rfl hbusy

theorem takeDue_view (c : Configuration) (p : Plan) (m : Num8) : (takeDue c p m s).view = s.view := by
  rw [takeDue_eq]
  rfl

theorem takeDue_minor (c : Configuration) (p : Plan) (m : Num8) (hbusy : s.Busy) : Minor s (takeDue c p m s) :=
  .of_busy (takeDue_view s c p m) hbusy

theorem takeReached_view (c : Configuration) (p : Plan) : (takeReached c p s).view = s.view := by
  rw [takeReached_eq]
  rfl

theorem takeReached_minor (c : Configuration) (p : Plan) (hbusy : s.Busy) : Minor s (takeReached c p s) :=
  .of_busy (takeReached_view s c p) hbusy

/-- What a change of one direction's gate leaves, its station standing. -/
theorem setGate_view {s : State} {d : Direction} {g : Gate} (h : g.station = (s.gt.get d).station) :
    (setGate d g s).view = s.view := by
  have hin : ∀ e, ((s.gt.set d g).get e).station = (s.gt.get e).station := fun e => by
    rw [PerDir.get_set]
    split
    · next he => rw [h, he]
    · rfl
  have hinbound : (s.gt.set d g).inbound.station = s.gt.inbound.station := hin .inbound
  have houtbound : (s.gt.set d g).outbound.station = s.gt.outbound.station := hin .outbound
  simp only [State.view, State.frame, setGate, hinbound, houtbound]

theorem gateSetting_view (c : Configuration) (p : Plan) (d : Direction) : (gateSetting c p d s).view = s.view := by
  unfold gateSetting endGreenIf
  dsimp only
  split <;> rfl

theorem reachGate_view (c : Configuration) (p : Plan) (d : Direction) : (reachGate c p d s).view = s.view :=
  (gateSetting_view _ c p d).trans (setGate_view rfl)

theorem reachGate_minor (c : Configuration) (p : Plan) (d : Direction) (hbusy : s.Busy) :
    Minor s (reachGate c p d s) := .of_busy (reachGate_view s c p d) hbusy

theorem placeGate_view (c : Configuration) (p : Plan) (d : Direction) : (placeGate c p d s).view = s.view := by
  unfold placeGate
  dsimp only
  split
  · exact (reachGate_view _ c p d).trans (setGate_view rfl)
  · exact setGate_view rfl

theorem replaceGate_view (c : Configuration) (p : Plan) (d : Direction) : (replaceGate c p d s).view = s.view := by
  unfold replaceGate
  split
  · exact placeGate_view s c p d
  · rfl

theorem gatingWrap_view (c : Configuration) (p : Plan) : (gatingWrap c p s).view = s.view := by
  have hplace : ∀ (u : State) (d : Direction), (placeGateIfOn c p d u).view = u.view := fun u d => by
    unfold placeGateIfOn
    split
    · exact placeGate_view u c p d
    · rfl
  exact (hplace _ _).trans (hplace _ _)

end

end Sys2Proof.Machine

/-! ## Grants, gating and the Neighbour Table are minor -/

namespace Sys2Proof.Machine

/-! ### Grants, and the end of an extension -/

theorem inCharge_of_grantAllowed {s : State} (h : grantAllowed s = true) : s.inCharge = true := by
  obtain ⟨hmode, -⟩ := grantAllowed_iff.mp h
  rw [State.inCharge]
  rcases hmode with hm | hm <;> rw [hm] <;> rfl

theorem lawful_of_charge {s : State} (h : s.Core) (hin : s.inCharge = true) : s.Lawful :=
  lawful_iff.mpr ⟨h, fun hnot => by rw [hin] at hnot; cases hnot⟩

theorem winner_of_extensionWinner {c : Configuration} {p : Plan} {s : State} {r : Request}
    (h : extensionWinner c p s = some r) : grantAllowed s = true := by
  unfold extensionWinner at h
  split at h
  · next hall =>
    simp only [Bool.and_eq_true] at hall
    exact hall.1.1.1
  · cases h

section
variable {s : State}

theorem grantExtension_minor (p : Plan) (r : Request) (hallowed : grantAllowed s = true) :
    Minor s (grantExtension p r s) := by
  obtain ⟨-, -, -, hext, hused⟩ := grantAllowed_iff.mp hallowed
  have hin := inCharge_of_grantAllowed hallowed
  refine ⟨fun hs => ?_, fun hs => queueObeys_sublist hs rfl List.filter_sublist fun _ _ => rfl, rfl, .inr ⟨hused, rfl⟩⟩
  obtain ⟨hcore, -⟩ := lawful_iff.mp hs
  refine lawful_of_charge (hcore.change rfl id ?_ hcore.adjustment) hin
  obtain ⟨hbelow, hlength, hgreatest, htime, -, hearly⟩ := hcore.clock
  exact ⟨hbelow, hlength, hgreatest, htime, ⟨fun _ => rfl, fun _ => rfl⟩, fun he => by
    rw [(hearly he).1] at hused
    cases hused⟩

theorem grantEarly_minor (r : Request) (hallowed : grantAllowed s = true) : Minor s (grantEarly r s) := by
  obtain ⟨-, -, -, hext, hused⟩ := grantAllowed_iff.mp hallowed
  have hin := inCharge_of_grantAllowed hallowed
  refine ⟨fun hs => ?_, fun hs => queueObeys_sublist hs rfl List.filter_sublist fun _ _ => rfl, rfl, .inr ⟨hused, rfl⟩⟩
  obtain ⟨hcore, -⟩ := lawful_iff.mp hs
  refine lawful_of_charge (hcore.change rfl id ?_ hcore.adjustment) hin
  obtain ⟨hbelow, -, hgreatest, htime, hextension, -⟩ := hcore.clock
  refine ⟨Nat.lt_succ_self _, nofun, Nat.le_trans hbelow hgreatest, htime, hextension, fun _ => ⟨rfl, fun he => ?_⟩⟩
  have hsome := hextension.mp he
  rw [hext] at hsome
  cases hsome

theorem decideEarly_minor : Minor s (decideEarly s) := by
  unfold decideEarly
  split
  · next hallowed =>
    split
    · exact grantEarly_minor _ hallowed
    · exact .refl s
  · exact .refl s

theorem reachStretch_minor (c : Configuration) (p : Plan) (hbusy : s.Busy) : Minor s (reachStretch c p s) := by
  unfold reachStretch
  split
  · next r hwin =>
    have hallowed := winner_of_extensionWinner hwin
    have hin : (grantExtension p r s).inCharge = true := inCharge_of_grantAllowed (s := s) hallowed
    exact (grantExtension_minor p r hallowed).trans (takeReached_minor (grantExtension p r s) c p (.inl hin))
  · exact takeReached_minor s c p hbusy

theorem takeReachedDeciding_minor (c : Configuration) (p : Plan) (hbusy : s.Busy) :
    Minor s (takeReachedDeciding c p s) := .ite (reachStretch_minor c p hbusy) (takeReached_minor s c p hbusy)

/-- The extension has ended, before the marks it held come due. -/
def extensionEnded (s : State) : State :=
  { s with pa := { s.pa with extension := none, cycleGrant := some (.extension s.ct.x) }, ct := releaseHeld s.ct }

theorem extensionEnded_minor (hext : s.pa.extension.isSome = true) : Minor s (extensionEnded s) := by
  refine ⟨fun hs => ?_, fun hs => queueObeys_sublist hs rfl (List.Sublist.refl _) fun _ _ => rfl, rfl,
    .inl ⟨rfl, rfl, rfl⟩⟩
  obtain ⟨hcore, haside⟩ := lawful_iff.mp hs
  obtain ⟨hbelow, hlength, hgreatest, htime, -, hearly⟩ := hcore.clock
  refine lawful_iff.mpr ⟨hcore.change rfl id ⟨hbelow, hlength, hgreatest, htime, ⟨nofun, nofun⟩,
    fun he => ⟨(hearly he).1, nofun⟩⟩ hcore.adjustment, fun hin => ?_⟩
  obtain ⟨-, hnone, -⟩ := (haside hin).arbiter
  rw [hnone] at hext
  cases hext

theorem endExtension_minor (c : Configuration) (p : Plan) (hext : s.pa.extension.isSome = true) :
    Minor s (endExtension c p s) :=
  (extensionEnded_minor hext).trans (takeReached_minor (extensionEnded s) c p (.inr (.inr nofun)))

end

/-! ### Gating judged on a changed table -/

theorem setup_of_charge {s : State} (hs : s.SetupObeys) (hin : s.inCharge = true) :
    ∃ c p, s.setup = some (c, p) := by
  cases hc : s.config with
  | some c => exact ⟨c, setup_of_good hs hc⟩
  | none =>
    simp only [State.SetupObeys, hc] at hs
    rw [State.inCharge, hs.1] at hin
    cases hin

theorem nearestUpstream_mem {own : Nat} {entries : List Entry} {d : Direction} {e : Entry}
    (h : nearestUpstream own entries d = some e) : e ∈ entries := by
  cases d with
  | inbound => exact List.mem_of_find?_eq_some h
  | outbound => exact (List.mem_filter.mp (List.mem_of_getLast? h)).1

/-- The station that calls for gating has an entry that advertises FULL and names the unit as its feeder (R134). -/
theorem calledFor_some {c : Configuration} {entries : List Entry} {d : Direction} {n : Nat}
    (h : calledFor c entries d = some n) : ∃ e ∈ entries, e.station = n ∧ (e.approaches.get d).storage = .full
      ∧ (e.approaches.get d).fedBy = c.station := by
  unfold calledFor at h
  split at h
  · next e he =>
    split at h
    · next hcalls =>
      cases h
      exact ⟨e, nearestUpstream_mem he, rfl, hcalls⟩
    · cases h
  · cases h

theorem judgeDirection_station (c : Configuration) (p : Plan) (removed : Option Nat) (d e : Direction) (s : State) :
    ((judgeDirection c p removed d s).gt.get e).station
      = if e = d then calledFor c s.nt.entries d else (s.gt.get e).station := by
  have hset : ∀ g : Gate, ((s.gt.set d g).get e).station = if e = d then g.station else (s.gt.get e).station := fun g => by
    rw [PerDir.get_set]
    split <;> rfl
  unfold judgeDirection
  split
  · next n hn _ =>
    rw [(enterGating_entered c p d n s).gate, hset, hn]
  · next n g hn _ =>
    rw [hn]
    exact hset _
  · next g hn _ =>
    rw [hn]
    exact hset _
  · next hn hnone =>
    rw [hn]
    split
    · next he => rw [he, hnone]
    · rfl

theorem judgeGating_station (c : Configuration) (p : Plan) (removed : Option Nat) (d : Direction) {s : State}
    (hin : s.inCharge = true) :
    ((judgeGating c p removed s).gt.get d).station = calledFor c s.nt.entries d := by
  have htable : (judgeDirection c p removed .inbound s).nt = s.nt :=
    (congrArg State.nt (judgeDirection_only c p removed .inbound s).rest :)
  rw [judgeGating, if_pos hin, judgeDirection_station, htable]
  cases d with
  | inbound =>
    rw [if_neg nofun, judgeDirection_station, if_pos rfl]
  | outbound => rw [if_pos rfl]

section
variable {s t : State}

/-- The laws of the unit where only the table and gating have changed. -/
theorem State.Core.of_table (hs : s.Core) (hcl : t.cl = s.cl) (hmc : t.mc = s.mc) (hcau : t.cau = s.cau)
    (hct : t.ct = s.ct) (hpa : t.pa = s.pa) (hentries : ∀ e ∈ t.nt.entries, EntryChecked e)
    (hgating : t.GatingObeys) : t.Core := by
  have hconfig := config_eq hcl
  have hin : t.inCharge = s.inCharge := by
    rw [State.inCharge, hmc]
    rfl
  have hforce : t.planInForce = s.planInForce := by
    rw [State.planInForce, hconfig, hmc]
    rfl
  obtain ⟨hsetup, hruns, helapsed, hclock, hadj, hcycle, htriple, -, hsnap, -⟩ := hs
  refine ⟨?_, ?_, ?_, ?_, ?_, ?_, ?_, hentries, fun n hn => ?_, hgating⟩
  · rw [State.SetupObeys] at hsetup ⊢
    rw [hconfig, hmc]
    exact hsetup
  · rw [hin, hct]
    exact hruns
  · rw [hmc]
    exact helapsed
  · obtain ⟨hbelow, hlength, hgreatest, htime, hextension, hearly⟩ := hclock
    rw [← hct] at hbelow hlength hgreatest htime hextension hearly
    rw [← hcau] at hlength
    rw [← hpa] at hextension hearly
    exact ⟨hbelow, hlength, hgreatest, htime, hextension, hearly⟩
  · rw [State.AdjustmentObeys] at hadj ⊢
    rw [hct, hcau]
    exact hadj
  · rw [State.CycleObeys] at hcycle ⊢
    rw [hforce, hcau]
    exact hcycle
  · rw [State.TripleObeys] at htriple ⊢
    rw [hconfig, hcau]
    exact htriple
  · rw [hcau] at hn ⊢
    rw [hin, hconfig]
    exact hsnap n hn

theorem stations_aside (hs : s.GatingObeys) (hin : s.inCharge = false) (d : Direction) :
    (s.gt.get d).station = none := by
  cases hst : (s.gt.get d).station with
  | none => rfl
  | some n =>
    rw [(hs d n hst).1] at hin
    cases hin

/-- A change of the table that goes unreported, where gating need not be judged. -/
theorem withEntries_minor {entries : List Entry}
    (hchecked : (∀ e ∈ s.nt.entries, EntryChecked e) → ∀ e ∈ entries, EntryChecked e)
    (hgating : s.GatingObeys → (s.withEntries entries).GatingObeys) : Minor s (s.withEntries entries) := by
  refine ⟨fun hs => ?_, fun hs => queueObeys_sublist hs rfl (List.Sublist.refl _) fun _ _ => rfl, rfl,
    .inl ⟨rfl, rfl, rfl⟩⟩
  obtain ⟨hcore, haside⟩ := lawful_iff.mp hs
  refine lawful_iff.mpr ⟨hcore.of_table rfl rfl rfl rfl rfl (hchecked hcore.entries) (hgating hcore.gating), fun hin => ?_⟩
  obtain ⟨hclock, hcomp, href, hgreen, hlines, harbiter, hgate, hslots⟩ := haside hin
  exact ⟨hclock, hcomp, href, hgreen, hlines, harbiter, hgate, hslots⟩

/-- A report on a changed table leaves each direction's station the one that calls for gating, in charge. -/
theorem report_minor (removed : Option Nat) {entries : List Entry}
    (hchecked : (∀ e ∈ s.nt.entries, EntryChecked e) → ∀ e ∈ entries, EntryChecked e) :
    Minor s (reportToGating removed (s.withEntries entries)) := by
  obtain ⟨u, hu⟩ : ∃ u, u = reportToGating removed (s.withEntries entries) := ⟨_, rfl⟩
  have hrest := (reportToGating_only removed (s.withEntries entries)).rest
  rw [← hu] at hrest ⊢
  have hcl : u.cl = s.cl := (congrArg State.cl hrest :)
  have hmc : u.mc = s.mc := (congrArg State.mc hrest :)
  have hct : u.ct = s.ct := (congrArg State.ct hrest :)
  have hpa : u.pa = s.pa := (congrArg State.pa hrest :)
  have hnt : u.nt.entries = entries := (congrArg (fun v : State => v.nt.entries) hrest :)
  have hlines : u.di.lines = s.di.lines := (congrArg (fun v : State => v.di.lines) hrest :)
  have hcounters : u.counters = s.counters := (congrArg State.counters hrest :)
  have hconfig := config_eq hcl
  have hcharge : u.inCharge = s.inCharge := by
    rw [State.inCharge, hmc]
    rfl
  refine ⟨fun hs => ?_, fun hs => ?_, by rw [hct], .inl ⟨by rw [hcounters], by rw [hcounters], by rw [hpa]⟩⟩
  · by_cases hin : s.inCharge = true
    · obtain ⟨hcore, -⟩ := lawful_iff.mp hs
      obtain ⟨c, p, hset⟩ := setup_of_charge hcore.setup hin
      obtain ⟨-, hc, -⟩ := setup_some hset
      refine lawful_of_charge (hcore.of_table hcl hmc (congrArg State.cau hrest :) hct hpa ?_ fun d n hn => ?_)
        (hcharge.trans hin)
      · rw [hnt]
        exact hchecked hcore.entries
      · have hcalls : (u.gt.get d).station = calledFor c entries d := by
          have hjudged : u = judgeGating c p removed (s.withEntries entries) := by
            rw [hu, reportToGating]
            simp only [show (s.withEntries entries).setup = some (c, p) from hset]
          rw [hjudged]
          exact judgeGating_station c p removed d hin
        rw [hcalls] at hn
        obtain ⟨e, he, hstation, hfull, hfed⟩ := calledFor_some hn
        exact ⟨hcharge.trans hin, c, hconfig.trans hc, e, hnt ▸ he, hstation, hfull, hfed⟩
    · have hnot : s.inCharge = false := by simpa using hin
      have hsame : u = s.withEntries entries := hu.trans
        ((reportToGating_reported removed (s.withEntries entries)).ignored (.inr hnot))
      rw [hsame]
      refine (withEntries_minor hchecked fun hg d n hn => ?_).lawful hs
      have hnone := stations_aside hg hnot d
      rw [show (s.gt.get d).station = some n from hn] at hnone
      cases hnone
  · refine queueObeys_sublist hs hconfig ?_ fun r _ => by rw [hlines]
    rw [hpa]
end

end Sys2Proof.Machine

/-! ## The Neighbour Table, the link and the detector lines: events that are minor -/

namespace Sys2Proof.Machine

/-! ### Frames handed to the table -/

/-- The BEACONs among the frames carry checked fields (R6). -/
def Frame.Checked : Frame → Prop
  | .beacon _ b _ => CycleValue b.triple.value ∧ b.triple.hops ≤ 7 ∧ 10 ≤ b.period ∧ b.period ≤ 50
  | .storage _ _ | .depart _ => True

theorem readBeacon_checked {b : List Byte} {f : Frame} (h : readBeacon b = some f) : f.Checked := by
  unfold readBeacon at h
  split at h
  · split at h
    · next hok =>
      cases h
      obtain ⟨-, hperiod, -, hvalue, -, -, hhops, -⟩ := beaconOk_iff.mp hok
      exact ⟨hvalue, hhops, hperiod⟩
    · cases h
  · cases h

theorem readFrame_checked {n : Nat} {b : List Byte} {f : Frame} (h : readFrame n b = some f) : f.Checked := by
  unfold readFrame at h
  split at h
  · split at h
    · exact readBeacon_checked h
    · cases h
  · split at h
    · split at h
      · cases h
        trivial
      · cases h
    · cases h
  · split at h
    · split at h
      · cases h
        trivial
      · cases h
    · cases h
  · cases h

section
variable (s : State)

theorem refuseEntry_minor : Minor s (refuseEntry s) :=
  (count_minor s .tableRefused ⟨nofun, nofun⟩).trans (setFlag_minor _ _)

theorem removeEntry_minor (n : Nat) : Minor s (removeEntry n s) :=
  report_minor (some n) fun h e he => h e (mem_withoutStation.mp he).1

theorem placeEntry_minor {e : Entry} (he : EntryChecked e) : Minor s (placeEntry e s) := by
  refine report_minor none fun h f hf => ?_
  rcases List.mem_cons.mp ((insertEntry_perm _ _).mem_iff.mp hf) with rfl | hmem
  · exact he
  · exact h f (mem_withoutStation.mp hmem).1

theorem beaconKnown_minor (c : Configuration) (o : Entry) {n : Entry} (hn : EntryChecked n) :
    Minor s (beaconKnown c o n s) :=
  .ite (placeEntry_minor s hn) (.ite (removeEntry_minor s _)
    (.ite ((removeEntry_minor s _).trans (refuseEntry_minor _)) (placeEntry_minor s hn)))

theorem beaconUnknown_minor (c : Configuration) {n : Entry} (hn : EntryChecked n) :
    Minor s (beaconUnknown c n s) := by
  refine .ite (.refl s) (.ite (refuseEntry_minor s) (.ite (placeEntry_minor s hn) ?_))
  split
  · exact .ite ((removeEntry_minor s _).trans (placeEntry_minor _ hn)) (refuseEntry_minor s)
  · exact .refl s

theorem judgeReference_minor (n : Nat) : Minor s (judgeReference n s) := by
  refine .ite (.trans ?_ (setFlag_minor _ _)) (.refl s)
  exact .of_view rfl fun _ h => ⟨rfl, h.greens, h.lines, h.gating, h.slots⟩

theorem loseStation_minor (n : Nat) : Minor s (loseStation n s) :=
  (removeEntry_minor s n).trans (judgeReference_minor _ n)

theorem storageFrame_minor (n : Nat) (a : PerDir Approach) : Minor s (storageFrame n a s) := by
  unfold storageFrame
  split
  · refine report_minor none fun h e he => ?_
    obtain ⟨f, hf, rfl⟩ := List.mem_map.mp he
    split
    · exact h f hf
    · exact h f hf
  · exact .refl s

theorem tableTakes_minor (c : Configuration) (k : Capture) {f : Frame} (hf : f.Checked) :
    Minor s (tableTakes c k f s) := by
  cases f with
  | beacon n b a =>
    have hentry : EntryChecked (entryOf n b a k) := hf
    unfold tableTakes
    dsimp only
    split
    · exact beaconKnown_minor s _ _ hentry
    · exact beaconUnknown_minor s _ hentry
  | storage n a => exact storageFrame_minor s n a
  | depart n =>
    unfold tableTakes
    dsimp only
    split
    · exact loseStation_minor s n
    · exact .refl s

/-! ### Aging -/

theorem makeQuiet_minor (n : Nat) : Minor s (makeQuiet n s) := by
  refine withEntries_minor (fun h e he => ?_) fun h d m hm => ?_
  · obtain ⟨f, hf, rfl⟩ := List.mem_map.mp he
    split
    · exact h f hf
    · exact h f hf
  · obtain ⟨hin, c, hc, e, he, hstation, hcalls⟩ := h d m hm
    refine ⟨hin, c, hc, _, List.mem_map_of_mem he, ?_⟩
    split
    · exact ⟨hstation, hcalls⟩
    · exact ⟨hstation, hcalls⟩

theorem entryTurnsQuiet_minor (n : Nat) : Minor s (entryTurnsQuiet n s) := by
  unfold entryTurnsQuiet
  split
  · exact .ite (makeQuiet_minor s n) (.refl s)
  · exact .refl s

theorem entryExpires_minor (n : Nat) : Minor s (entryExpires n s) := by
  unfold entryExpires
  split
  · exact .ite (loseStation_minor s n) (.refl s)
  · exact .refl s

/-! ### Receiving -/

theorem setReceiver_minor (r : Receiver) : Minor s (setReceiver r s) := .of_eq ⟨rfl, rfl⟩

theorem discardFrame_minor : Minor s (discardFrame s) :=
  (setReceiver_minor s .hunt).trans ((count_minor _ .rxError ⟨nofun, nofun⟩).trans (setFlag_minor _ _))

theorem disposeFrame_minor (c : Configuration) (k : Capture) (g n : Nat) {f : Frame} (hf : f.Checked) :
    Minor s (disposeFrame c k g n f s) := by
  refine .ite (count_minor s .foreign ⟨nofun, nofun⟩) (.ite (setFlag_minor s _) ?_)
  refine .trans ?_ (tableTakes_minor _ c k hf)
  exact .of_start (count_minor _ .goodRx ⟨nofun, nofun⟩) ⟨rfl, rfl⟩

theorem completeFrame_minor (k : Capture) (n : Nat) (got : List Byte) (f b : Byte) :
    Minor s (completeFrame k n got f b s) := by
  unfold completeFrame
  split
  · refine .ite ?_ (discardFrame_minor s)
    split
    · next hread => exact (setReceiver_minor s .hunt).trans (disposeFrame_minor _ _ _ _ _ (readFrame_checked hread))
    · exact discardFrame_minor s
  · exact .refl s

theorem receiveByte_minor (b : Byte) (e : Bool) : Minor s (receiveByte b e s) := by
  unfold receiveByte
  split
  · exact .ite (setReceiver_minor s _) (.refl s)
  · exact .ite (setReceiver_minor s _) (.ite (.refl s) (setReceiver_minor s _))
  · exact .ite (setReceiver_minor s _) (discardFrame_minor s)
  · exact .ite (discardFrame_minor s) (.ite (setReceiver_minor s _) (setReceiver_minor s _))
  · refine .ite (discardFrame_minor s) ?_
    split
    · exact setReceiver_minor s _
    · exact completeFrame_minor s _ _ _ _ _

theorem cutShort_minor : Minor s (cutShort s) := by
  unfold cutShort
  split
  · exact .refl s
  · exact .refl s
  · exact discardFrame_minor s
  · exact discardFrame_minor s
  · exact discardFrame_minor s

/-! ### The events of the link -/

theorem startBit_minor : Minor s (startBit s) := .of_eq ⟨rfl, rfl⟩

theorem idleGap_minor : Minor s (idleGap s) := by
  refine .ite (.trans ?_ (link_minor fun _ h => deferWhenIdle_quiet h)) (.refl s)
  exact .of_start (cutShort_minor _) ⟨rfl, rfl⟩

theorem deferralRunsOut_minor : Minor s (deferralRunsOut s) := by
  refine .ite (link_minor fun _ h => ?_) (.refl s)
  unfold startAttempt
  split
  · exact h
  · exact h

theorem frameMarkPasses_minor : Minor s (frameMarkPasses s) := by
  unfold frameMarkPasses
  split
  · refine .ite ?_ (.refl s)
    unfold ownMark
    split
    · exact .of_eq ⟨rfl, rfl⟩
    · exact .refl s
  · exact .ite (setReceiver_minor s _) (.refl s)

theorem lastCheckByte_minor (b : Byte) : Minor s (lastCheckByte b s) := by
  unfold lastCheckByte
  split
  · exact completeFrame_minor s _ _ _ _ _
  · exact .refl s

theorem clearSlot_quiet {l : LC} (k : FrameKind) (h : l.Quiet) : (clearSlot k l).Quiet := by
  obtain ⟨htimer, hstorage, hbeacon⟩ := h
  cases k with
  | depart => exact ⟨htimer, hstorage, hbeacon⟩
  | storage => exact ⟨htimer, rfl, hbeacon⟩
  | beacon => exact ⟨htimer, hstorage, rfl⟩

theorem clearRenewal_quiet {l : LC} (k : FrameKind) (h : l.Quiet) : (clearRenewal k l).Quiet := by
  cases k <;> exact h

theorem collisionFound_minor : Minor s (collisionFound s) := by
  unfold collisionFound
  split
  · next a _ =>
    have hlink : ∀ l, (s.lc.Quiet → l.Quiet) → Minor s (count .collision { s with lc := l }) := fun l h =>
      (link_minor fun _ => h).trans (count_minor _ .collision ⟨nofun, nofun⟩)
    refine .ite (.trans (.trans (hlink _ fun h => ?_) (count_minor _ .txAbandoned ⟨nofun, nofun⟩)) (setFlag_minor _ _))
      (hlink _ fun h => clearRenewal_quiet _ h)
    exact clearSlot_quiet _ (clearRenewal_quiet _ h)
  · exact .refl s

theorem attemptDone_minor : Minor s (attemptDone s) := by
  unfold attemptDone
  split
  · next a _ =>
    refine .ite (.trans (link_minor fun _ h => ?_) (count_minor _ .sent ⟨nofun, nofun⟩)) (.refl s)
    have hslot : ∀ b : Bool, LC.Quiet (if b then clearRenewal a.kind { s.lc with
        attempt := none, receiver := .hunt, contention := none } else clearSlot a.kind { s.lc with
        attempt := none, receiver := .hunt, contention := none }) := fun b => by
      cases b
      · exact clearSlot_quiet _ h
      · exact clearRenewal_quiet _ h
    split
    · exact clearSlot_quiet _ (clearSlot_quiet _ (hslot _))
    · exact hslot _
  · exact .refl s

theorem beaconTimerOut_minor : Minor s (beaconTimerOut s) := by
  unfold beaconTimerOut
  split
  · split
    · next h => exact .trans (link_minor fun hnot => by rw [h.1] at hnot; cases hnot) (requestBeacon_minor _)
    · exact .refl s
  · exact .refl s

theorem silenceTimerOut_minor : Minor s (silenceTimerOut s) :=
  .ite (.of_start (setFlag_minor _ .linkSilent) ⟨rfl, rfl⟩) (.refl s)

/-! ### The events of the clock, gating and priority -/

theorem markComesDue_minor (m : Num8) : Minor s (markComesDue m s) := by
  unfold markComesDue
  split
  · split
    · next h =>
      have hbusy : s.Busy := .inr (.inl h.1)
      exact .ite (reachStretch_minor _ _ hbusy) (takeDue_minor s _ _ _ hbusy)
    · exact .refl s
  · exact .refl s

theorem gatePointComes_minor (d : Direction) : Minor s (gatePointComes d s) := by
  unfold gatePointComes
  split
  · split
    · next h =>
      simp only [gateDue, Bool.and_eq_true] at h
      exact reachGate_minor s _ _ _ (.inr (.inl h.1.1.1))
    · exact .refl s
  · exact .refl s

theorem windowOpened_minor (b : Bool) : Minor s { s with pa := { s.pa with windowOpened := b } } := by
  refine ⟨fun hs => ?_, fun hs => queueObeys_sublist hs rfl (List.Sublist.refl _) fun _ _ => rfl, rfl,
    .inl ⟨rfl, rfl, rfl⟩⟩
  obtain ⟨hcore, haside⟩ := lawful_iff.mp hs
  refine lawful_iff.mpr ⟨hcore.of_frame rfl rfl rfl rfl, fun hin => ?_⟩
  obtain ⟨hclock, hcomp, href, hgreen, hlines, harbiter, hgate, hslots⟩ := haside hin
  exact ⟨hclock, hcomp, href, hgreen, hlines, harbiter, hgate, hslots⟩

theorem windowOpens_minor : Minor s (windowOpens s) := by
  unfold windowOpens
  split
  · exact .ite ((windowOpened_minor s true).trans decideEarly_minor) (.refl s)
  · exact .refl s

theorem extensionRunsOut_minor : Minor s (extensionRunsOut s) := by
  unfold extensionRunsOut
  split
  · split
    · next h =>
      refine endExtension_minor _ _ ?_
      obtain ⟨e, he, -⟩ := limitReached_iff.mp h
      rw [he]
      rfl
    · exact .refl s
  · exact .refl s

theorem requestRunsOut_minor (k : Num8) : Minor s (requestRunsOut k s) := by
  unfold requestRunsOut
  split
  · exact .ite (expireRequest_minor s k) (.refl s)
  · exact .refl s

/-! ### The simple events of the detector lines and of the cabinet inputs -/

theorem setRaw_minor (k : Num8) (v : Bool) : Minor s (setRaw k v s) := setLine_minor rfl

theorem lineSticksOn_minor (k : Num8) : Minor s (lineSticksOn k s) := by
  unfold lineSticksOn
  split
  · exact .ite (enterFault_minor s _ k _) (.refl s)
  · exact .refl s

theorem directionFills_minor (d : Direction) : Minor s (directionFills d s) := by
  unfold directionFills
  split
  · exact enterFullWhenDue_minor s _ _ d
  · exact .refl s

theorem directionClears_minor (d : Direction) : Minor s (directionClears d s) := by
  unfold directionClears
  split
  · exact .ite (setStorage_minor s d _) (.refl s)
  · exact .refl s

theorem changeInput_view (f : FilteredInput → FilteredInput) (n : CabinetInput) :
    (changeInput f n s).view = s.view ∧ (changeInput f n s).rest = s.rest := by
  cases n <;> exact ⟨rfl, rfl⟩

theorem changeInput_minor (f : FilteredInput → FilteredInput) (n : CabinetInput) : Minor s (changeInput f n s) :=
  .of_eq (changeInput_view s f n)

theorem setPassThrough_minor (k : Num8) (v : Bool) : Minor s (setPassThrough k v s) := by
  refine .of_view rfl fun _ h => ⟨h.reference, h.greens, fun j => ?_, h.gating, h.slots⟩
  show ((s.olu.set k _).get j).drive = false
  rw [Eight.get_set]
  split
  · exact h.lines k
  · exact h.lines j

end

end Sys2Proof.Machine

/-! ## The edges of a detector line and its transit requests are minor

At an edge of a transit line the level changes and the queue with it: the law of the queue holds before and after the
two, but not between them. -/

namespace Sys2Proof.Machine

/-- An operation that is minor but for the law of the queue. -/
structure Loose (s t : State) : Prop where
  lawful : s.Lawful → t.Lawful
  position : t.ct.position = s.ct.position
  grant : Granting s t

namespace Loose
variable {s t u : State}

theorem of_minor (h : Minor s t) : Loose s t := ⟨h.lawful, h.position, h.grant⟩

theorem trans (h : Loose s t) (h' : Loose t u) : Loose s u :=
  ⟨h'.lawful ∘ h.lawful, h'.position.trans h.position, h.grant.trans h'.grant⟩

theorem minor (h : Loose s t) (hqueue : s.QueueObeys → t.QueueObeys) : Minor s t :=
  ⟨h.lawful, hqueue, h.position, h.grant⟩

end Loose

section
variable {s : State} {k : Num8} {l : DetectorLine}

/-- The laws of the unit do not read the levels of the lines. -/
theorem setLine_loose : Loose s (setLine k l s) := by
  refine ⟨fun hs => ?_, rfl, .inl ⟨rfl, rfl, rfl⟩⟩
  obtain ⟨hcore, haside⟩ := lawful_iff.mp hs
  refine lawful_iff.mpr ⟨hcore.of_frame rfl rfl rfl rfl, fun hin => ?_⟩
  obtain ⟨hclock, hcomp, href, hgreen, hlines, harbiter, hgate, hslots⟩ := haside hin
  exact ⟨hclock, hcomp, href, hgreen, hlines, harbiter, hgate, hslots⟩

/-- A line with a new level, whose direction's storage state recovers under a condition. -/
def lineMoved (c : Configuration) (k : Num8) (l : DetectorLine) (b : Prop) [Decidable b] (s : State) : State :=
  if b then storageRecovers c k (setLine k l s) else setLine k l s

theorem lineMoved_loose (c : Configuration) (b : Prop) [Decidable b] : Loose s (lineMoved c k l b s) := by
  unfold lineMoved
  split
  · exact setLine_loose.trans (.of_minor (storageRecovers_minor _ c k))
  · exact setLine_loose

theorem lineMoved_rest (c : Configuration) (b : Prop) [Decidable b] : (lineMoved c k l b s).cl = s.cl
    ∧ (lineMoved c k l b s).pa = s.pa ∧ (lineMoved c k l b s).di.lines = s.di.lines.set k l := by
  unfold lineMoved
  split
  · rw [storageRecovers_cl, storageRecovers_pa, storageRecovers_lines]
    exact ⟨rfl, rfl, rfl⟩
  · exact ⟨rfl, rfl, rfl⟩

theorem queueLaw_of {c : Configuration} (hs : s.QueueObeys) (hc : s.config = some c) : QueueLaw c s := by
  simpa only [State.QueueObeys, hc] using hs

theorem queueObeys_of {c : Configuration} (hc : s.config = some c) (h : QueueLaw c s) : s.QueueObeys := by
  simpa only [State.QueueObeys, hc] using h

/-- A line that rises to OCCUPIED leaves the law of the queue. -/
theorem lineMoved_rises (c : Configuration) (b : Prop) [Decidable b] (hl : l.occupied = true) :
    Minor s (lineMoved c k l b s) := by
  refine (lineMoved_loose c b).minor fun hs => ?_
  obtain ⟨hcl, hpa, hlines⟩ := lineMoved_rest (s := s) (k := k) (l := l) c b
  have hconfig := config_eq hcl
  cases hc : s.config with
  | none =>
    simp only [State.QueueObeys, hconfig, hc] at hs ⊢
    rw [hpa]
    exact hs
  | some d =>
    obtain ⟨hone, hoccupied⟩ := queueLaw_of hs hc
    refine queueObeys_of (hconfig.trans hc) ⟨by rw [hpa]; exact hone, fun r hr => ?_⟩
    rw [hpa] at hr
    rw [hlines, Eight.get_set]
    split
    · exact ⟨hl, (hoccupied r hr).2⟩
    · exact hoccupied r hr

/-! ### A request -/

/-- A request at the end of the queue (R146). -/
def joined (k : Num8) (g : TransitGroup) (s : State) : State :=
  { s with pa := { s.pa with queue := s.pa.queue ++ [⟨k, g, 0⟩] } }

theorem requestArrives_eq (p : Plan) (g : TransitGroup) (hin : s.inCharge = true) : requestArrives p k g s
    = if s.ct.running && inWindow p s.ct then decideEarly (joined k g s) else joined k g s := if_pos hin

theorem requestArrives_aside (p : Plan) (g : TransitGroup) (hin : s.inCharge = false) : requestArrives p k g s = s :=
  if_neg (Bool.not_eq_true _ ▸ hin)

theorem joined_loose (g : TransitGroup) (hin : s.inCharge = true) : Loose s (joined k g s) := by
  refine ⟨fun hs => ?_, rfl, .inl ⟨rfl, rfl, rfl⟩⟩
  obtain ⟨hcore, -⟩ := lawful_iff.mp hs
  exact lawful_of_charge (hcore.of_frame rfl rfl rfl rfl) hin

/-- The request of an occupied line that has none keeps the law of the queue. -/
theorem joined_queue {c : Configuration} {g : TransitGroup} (hc : s.config = some c) (hs : QueueLaw c s)
    (hoccupied : (s.di.lines.get k).occupied = true) (hrole : roleTransit (c.role k) = some g)
    (hfree : ∀ r ∈ s.pa.queue, r.line ≠ k) : (joined k g s).QueueObeys := by
  refine queueObeys_of (s := joined k g s) hc ⟨?_, fun r hr => ?_⟩
  · show ((s.pa.queue ++ [(⟨k, g, 0⟩ : Request)]).map Request.line).Nodup
    rw [List.map_append, List.nodup_append]
    refine ⟨hs.onePerLine, by simp, fun a ha b hb => ?_⟩
    obtain ⟨r, hr, rfl⟩ := List.mem_map.mp ha
    rw [List.mem_singleton.mp hb]
    exact hfree r hr
  · rcases List.mem_append.mp hr with hr | hr
    · exact hs.occupied r hr
    · rw [List.mem_singleton.mp hr]
      exact ⟨hoccupied, hrole⟩

theorem requestArrives_minor {u : State} (p : Plan) (g : TransitGroup) (hu : Minor s u)
    (hqueue : s.QueueObeys → (joined k g u).QueueObeys) : Minor s (requestArrives p k g u) := by
  by_cases hin : u.inCharge = true
  · have hjoined : Minor s (joined k g u) := ((Loose.of_minor hu).trans (joined_loose g hin)).minor hqueue
    rw [requestArrives_eq p g hin]
    exact .ite (hjoined.trans decideEarly_minor) hjoined
  · rw [requestArrives_aside p g (by simpa using hin)]
    exact hu

/-! ### The edges -/

/-- The request of a line that has just risen keeps the law of the queue: VACANT, the line had none. -/
theorem joined_risen {u : State} {c : Configuration} {g : TransitGroup} (hu : s.QueueObeys → u.QueueObeys)
    (hcl : u.cl = s.cl) (hpa : u.pa = s.pa) (hlines : u.di.lines = s.di.lines.set k l) (hl : l.occupied = true)
    (hc : s.config = some c) (hlow : (s.di.lines.get k).occupied = false) (hrole : roleTransit (c.role k) = some g)
    (hs : s.QueueObeys) : (joined k g u).QueueObeys := by
  have hconfig := (config_eq hcl).trans hc
  refine joined_queue hconfig (queueLaw_of (hu hs) hconfig) ?_ hrole fun r hr hk => ?_
  · rw [hlines, Eight.get_set_same, hl]
  · rw [hpa] at hr
    have hoccupied := ((queueLaw_of hs hc).occupied r hr).1
    rw [hk, hlow] at hoccupied
    cases hoccupied

theorem risingEdge_minor {c : Configuration} (p : Plan) (hc : s.config = some c)
    (hlow : (s.di.lines.get k).occupied = false) : Minor s (risingEdge c p k s) := by
  have hrises : Minor s (lineMoved c k (risenLine (c.role k) s.di.green (s.di.lines.get k))
      ((s.di.lines.get k).fault = .stuckOff) s) := lineMoved_rises c _ rfl
  unfold risingEdge
  dsimp only
  split
  · next g hrole =>
    obtain ⟨hcl, hpa, hlines⟩ := lineMoved_rest (s := s) (k := k)
      (l := risenLine (c.role k) s.di.green (s.di.lines.get k)) c ((s.di.lines.get k).fault = .stuckOff)
    exact .ite (requestArrives_minor p g hrises (joined_risen hrises.queue hcl hpa hlines rfl hc hlow hrole)) hrises
  · exact hrises

theorem withdraw_minor (c : Configuration) (p : Plan) (k : Num8) (s : State) : Minor s (withdraw c p k s) := by
  unfold withdraw
  refine .ite (withoutLine_minor s k) ?_
  split
  · next e he =>
    refine .ite (endExtension_minor c p ?_) (.refl s)
    rw [he]
    rfl
  · exact .refl s

/-- A withdrawal leaves no request of its line. -/
theorem withdraw_queue (c : Configuration) (p : Plan) (k : Num8) (s : State) :
    (withdraw c p k s).pa.queue = withoutLine k s.pa.queue := by
  unfold withdraw
  split
  · rfl
  · next hnone =>
    have hsame : withoutLine k s.pa.queue = s.pa.queue := List.filter_eq_self.mpr fun r hr => by
      simp only [List.any_eq_true, not_exists, not_and] at hnone
      simpa using hnone r hr
    rw [hsame]
    split
    · split
      · rw [endExtension, takeReached_pa]
      · rfl
    · rfl

theorem fallingEdge_minor {c : Configuration} (p : Plan) (hc : s.config = some c) : Minor s (fallingEdge c p k s) := by
  obtain ⟨hcl, hpa, hlines⟩ := lineMoved_rest (s := s) (k := k) (l := fallenLine (s.di.lines.get k)) c
    ((s.di.lines.get k).fault = .stuckOn)
  have hfalls : Loose s (lineMoved c k (fallenLine (s.di.lines.get k)) ((s.di.lines.get k).fault = .stuckOn) s) :=
    lineMoved_loose c _
  have hother : ∀ {j : Num8}, j ≠ k →
      (s.di.lines.set k (fallenLine (s.di.lines.get k))).get j = s.di.lines.get j := fun hj => by
    rw [Eight.get_set, if_neg hj]
  unfold fallingEdge
  dsimp only
  split
  · refine (hfalls.trans (.of_minor (withdraw_minor c p k _))).minor fun hs => ?_
    refine queueObeys_sublist hs ?_ ?_ fun r hr => ?_
    · exact (config_eq (withdraw_cl c p k _)).trans (config_eq hcl)
    · rw [withdraw_queue]
      exact hpa ▸ List.filter_sublist
    · rw [withdraw_queue] at hr
      have hj : r.line ≠ k := by simpa using (List.mem_filter.mp hr).2
      rw [withdraw_lines]
      exact (congrArg (fun v : Eight DetectorLine => (v.get r.line).occupied) hlines).trans
        (congrArg DetectorLine.occupied (hother hj))
  · next hrole =>
    refine hfalls.minor fun hs => queueObeys_sublist hs (config_eq hcl) (hpa ▸ List.Sublist.refl _) fun r hr => ?_
    have hj : r.line ≠ k := fun hj => by
      have hgroup := ((queueLaw_of hs hc).occupied r (hpa ▸ hr)).2
      rw [hj, hrole] at hgroup
      cases hgroup
    exact (congrArg (fun v : Eight DetectorLine => (v.get r.line).occupied) hlines).trans
      (congrArg DetectorLine.occupied (hother hj))

theorem filterLevel_minor {c : Configuration} (p : Plan) (hc : s.config = some c) :
    Minor s (filterLevel c p k s) := by
  unfold filterLevel
  dsimp only
  split
  · exact setLine_minor rfl
  · next hdiffers =>
    refine .ite ?_ (setLine_minor rfl)
    split
    · next hraw =>
      refine risingEdge_minor p hc (Bool.eq_false_iff.mpr fun hoccupied => hdiffers ?_)
      rw [hraw, hoccupied]
    · exact fallingEdge_minor p hc

theorem lineRises_minor (k : Num8) (s : State) : Minor s (lineRises k s) := by
  unfold lineRises
  split
  · next c p hset =>
    obtain ⟨-, hc, -⟩ := setup_some hset
    split
    · next h => exact risingEdge_minor p hc (risingDue_iff.mp h.2).2.2
    · exact .refl s
  · exact .refl s

theorem lineFalls_minor (k : Num8) (s : State) : Minor s (lineFalls k s) := by
  unfold lineFalls
  split
  · next c p hset =>
    obtain ⟨-, hc, -⟩ := setup_some hset
    exact .ite (fallingEdge_minor p hc) (.refl s)
  · exact .refl s

theorem detectorChanges_minor (k : Num8) (v : Bool) (s : State) : Minor s (detectorChanges k v s) := by
  unfold detectorChanges
  split
  · next c p hset =>
    obtain ⟨-, hc, -⟩ := setup_some hset
    exact .ite ((setRaw_minor s k v).trans (filterLevel_minor p hc)) (setRaw_minor s k v)
  · exact setRaw_minor s k v

end

end Sys2Proof.Machine

/-! ## A plan that takes effect, and the taking and leaving of charge -/

namespace Sys2Proof.Machine

/-! ### What a step does with grants -/

/-- No grant is made, and grant used stands. -/
def NoGrant (s t : State) : Prop :=
  t.counters.priorityExtended = s.counters.priorityExtended ∧ t.counters.priorityEarly = s.counters.priorityEarly
    ∧ t.pa.grantUsed = s.pa.grantUsed

/-- A cycle opens: the position is 0, and a grant made in it has left grant used set. -/
def Opening (s t : State) : Prop :=
  t.ct.position = 0 ∧ (s.counters.priorityExtended < t.counters.priorityExtended
    ∨ s.counters.priorityEarly < t.counters.priorityEarly → t.pa.grantUsed = true)

/-- An operation of a step: it keeps the laws, and makes a grant only as the first of its cycle. -/
structure Proper (s t : State) : Prop where
  lawful : s.Lawful → t.Lawful
  queue : s.QueueObeys → t.QueueObeys
  grants : Granting s t ∨ Opening s t

theorem NoGrant.of_view {s t : State} (h : t.view = s.view) : NoGrant s t := by
  obtain ⟨hpa, -, hext, hearly⟩ := view_parts h
  exact ⟨hext, hearly, by rw [hpa]⟩

theorem Opening.of_counts {s t : State} (hext : t.counters.priorityExtended = s.counters.priorityExtended)
    (hearly : t.counters.priorityEarly = s.counters.priorityEarly) (ht : t.ct.position = 0) : Opening s t := by
  refine ⟨ht, fun hmore => ?_⟩
  rw [hext, hearly] at hmore
  exact absurd hmore (by omega)

namespace Proper
variable {s t u : State}

theorem of_minor (h : Minor s t) : Proper s t := ⟨h.lawful, h.queue, .inl h.grant⟩

theorem of_eq (h : t.view = s.view ∧ t.rest = s.rest) : Proper s t := of_minor (.of_eq h)

theorem refl (s : State) : Proper s s := of_minor (.refl s)

theorem andThen (h : Proper s t) (h' : Minor t u) : Proper s u := by
  refine ⟨h'.lawful ∘ h.lawful, h'.queue ∘ h.queue, ?_⟩
  rcases h.grants with hg | ⟨hpos, hgrant⟩
  · exact .inl (hg.trans h'.grant)
  · refine .inr ⟨h'.position.trans hpos, fun hmore => ?_⟩
    rcases h'.grant with ⟨hext, hearly, hused⟩ | ⟨-, hused⟩
    · rw [hext, hearly] at hmore
      exact hused.trans (hgrant hmore)
    · exact hused

/-- What makes no grant may come before. -/
theorem after (h : Minor s t) (hnone : NoGrant s t) (h' : Proper t u) : Proper s u := by
  refine ⟨h'.lawful ∘ h.lawful, h'.queue ∘ h.queue, ?_⟩
  rcases h'.grants with hg | ⟨hpos, hgrant⟩
  · exact .inl (h.grant.trans hg)
  · refine .inr ⟨hpos, fun hmore => hgrant ?_⟩
    rw [hnone.1, hnone.2.1]
    exact hmore

theorem after_eq (h : t.view = s.view ∧ t.rest = s.rest) (h' : Proper t u) : Proper s u :=
  after (.of_eq h) (.of_view h.1) h'

theorem ite {b : Prop} [Decidable b] (ht : Proper s t) (hu : Proper s u) : Proper s (if b then t else u) := by
  split
  · exact ht
  · exact hu

end Proper

/-! ### The laws under a configuration and a plan -/

section
variable {s : State} {c : Configuration} {p : Plan}

theorem setupObeys_some (hc : s.config = some c) : s.SetupObeys ↔ c.Checked
    ∧ (∃ n p, s.mc.plan = some n ∧ c.plans.get n = some p)
    ∧ ∀ n, s.mc.pendingPlan = some n → (c.plans.get n).isSome = true := by
  simp only [State.SetupObeys, hc]

theorem cycleObeys_some (hp : s.planInForce = some p) :
    s.CycleObeys ↔ p.cMin ≤ s.cau.cycle ∧ s.cau.cycle ≤ p.cMax ∧ s.cau.cycle % 20 = 0 := by
  simp only [State.CycleObeys, hp]

theorem tripleObeys_some (hc : s.config = some c) : s.TripleObeys
    ↔ s.cau.triple.hops ≤ c.hopLimit ∧ (s.cau.triple.hops = 0 → s.cau.triple.origin = c.station) := by
  simp only [State.TripleObeys, hc]

/-- A base cycle within the limits of a checked plan. -/
theorem cycle_range (hp : p.Checked) {n : Nat} (hlow : p.cMin ≤ n) (hhigh : n ≤ p.cMax) : 300 ≤ n ∧ n ≤ 2400 :=
  ⟨hp.cMin.1.trans hlow, hhigh.trans hp.cMax.2.1⟩

theorem clampNat_cycle (hp : p.Checked) {n : Nat} (hn : n % 20 = 0) : p.cMin ≤ clampNat n p.cMin p.cMax
    ∧ clampNat n p.cMin p.cMax ≤ p.cMax ∧ clampNat n p.cMin p.cMax % 20 = 0 := by
  obtain ⟨hlow, hhigh⟩ := clampNat_mem n (cMin_le_cMax_of_checked hp)
  refine ⟨hlow, hhigh, ?_⟩
  unfold clampNat
  split
  · exact hp.cMin.2.2
  · split
    · exact hp.cMax.2.2
    · exact hn

theorem cycle_multiple (h : s.CycleObeys) : s.cau.cycle % 20 = 0 := by
  unfold State.CycleObeys at h
  split at h
  · exact h.2.2
  · rw [h]

/-- The clock at the start of a cycle that runs the base cycle, with no extension and no adjustment (R43, R45 to R47). -/
theorem clock_opening {t : State} (hpos : t.ct.position = 0) (hrun : t.ct.cRun = t.cau.cycle)
    (ha : t.ct.adjustment = 0) (hx : t.ct.x = 0) (hearly : t.ct.earlyGreen = false) (hext : t.ct.extension = .none)
    (hpa : t.pa.extension = none) (hfrom : 300 ≤ t.cau.cycle) (hto : t.cau.cycle ≤ 2400) :
    t.ClockObeys ∧ t.AdjustmentObeys := by
  refine ⟨⟨by omega, fun _ => ?_, by omega, by omega, ?_, fun he => ?_⟩, fun _ => ha, by omega, by omega⟩
  · rw [hrun, ha, hx]
    omega
  · rw [hext, hpa]
    exact ⟨nofun, nofun⟩
  · rw [hearly] at he
    cases he

/-! ### A plan takes effect out of charge -/

/-- The unit as a plan takes effect out of charge, before the requests and the storage states hear of it. -/
def planTaken (n : Num4) (p : Plan) (s : State) : State := { s with
  mc := { s.mc with plan := some n, pendingPlan := none, pendingTaken := false }
  cau := { s.cau with cycle := clampNat s.cau.cycle p.cMin p.cMax, smoothed := p.cBase }
  ct := standingPlan p (clampNat s.cau.cycle p.cMin p.cMax) s.ct }

theorem planTaken_force {n : Num4} (hc : s.config = some c) (hp : c.plans.get n = some p) :
    (planTaken n p s).planInForce = some p := by
  simp only [State.planInForce, show (planTaken n p s).config = some c from hc,
    show (planTaken n p s).mc.plan = some n from rfl, hp]

theorem planTaken_lawful {n : Num4} (hs : s.Lawful) (hin : s.inCharge = false) (hc : s.config = some c)
    (hp : c.plans.get n = some p) : (planTaken n p s).Lawful := by
  obtain ⟨hcore, haside⟩ := lawful_iff.mp hs
  have hstands := haside hin
  have hchecked := config_checked hcore.setup hc
  have hplan := hchecked.plans n p hp
  obtain ⟨hlow, hhigh, hmod⟩ := clampNat_cycle hplan (cycle_multiple hcore.cycle)
  obtain ⟨hfrom, hto⟩ := cycle_range hplan hlow hhigh
  obtain ⟨-, hpos, ha, hx, hext, hearly, -⟩ := hstands.clock
  obtain ⟨-, hnone, -⟩ := hstands.arbiter
  obtain ⟨hclock, hadj⟩ := clock_opening (t := planTaken n p s) hpos rfl ha hx hearly hext hnone hfrom hto
  refine lawful_iff.mpr ⟨⟨?_, hcore.runs, hcore.elapsed, hclock, hadj, ?_, ?_, hcore.entries, fun m hm => ?_, hcore.gating⟩,
    fun _ => ⟨hstands.clock, hstands.computation, hstands.reference, hstands.greens, hstands.lines, hstands.arbiter,
      hstands.gating, hstands.slots⟩⟩
  · exact (setupObeys_some (s := planTaken n p s) hc).mpr ⟨hchecked, ⟨n, p, rfl, hp⟩, nofun⟩
  · exact (cycleObeys_some (planTaken_force hc hp)).mpr ⟨hlow, hhigh, hmod⟩
  · exact (tripleObeys_some (s := planTaken n p s) hc).mpr ((tripleObeys_some hc).mp hcore.triple)
  · rw [show (planTaken n p s).cau.snapshot = none from hstands.computation] at hm
    cases hm

theorem planStanding_minor {n : Num4} (hin : s.inCharge = false) (hc : s.config = some c)
    (hp : c.plans.get n = some p) : Minor s (planStanding c n p s) := by
  have htaken : Minor s (planTaken n p s) := ⟨fun hs => planTaken_lawful hs hin hc hp,
    fun hs => queueObeys_sublist hs rfl (List.Sublist.refl _) fun _ _ => rfl, rfl, .inl ⟨rfl, rfl, rfl⟩⟩
  exact htaken.trans ((expireAged_minor _ p).trans ((enterFullWhenDue_minor _ c p _).trans (enterFullWhenDue_minor _ c p _)))

/-! ### Taking charge -/

/-- The unit as it takes charge, its lines, greens and counts as they were. -/
def chargeBegun (c : Configuration) (p : Plan) (s : State) : State := { s with
  mc := { s.mc with mode := .inCharge .leading, pickupElapsed := 0 }
  ct := startClock p s.cau.cycle s.ct
  lc := linkTakesCharge c.period s.lc
  pa := .initial
  gt := ⟨gateTakesCharge s.gt.inbound, gateTakesCharge s.gt.outbound⟩ }

theorem chargeBegun_lawful (hs : s.Lawful) (hset : s.setup = some (c, p)) : (chargeBegun c p s).Lawful := by
  obtain ⟨hcore, -⟩ := lawful_iff.mp hs
  obtain ⟨-, hc, hp, -⟩ := setup_some hset
  have hplan := plan_checked hset (config_checked hcore.setup hc)
  obtain ⟨hlow, hhigh, -⟩ := cycle_inLimits hcore.cycle hp
  obtain ⟨hfrom, hto⟩ := cycle_range hplan hlow hhigh
  obtain ⟨hclock, hadj⟩ := clock_opening (t := chargeBegun c p s) rfl rfl rfl rfl rfl rfl rfl hfrom hto
  refine lawful_of_charge ⟨?_, fun _ => rfl, fun _ => rfl, hclock, hadj, hcore.cycle, hcore.triple,
    hcore.entries, fun m hm => ?_, fun d m hm => ?_⟩ rfl
  · exact (setupObeys_some (s := chargeBegun c p s) hc).mpr ((setupObeys_some hc).mp hcore.setup)
  · obtain ⟨-, hrest⟩ := hcore.snapshot m hm
    exact ⟨rfl, hrest⟩
  · have hstation : (s.gt.get d).station = some m := by
      cases d with
      | inbound => exact hm
      | outbound => exact hm
    obtain ⟨-, hrest⟩ := hcore.gating d m hstation
    exact ⟨rfl, hrest⟩

theorem judgeGating_minor (removed : Option Nat) (hset : s.setup = some (c, p)) :
    Minor s (judgeGating c p removed s) := by
  have hreport : reportToGating removed (s.withEntries s.nt.entries) = judgeGating c p removed s := by
    unfold reportToGating
    simp only [show (s.withEntries s.nt.entries).setup = some (c, p) from hset]
    rfl
  rw [← hreport]
  exact report_minor removed id

theorem queueObeys_nil (h : s.pa.queue = []) : s.QueueObeys := by
  unfold State.QueueObeys
  split
  · refine ⟨?_, fun r hr => ?_⟩
    · rw [h]
      exact List.nodup_nil
    · rw [h] at hr
      cases hr
  · exact h

theorem takeCharge_begun (hset : s.setup = some (c, p)) : takeCharge s = takeReachedDeciding c p (judgeGating c p none
    (requestBeacon (setGreens true (zeroCounts (clearLines (chargeBegun c p s)))))) := by
  simp only [takeCharge, hset]
  rfl

theorem takeCharge_proper (s : State) : Proper s (takeCharge s) := by
  cases hset : s.setup with
  | none =>
    rw [takeCharge, hset]
    exact .refl s
  | some cp =>
    obtain ⟨c, p⟩ := cp
    have hbegun : Proper s (chargeBegun c p s) :=
      ⟨fun hs => chargeBegun_lawful hs hset, fun _ => queueObeys_nil rfl, .inr (.of_counts rfl rfl rfl)⟩
    obtain ⟨u, hu⟩ : ∃ u, u = requestBeacon (setGreens true (zeroCounts (clearLines (chargeBegun c p s)))) := ⟨_, rfl⟩
    have hshown : Minor (chargeBegun c p s) u := by
      rw [hu]
      exact (clearLines_minor _ (.inl rfl)).trans ((zeroCounts_minor _).trans
        ((setGreens_minor _ true (.inl rfl)).trans (requestBeacon_minor _)))
    have hmc : u.mc = (chargeBegun c p s).mc := by rw [hu, requestBeacon_mc]; rfl
    have hcl : u.cl = s.cl := by rw [hu, requestBeacon_cl]; rfl
    have hjudged : Minor u (judgeGating c p none u) :=
      judgeGating_minor none ((setup_eq hcl (congrArg MC.plan hmc :)).trans hset)
    have hcharge : (judgeGating c p none u).inCharge = true := by
      rw [State.inCharge, judgeGating_mc, hmc]
      rfl
    rw [takeCharge_begun hset, ← hu]
    exact (hbegun.andThen hshown).andThen (hjudged.trans (takeReachedDeciding_minor c p (.inl hcharge)))

/-! ### Leaving charge -/

theorem stoodDown_lawful {m : Mode} (hm : modeInCharge m = false) (hin : s.inCharge = true) (hs : s.Lawful)
    (hset : s.setup = some (c, p)) : (stoodDown m p s).Lawful := by
  obtain ⟨hcore, -⟩ := lawful_iff.mp hs
  obtain ⟨-, hc, hp, -⟩ := setup_some hset
  have hplan := plan_checked hset (config_checked hcore.setup hc)
  obtain ⟨hlow, hhigh, -⟩ := cycle_inLimits hcore.cycle hp
  obtain ⟨hfrom, hto⟩ := cycle_range hplan hlow hhigh
  have hgate : ∀ d, ((stoodDown m p s).gt.get d).station = none ∧ ((stoodDown m p s).gt.get d).point = none
      ∧ ((stoodDown m p s).gt.get d).reached = false := fun d => by
    cases d with
    | inbound => exact ⟨rfl, rfl, rfl⟩
    | outbound => exact ⟨rfl, rfl, rfl⟩
  obtain ⟨hclock, hadj⟩ := clock_opening (t := stoodDown m p s) rfl rfl rfl rfl rfl rfl rfl hfrom hto
  refine lawful_iff.mpr ⟨⟨?_, fun hon => ?_, fun _ => hcore.elapsed fun hpick => ?_, hclock, hadj, hcore.cycle,
    hcore.triple, hcore.entries, fun n hn => ?_, fun d n hn => ?_⟩, fun _ => ?_⟩
  · exact (setupObeys_some (s := stoodDown m p s) hc).mpr ((setupObeys_some hc).mp hcore.setup)
  · rw [show (stoodDown m p s).inCharge = false from hm] at hon
    cases hon
  · rw [State.inCharge, hpick] at hin
    cases hin
  · rw [show (stoodDown m p s).cau.snapshot = none from rfl] at hn
    cases hn
  · rw [(hgate d).1] at hn
    cases hn
  · refine ⟨⟨rfl, rfl, rfl, rfl, rfl, rfl, rfl⟩, rfl, rfl, rfl, fun k => ?_, ⟨rfl, rfl, rfl, rfl⟩, hgate, ?_⟩
    · show ((s.olu.mapNum fun _ (o : OutputLine) => { o with drive := false }).get k).drive = false
      rw [Eight.get_mapNum]
    · show (linkLeavesCharge s.lc).Quiet
      rw [linkLeavesCharge_eq]
      exact deferWhenIdle_quiet ⟨rfl, rfl, rfl⟩

theorem pendingTakesEffect_minor (hin : s.inCharge = false) (hc : s.config = some c) :
    Minor s (pendingTakesEffect c s) := by
  unfold pendingTakesEffect
  split
  · split
    · next hp => exact planStanding_minor hin hc hp
    · exact .refl s
  · exact .of_eq ⟨rfl, rfl⟩

theorem leaveCharge_proper {m : Mode} (hm : modeInCharge m = false) (hin : s.inCharge = true) :
    Proper s (leaveCharge m s) := by
  cases hset : s.setup with
  | none =>
    rw [leaveCharge, hset]
    exact .refl s
  | some cp =>
    obtain ⟨c, p⟩ := cp
    rw [leaveCharge_eq hset]
    refine Proper.andThen ⟨fun hs => stoodDown_lawful hm hin hs hset, fun _ => queueObeys_nil rfl,
      .inr (.of_counts rfl rfl rfl)⟩ (pendingTakesEffect_minor hm (setup_some hset).2.1)

end

end Sys2Proof.Machine

/-! ## The changes of mode, the loads and the resets keep the laws -/

namespace Sys2Proof.Machine

section
variable {s : State} {c : Configuration} {p : Plan}

/-! ### Changes of mode out of charge -/

/-- A unit not in charge moves to another mode out of charge. -/
theorem modeAside_minor {m : Mode} {e : Nat} (hm : modeInCharge m = false) (he : m ≠ .pickup → e = 0)
    (hs : s.Lawful → s.inCharge = false ∧ (m = .pass ∨ ∃ c, s.config = some c)) :
    Minor s { s with mc := { s.mc with mode := m, pickupElapsed := e } } := by
  obtain ⟨u, hu⟩ : ∃ u : State, u = { s with mc := { s.mc with mode := m, pickupElapsed := e } } := ⟨_, rfl⟩
  rw [← hu]
  have hcl : u.cl = s.cl := by rw [hu]
  have hconfig := config_eq hcl
  refine ⟨fun hlaw => ?_, fun hq => queueObeys_sublist hq hconfig (by rw [hu]) fun r _ => by rw [hu], by rw [hu], .inl ?_⟩
  · obtain ⟨hnot, hmode⟩ := hs hlaw
    obtain ⟨hcore, haside⟩ := lawful_iff.mp hlaw
    obtain ⟨hclock, hcomp, href, hgreen, hlines, harbiter, hgate, hslots⟩ := haside hnot
    obtain ⟨hbelow, hlength, hgreatest, htime, hextension, hearly⟩ := hcore.clock
    subst hu
    refine lawful_iff.mpr ⟨⟨?_, fun hin => ?_, he, ⟨hbelow, hlength, hgreatest, htime, hextension, hearly⟩,
      hcore.adjustment, hcore.cycle, hcore.triple, hcore.entries, fun n hn => ?_, fun d n hn => ?_⟩,
      fun _ => ⟨hclock, hcomp, href, hgreen, hlines, harbiter, hgate, hslots⟩⟩
    · cases hc : s.config with
      | some c => exact (setupObeys_some (hconfig.trans hc)).mpr ((setupObeys_some hc).mp hcore.setup)
      | none =>
        have hsetup := hcore.setup
        simp only [State.SetupObeys, hconfig, hc] at hsetup ⊢
        rcases hmode with hpass | ⟨c, hsome⟩
        · exact ⟨hpass, hsetup.2⟩
        · rw [hc] at hsome
          cases hsome
    · rw [State.inCharge, hm] at hin
      cases hin
    · rw [hcomp] at hn
      cases hn
    · rw [(hgate d).1] at hn
      cases hn
  · rw [hu]
    exact ⟨rfl, rfl, rfl⟩

theorem enterPreempted_minor (hs : s.Lawful → s.inCharge = false ∧ ∃ c, s.config = some c) :
    Minor s (enterPreempted s) :=
  (modeAside_minor rfl (fun _ => rfl) fun h => ⟨(hs h).1, .inr (hs h).2⟩).trans
    ((count_minor _ .preempted ⟨nofun, nofun⟩).trans (setFlag_minor _ _))

/-- The queue and the grants of a unit that leaves PASS, whatever its laws. -/
theorem leavePass_rest (c : Configuration) (s : State) : (s.QueueObeys → (leavePass c s).QueueObeys)
    ∧ (Granting s (leavePass c s) ∨ Opening s (leavePass c s)) := by
  unfold leavePass
  split
  · exact ⟨fun hq => queueObeys_sublist hq rfl (List.Sublist.refl _) fun _ _ => rfl, .inl (.inl ⟨rfl, rfl, rfl⟩)⟩
  · split
    · exact ⟨fun hq => queueObeys_sublist hq rfl (List.Sublist.refl _) fun _ _ => rfl, .inl (.inl ⟨rfl, rfl, rfl⟩)⟩
    · exact ⟨(takeCharge_proper s).queue, (takeCharge_proper s).grants⟩

theorem leavePass_lawful (hs : s.Lawful) (hc : s.config = some c) (hin : s.inCharge = false) :
    (leavePass c s).Lawful := by
  unfold leavePass
  split
  · exact (enterPreempted_minor fun _ => ⟨hin, c, hc⟩).lawful hs
  · split
    · exact (modeAside_minor (m := .pickup) rfl (fun _ => rfl) fun _ => ⟨hin, .inr ⟨c, hc⟩⟩).lawful hs
    · exact (takeCharge_proper s).lawful hs

theorem leavePass_proper (hc : s.config = some c) (hin : s.inCharge = false) : Proper s (leavePass c s) :=
  ⟨fun hs => leavePass_lawful hs hc hin, (leavePass_rest c s).1, (leavePass_rest c s).2⟩

theorem pickupExpires_proper (s : State) : Proper s (pickupExpires s) :=
  .after (setFlag_minor s .pickupTimeout) (.of_view rfl) (takeCharge_proper _)

theorem pickupRunsOut_proper (s : State) : Proper s (pickupRunsOut s) := by
  unfold pickupRunsOut
  split
  · exact .ite (pickupExpires_proper s) (.refl s)
  · exact .refl s

theorem syncRises_proper (s : State) : Proper s (syncRises s) :=
  .ite (.after_eq (changeInput_view s _ .sync) (.ite (takeCharge_proper _) (.refl _))) (.refl s)

theorem preemptFalls_proper (s : State) : Proper s (preemptFalls s) :=
  .ite (.after_eq (changeInput_view s _ .preempt) (.ite (takeCharge_proper _) (.refl _))) (.refl s)

theorem pendingTakesEffect_inCharge (c : Configuration) (s : State) :
    (pendingTakesEffect c s).inCharge = s.inCharge := by
  have hmode : (pendingTakesEffect c s).mc.mode = s.mc.mode := by
    unfold pendingTakesEffect
    split
    · split
      · simp [planStanding]
      · rfl
    · rfl
  rw [State.inCharge, hmode]
  rfl

/-- A lawful unit that leaves charge for a mode has left it, under its configuration. -/
theorem leaveCharge_aside {m : Mode} (hm : modeInCharge m = false) (hset : s.setup = some (c, p)) :
    (leaveCharge m s).inCharge = false ∧ (leaveCharge m s).config = some c := by
  refine ⟨?_, (config_eq (leaveCharge_cl m s)).trans (setup_some hset).2.1⟩
  rw [leaveCharge_eq hset, pendingTakesEffect_inCharge]
  exact hm

theorem preemptUnit_proper (s : State) : Proper s (preemptUnit s) := by
  unfold preemptUnit
  split
  · next m hm =>
    have hin : s.inCharge = true := by
      rw [State.inCharge, hm]
      rfl
    cases hset : s.setup with
    | none =>
      have hsame : leaveCharge .preempted s = s := by
        rw [leaveCharge, hset]
      rw [hsame]
      refine .of_minor ((enterPreempted_minor fun hs => ?_).trans (requestDepart_minor _ _))
      obtain ⟨c, p, hsome⟩ := setup_of_charge hs.setup hin
      rw [hset] at hsome
      cases hsome
    | some cp =>
      obtain ⟨hout, hconfig⟩ := leaveCharge_aside (s := s) (m := .preempted) rfl hset
      exact (leaveCharge_proper rfl hin).andThen
        ((enterPreempted_minor fun _ => ⟨hout, _, hconfig⟩).trans (requestDepart_minor _ _))
  · next hm =>
    refine .of_minor (enterPreempted_minor fun hs => ⟨by rw [State.inCharge, hm]; rfl, ?_⟩)
    cases hc : s.config with
    | some c => exact ⟨c, rfl⟩
    | none =>
      have hsetup := hs.setup
      simp only [State.SetupObeys, hc] at hsetup
      rw [hm] at hsetup
      cases hsetup.1
  · exact .refl s
  · exact .refl s

theorem preemptRises_proper (s : State) : Proper s (preemptRises s) :=
  .ite (.after_eq (changeInput_view s _ .preempt) (preemptUnit_proper _)) (.refl s)

theorem holdUnit_proper (s : State) : Proper s (holdUnit s) := by
  unfold holdUnit
  split
  · next m hm =>
    have hin : s.inCharge = true := by
      rw [State.inCharge, hm]
      rfl
    exact (leaveCharge_proper rfl hin).andThen (requestDepart_minor _ _)
  · next hm =>
    exact .of_minor (modeAside_minor rfl (fun _ => rfl) fun _ => ⟨by rw [State.inCharge, hm]; rfl, .inl rfl⟩)
  · next hm =>
    refine .of_minor ⟨fun hs => ?_, fun hq => queueObeys_sublist hq rfl (List.Sublist.refl _) fun _ _ => rfl, rfl,
      .inl ⟨rfl, rfl, rfl⟩⟩
    have helapsed : s.mc.pickupElapsed = 0 := hs.charge.2.2 (by rw [hm]; nofun)
    exact (modeAside_minor (m := .pass) rfl (fun _ => helapsed) fun _ =>
      ⟨by rw [State.inCharge, hm]; rfl, .inl rfl⟩).lawful hs
  · exact .refl s

/-! ### Loads -/

/-- The status of a load that gives no configuration. -/
theorem loadStatus_minor {l : Load} (hs : s.config = none) (hl : State.config { s with cl := l } = none) :
    Minor s { s with cl := l } := by
  obtain ⟨u, hu⟩ : ∃ u : State, u = { s with cl := l } := ⟨_, rfl⟩
  rw [← hu] at hl ⊢
  have hforce : u.planInForce = s.planInForce := by simp only [State.planInForce, hs, hl]
  refine ⟨fun hlaw => ?_, fun hq => ?_, by rw [hu], .inl (by rw [hu]; exact ⟨rfl, rfl, rfl⟩)⟩
  · obtain ⟨hcore, haside⟩ := lawful_iff.mp hlaw
    have hsetup := hcore.setup
    simp only [State.SetupObeys, hs] at hsetup
    have hnot : s.inCharge = false := by
      obtain ⟨hmode, -⟩ := hsetup
      rw [State.inCharge, hmode]
      rfl
    obtain ⟨hclock, hcomp, href, hgreen, hlines, harbiter, hgate, hslots⟩ := haside hnot
    obtain ⟨hbelow, hlength, hgreatest, htime, hextension, hearly⟩ := hcore.clock
    refine lawful_iff.mpr ⟨⟨?_, ?_, ?_, ?_, ?_, ?_, ?_, ?_, fun n hn => ?_, fun d n hn => ?_⟩, fun _ => ?_⟩
    · simp only [State.SetupObeys, hl]
      rw [hu]
      exact hsetup
    · rw [hu]
      exact hcore.runs
    · rw [hu]
      exact hcore.elapsed
    · rw [hu]
      exact ⟨hbelow, hlength, hgreatest, htime, hextension, hearly⟩
    · rw [hu]
      exact hcore.adjustment
    · have hcycle := hcore.cycle
      rw [State.CycleObeys] at hcycle ⊢
      rw [hforce, hu]
      exact hcycle
    · have htriple := hcore.triple
      simp only [State.TripleObeys, hs] at htriple
      simp only [State.TripleObeys, hl]
      rw [hu]
      exact htriple
    · rw [hu]
      exact hcore.entries
    · rw [show u.cau.snapshot = s.cau.snapshot by rw [hu], hcomp] at hn
      cases hn
    · rw [show u.gt = s.gt by rw [hu], (hgate d).1] at hn
      cases hn
    · rw [hu]
      exact ⟨hclock, hcomp, href, hgreen, hlines, harbiter, hgate, hslots⟩
  · simp only [State.QueueObeys, hs] at hq
    exact queueObeys_nil (by rw [hu]; exact hq)

theorem loadBad_minor (i : Nat) (hcl : s.cl = .loading) : Minor s (loadBad i s) :=
  (loadStatus_minor (by simp only [State.config, hcl]) rfl).trans (setFlag_minor _ _)

/-- A lawful unit under a load is not in charge and has no plan pending. -/
theorem loading_aside (hs : s.Lawful) (hcl : s.cl = .loading) : s.inCharge = false ∧ s.mc.pendingPlan = none := by
  have hnone : s.config = none := by simp only [State.config, hcl]
  have hsetup := hs.setup
  simp only [State.SetupObeys, hnone] at hsetup
  obtain ⟨hmode, -, hpending⟩ := hsetup
  exact ⟨by rw [State.inCharge, hmode]; rfl, hpending⟩

theorem takeConfiguration_lawful (hs : s.Lawful) (hcl : s.cl = .loading) (hc : c.Checked) (hp : c.plans.n1 = some p) :
    (takeConfiguration c p s).Lawful := by
  obtain ⟨hcore, haside⟩ := lawful_iff.mp hs
  obtain ⟨hnot, hpending⟩ := loading_aside hs hcl
  have hstands := haside hnot
  have hplan := hc.plans .n1 p hp
  obtain ⟨hfrom, hto, hmod⟩ := hplan.cBase
  obtain ⟨-, hpos, ha, hx, hext, hearly, -⟩ := hstands.clock
  obtain ⟨-, hnone, -⟩ := hstands.arbiter
  obtain ⟨hclock, hadj⟩ := clock_opening (t := takeConfiguration c p s) hpos rfl ha hx hearly hext hnone hfrom hto
  refine lawful_iff.mpr ⟨⟨?_, hcore.runs, hcore.elapsed, hclock, hadj, ?_, ?_, hcore.entries, fun m hm => ?_,
    fun d n hn => ?_⟩, fun _ => takeConfiguration_aside hstands⟩
  · refine (setupObeys_some (s := takeConfiguration c p s) rfl).mpr ⟨hc, ⟨.n1, p, rfl, hp⟩, fun n hn => ?_⟩
    rw [show (takeConfiguration c p s).mc.pendingPlan = none from hpending] at hn
    cases hn
  · exact (cycleObeys_some (setup_some (takeConfiguration_setup hp s)).2.2.1).mpr ⟨hplan.limits.1, hplan.limits.2, hmod⟩
  · exact (tripleObeys_some (s := takeConfiguration c p s) rfl).mpr ⟨Nat.zero_le _, fun _ => rfl⟩
  · rw [show (takeConfiguration c p s).cau.snapshot = none from hstands.computation] at hm
    cases hm
  · rw [show ((takeConfiguration c p s).gt.get d).station = none from (hstands.gating d).1] at hn
    cases hn

theorem loadGood_proper (hcl : s.cl = .loading) (hc : c.Checked) : Proper s (loadGood c s) := by
  unfold loadGood
  split
  · next p hp =>
    have hnone : s.config = none := by simp only [State.config, hcl]
    obtain ⟨u, hu⟩ : ∃ u, u = takeConfiguration c p s := ⟨_, rfl⟩
    obtain ⟨hqueue, hgrants⟩ := leavePass_rest c u
    rw [← hu]
    refine ⟨fun hs => ?_, fun hq => hqueue (queueObeys_nil ?_), ?_⟩
    · refine leavePass_lawful (hu ▸ takeConfiguration_lawful hs hcl hc hp) (by rw [hu]; rfl) ?_
      rw [hu]
      exact (loading_aside hs hcl).1
    · rw [hu]
      simp only [State.QueueObeys, hnone] at hq
      exact hq
    · rw [hu] at hgrants ⊢
      exact hgrants
  · exact .refl s

theorem completeLoad_proper (o : LoadObservation) (s : State) : Proper s (completeLoad o s) := by
  unfold completeLoad
  split
  · next hcl hend => exact loadGood_proper hcl (checked_of_loadEnd hend).1
  · next hcl _ => exact .of_minor (loadBad_minor _ hcl)
  · exact .refl s
  · exact .refl s
  · exact .refl s

/-! ### Resets -/

theorem resetBlocks_lawful (f w : Word16) (n : Counters) (s : State) : (resetBlocks f w n s).Lawful := by
  have hgate : ∀ d, (resetBlocks f w n s).gt.get d = .initial := fun d => by cases d <;> rfl
  obtain ⟨hclock, hadj⟩ := clock_opening (t := resetBlocks f w n s) rfl rfl rfl rfl rfl rfl rfl (Nat.le_refl 300)
    (show 300 ≤ 2400 by omega)
  refine lawful_iff.mpr ⟨⟨⟨rfl, rfl, rfl⟩, fun h => (nomatch h), fun _ => rfl, hclock, hadj, rfl, rfl, fun e he => (nomatch he),
    fun m hm => (nomatch hm), fun d m hm => ?_⟩, fun _ => ?_⟩
  · rw [hgate] at hm
    cases hm
  · refine ⟨⟨rfl, rfl, rfl, rfl, rfl, rfl, rfl⟩, rfl, rfl, rfl, fun k => ?_, ⟨rfl, rfl, rfl, rfl⟩, fun d => ?_,
      ⟨rfl, rfl, rfl⟩⟩
    · show ((s.olu.mapNum fun _ o => OutputLine.initial o.passThrough).get k).drive = false
      rw [Eight.get_mapNum]
      rfl
    · rw [hgate]
      exact ⟨rfl, rfl, rfl⟩

theorem actRestart_proper (s : State) : Proper s (actRestart s) :=
  ⟨fun _ => resetBlocks_lawful _ _ _ s, fun _ => queueObeys_nil rfl, .inr (.of_counts rfl rfl rfl)⟩

theorem powerUp_proper (s : State) : Proper s (resetBlocks 0 0 .zero { s with resetHeld := false, supplyOut := false }) :=
  ⟨fun _ => resetBlocks_lawful _ _ _ _, fun _ => queueObeys_nil rfl, .inr ⟨rfl, fun h => by
    rcases h with h | h
    · exact absurd h (Nat.not_lt_zero _)
    · exact absurd h (Nat.not_lt_zero _)⟩⟩

end

end Sys2Proof.Machine

/-! ## The wrap, the step of the clock and the completion keep the laws -/

namespace Sys2Proof.Machine

/-! ### The wrap -/

/-- The counts of grants. -/
def State.grants (s : State) : Nat × Nat := (s.counters.priorityExtended, s.counters.priorityEarly)

theorem enterFault_grants (c : Configuration) (k : Num8) (v : FaultState) (s : State) :
    (enterFault c k v s).grants = s.grants := by
  unfold enterFault
  dsimp only
  split
  · rw [State.grants, setStorage_counters]
    rfl
  · rfl

theorem closeCycle_grants (c : Configuration) (p : Plan) (s : State) : (closeCycle c p s).grants = s.grants := by
  unfold closeCycle
  rw [State.grants, judgeStorage_counters, judgeStorage_counters]
  refine (foldl_keeps State.grants _ (fun s k => ?_) _ _).trans rfl
  split
  · exact enterFault_grants c k _ s
  · rfl

theorem appendRecord_grants (c : Configuration) (r : LogRecord) (s : State) :
    (appendRecord c r s).grants = s.grants := foldl_keeps State.grants (fun s _ => countAged s) (fun _ _ => rfl) _ s

section
variable {s : State} {c : Configuration} {p : Plan}

/-- The clock has opened the next cycle of a unit whose cycle is at its end. -/
theorem cycleOpened_lawful (hs : s.Lawful) (hset : s.setup = some (c, p)) (hin : s.inCharge = true)
    (hext : s.ct.extension ≠ .running) : State.Lawful { s with ct := openCycle p s.cau.cycle s.ct } := by
  obtain ⟨hcore, -⟩ := lawful_iff.mp hs
  obtain ⟨-, hc, hp, -⟩ := setup_some hset
  have hplan := plan_checked hset (config_checked hcore.setup hc)
  obtain ⟨hlow, hhigh, -⟩ := cycle_inLimits hcore.cycle hp
  obtain ⟨hfrom, hto⟩ := cycle_range hplan hlow hhigh
  have hnone : s.pa.extension = none := Option.not_isSome_iff_eq_none.mp fun h => hext (hcore.clock.extension.mpr h)
  obtain ⟨hclock, hadj⟩ := clock_opening (t := { s with ct := openCycle p s.cau.cycle s.ct }) rfl rfl rfl rfl rfl rfl
    hnone hfrom hto
  exact lawful_of_charge (hcore.change rfl id hclock hadj) hin

theorem startComputation_minor (m : ChargeMode) (f : CT) (hin : s.inCharge = true) :
    Minor s (startComputation c p m f s) := by
  refine ⟨fun hs => ?_, fun hq => queueObeys_sublist hq rfl (List.Sublist.refl _) fun _ _ => rfl, rfl,
    .inl ⟨rfl, rfl, rfl⟩⟩
  obtain ⟨hcore, -⟩ := lawful_iff.mp hs
  obtain ⟨hbelow, hlength, hgreatest, htime, hextension, hearly⟩ := hcore.clock
  refine lawful_of_charge ⟨hcore.setup, hcore.runs, hcore.elapsed,
    ⟨hbelow, hlength, hgreatest, htime, hextension, hearly⟩, hcore.adjustment, hcore.cycle, hcore.triple, hcore.entries,
    fun n hn => ?_, hcore.gating⟩ hin
  cases hn
  refine ⟨hin, rfl, hcore.entries, fun d k hd hk => ?_⟩
  exact ((setupObeys_some hd).mp hcore.setup).2.2 k hk

/-- The arbiter opens the next cycle of a unit with no early green. -/
theorem priorityWrap_lawful (hs : s.Lawful) (hin : s.inCharge = true) (hearly : s.ct.earlyGreen = false) :
    State.Lawful { s with pa := priorityWrap s.pa } := by
  obtain ⟨hcore, -⟩ := lawful_iff.mp hs
  obtain ⟨hbelow, hlength, hgreatest, htime, hextension, -⟩ := hcore.clock
  refine lawful_of_charge (hcore.change rfl id ⟨hbelow, hlength, hgreatest, htime, hextension, fun he => ?_⟩
    hcore.adjustment) hin
  rw [show s.ct.earlyGreen = true from he] at hearly
  cases hearly

/-- The unit at a wrap with the finished cycle closed, recorded and taken into a computation. -/
def cycleClosed (c : Configuration) (p : Plan) (m : ChargeMode) (s : State) : State :=
  startComputation c p m s.ct (appendRecord c
    (makeRecord p s.ct (closeCycle c p { s with ct := openCycle p s.cau.cycle s.ct }))
    (closeCycle c p { s with ct := openCycle p s.cau.cycle s.ct }))

theorem doWrap_closed {m : ChargeMode} (hset : s.setup = some (c, p)) (hm : s.mc.mode = .inCharge m) : doWrap s
    = takeReachedDeciding c p (gatingWrap c p (setGreens true (clearLines
      { cycleClosed c p m s with pa := priorityWrap (cycleClosed c p m s).pa }))) := by
  simp only [doWrap, hset, hm]
  rfl

theorem cycleClosed_rest (c : Configuration) (p : Plan) (m : ChargeMode) (s : State) :
    (cycleClosed c p m s).ct = openCycle p s.cau.cycle s.ct ∧ (cycleClosed c p m s).mc.mode = s.mc.mode
      ∧ (cycleClosed c p m s).grants = s.grants := by
  unfold cycleClosed startComputation
  refine ⟨?_, ?_, ?_⟩
  · show (appendRecord c _ _).ct = _
    rw [appendRecord_ct, closeCycle_ct]
  · show (appendRecord c _ _).mc.mode = _
    rw [appendRecord_mc, closeCycle_mc]
  · show (appendRecord c _ _).grants = _
    rw [appendRecord_grants, closeCycle_grants]
    rfl

/-- The wrap up to its dues: grant used is clear, at the position 0. -/
theorem priorityWrap_proper {m : ChargeMode} (hset : s.setup = some (c, p)) (hm : s.mc.mode = .inCharge m)
    (hext : s.ct.extension ≠ .running) :
    Proper s { cycleClosed c p m s with pa := priorityWrap (cycleClosed c p m s).pa } := by
  obtain ⟨hct, hmode, hgrants⟩ := cycleClosed_rest c p m s
  obtain ⟨hextended, hearly⟩ := Prod.mk.injEq .. ▸ hgrants
  have hin : s.inCharge = true := by
    rw [State.inCharge, hm]
    rfl
  have hclosed : Minor { s with ct := openCycle p s.cau.cycle s.ct } (cycleClosed c p m s) := by
    refine (closeCycle_minor _ c p).trans ((appendRecord_minor _ c _).trans (startComputation_minor m s.ct ?_))
    rw [State.inCharge, appendRecord_mc, closeCycle_mc, hm]
    rfl
  have hcharge : (cycleClosed c p m s).inCharge = true := by
    rw [State.inCharge, hmode, hm]
    rfl
  refine ⟨fun hs => priorityWrap_lawful (hclosed.lawful (cycleOpened_lawful hs hset hin hext)) hcharge
    (congrArg CT.earlyGreen hct), fun hq => ?_, .inr (.of_counts hextended hearly (congrArg CT.position hct))⟩
  refine queueObeys_sublist (hclosed.queue ?_) rfl (List.Sublist.refl _) fun _ _ => rfl
  exact queueObeys_sublist hq rfl (List.Sublist.refl _) fun _ _ => rfl

theorem gatingWrap_minor (hin : s.inCharge = true) : Minor s (gatingWrap c p s) :=
  .of_busy (gatingWrap_view s c p) (.inl hin)

theorem doWrap_proper (hext : s.ct.extension ≠ .running) : Proper s (doWrap s) := by
  by_cases h : ∃ c p m, s.setup = some (c, p) ∧ s.mc.mode = .inCharge m
  · obtain ⟨c, p, m, hset, hm⟩ := h
    obtain ⟨u, hu⟩ : ∃ u : State, u = { cycleClosed c p m s with pa := priorityWrap (cycleClosed c p m s).pa } := ⟨_, rfl⟩
    have hwrap := priorityWrap_proper hset hm hext
    have hin : u.inCharge = true := by
      have hmode : u.mc.mode = s.mc.mode := by
        rw [hu]
        exact (cycleClosed_rest c p m s).2.1
      rw [State.inCharge, hmode, hm]
      rfl
    rw [doWrap_closed hset hm, ← hu]
    rw [← hu] at hwrap
    have hshown : Minor u (setGreens true (clearLines u)) :=
      (clearLines_minor u (.inl hin)).trans (setGreens_minor _ true (.inl hin))
    obtain ⟨v, hv⟩ : ∃ v : State, v = setGreens true (clearLines u) := ⟨_, rfl⟩
    have hvin : v.inCharge = true := by
      rw [hv]
      exact hin
    have hgated : Minor v (gatingWrap c p v) := gatingWrap_minor hvin
    have hbusy : (gatingWrap c p v).Busy := .inl ((frame_inCharge (view_frame (gatingWrap_view v c p))).trans hvin)
    rw [← hv] at hshown ⊢
    exact (hwrap.andThen hshown).andThen (hgated.trans (takeReachedDeciding_minor c p hbusy))
  · unfold doWrap
    split
    · next c p m hset hm => exact absurd ⟨c, p, m, hset, hm⟩ h
    · exact .refl s

/-! ### The step of the clock -/

theorem extensionStep_proper (hp : s.planInForce = some p) (hext : s.ct.extension = .running) (hx : s.ct.x < 300) :
    Proper s { s with ct := extensionStep p s.ct } := by
  refine ⟨fun hs => ?_, fun hq => queueObeys_sublist hq rfl (List.Sublist.refl _) fun _ _ => rfl, .inl (.inl ⟨rfl, rfl, rfl⟩)⟩
  obtain ⟨hcore, haside⟩ := lawful_iff.mp hs
  obtain ⟨hbelow, hlength, -, htime, hextension, hearly⟩ := hcore.clock
  have hplain : s.ct.earlyGreen = false := Bool.eq_false_iff.mpr fun he => (hearly he).2 hext
  obtain ⟨-, -, hshort⟩ := hcore.adjustment
  have hlimit : s.cau.cycle ≤ 2400 := by
    cases hc : s.config with
    | none => simp only [State.planInForce, hc] at hp; cases hp
    | some c =>
      have hset : s.setup = some (c, p) := by simp only [State.setup, hc, hp]
      obtain ⟨hlow, hhigh, -⟩ := cycle_inLimits hcore.cycle hp
      exact (cycle_range (plan_checked hset (config_checked hcore.setup hc)) hlow hhigh).2
  have hrun := hlength hplain
  refine lawful_iff.mpr ⟨hcore.change rfl id ⟨?_, fun _ => ?_, ?_, ?_, hextension, hearly⟩ hcore.adjustment, fun hin => ?_⟩
  · show s.ct.position + 1 < s.ct.cRun + 1
    omega
  · show ((s.ct.cRun + 1 : Nat) : Int) = s.cau.cycle + s.ct.adjustment + (s.ct.x + 1 : Nat)
    omega
  · show s.ct.cRun + 1 ≤ 3180
    omega
  · show s.ct.x + 1 ≤ 300
    omega
  · obtain ⟨-, -, -, -, hnone, -⟩ := (haside hin).clock
    rw [hext] at hnone
    cases hnone

theorem plainStep_proper (hrun : s.ct.running = true) (hwrap : wrapDue s.ct = false) (hext : s.ct.extension ≠ .running) :
    Proper s { s with ct := plainStep s.ct } := by
  refine ⟨fun hs => ?_, fun hq => queueObeys_sublist hq rfl (List.Sublist.refl _) fun _ _ => rfl, .inl (.inl ⟨rfl, rfl, rfl⟩)⟩
  obtain ⟨hcore, haside⟩ := lawful_iff.mp hs
  obtain ⟨-, hlength, hgreatest, htime, hextension, hearly⟩ := hcore.clock
  refine lawful_iff.mpr ⟨hcore.change rfl id ⟨?_, hlength, hgreatest, htime, hextension, hearly⟩ hcore.adjustment,
    fun hin => absurd (haside hin) (not_aside_of_running hrun)⟩
  refine Nat.lt_of_not_le fun hend => ?_
  rw [wrapDue_iff.mpr ⟨hrun, hext, hend⟩] at hwrap
  cases hwrap

theorem wrapDue_ext {t : CT} (h : wrapDue t = true) : t.extension ≠ .running := (wrapDue_iff.mp h).2.1

theorem clockSteps_proper (s : State) : Proper s (clockSteps s) := by
  unfold clockSteps
  split
  · next hrun =>
    unfold doStep
    split
    · next hwrap => exact doWrap_proper (wrapDue_ext hwrap)
    · next hwrap =>
      split
      · next hext =>
        split
        · next p hp =>
          split
          · next hx => exact extensionStep_proper hp hext hx
          · exact .refl s
        · exact .refl s
      · next hext => exact plainStep_proper hrun (Bool.eq_false_iff.mpr hwrap) hext
  · exact .refl s

theorem clockWraps_proper (s : State) : Proper s (clockWraps s) := by
  unfold clockWraps
  split
  · next hwrap => exact doWrap_proper (wrapDue_ext hwrap)
  · exact .refl s

end

end Sys2Proof.Machine

/-! ## The completion and the passing of time keep the laws -/

namespace Sys2Proof.Machine

/-! ### What a computation decides -/

/-- The advertised triple of a computation keeps the law of the triple, and is a multiple of 20 (R106, R109). -/
theorem agreedDemand_law {own hopLimit dq : Nat} {entries : List Entry} (hdq : dq % 20 = 0)
    (hentries : ∀ e ∈ entries, EntryChecked e) :
    (agreedDemand own hopLimit dq entries).value % 20 = 0 ∧ (agreedDemand own hopLimit dq entries).hops ≤ hopLimit
      ∧ ((agreedDemand own hopLimit dq entries).hops = 0 → (agreedDemand own hopLimit dq entries).origin = own) := by
  obtain ⟨hown | hheard, -⟩ := foldl_better (reduceCandidates (heardCandidates own hopLimit entries)) ⟨dq, own, 0⟩
  · rw [agreedDemand, hown]
    exact ⟨hdq, Nat.zero_le _, fun _ => rfl⟩
  · obtain ⟨e, he, hu, hhops, -⟩ := mem_reduceCandidates.mp hheard
    refine ⟨?_, hhops, fun hzero => ?_⟩
    · rw [agreedDemand, hu]
      exact (hentries e he).1.2.2
    · rw [agreedDemand, hu] at hzero
      cases hzero

theorem stepCycle_mod {p : Plan} (hp : p.Checked) {c g : Nat} (hc : c % 20 = 0) (hg : g % 20 = 0) :
    stepCycle p c g % 20 = 0 := by
  obtain ⟨-, -, hstep⟩ := hp.cStep
  obtain ⟨-, -, hmin⟩ := hp.cMin
  obtain ⟨-, -, hmax⟩ := hp.cMax
  rcases lt_trichotomy c g with h | rfl | h
  · rw [stepCycle_up h]
    omega
  · rw [stepCycle_same]
    exact hc
  · rw [stepCycle_down h]
    omega

theorem workingPlan_some {c : Configuration} {f : Option Num4} {n : Snapshot} {k : Num4} {q : Plan}
    (h : workingPlan c f n = some (k, q)) :
    (n.pendingPlan = some k ∨ n.pendingPlan = none ∧ f = some k) ∧ c.plans.get k = some q := by
  have hplan : ∀ j, (match c.plans.get j with | some p => some (j, p) | none => none) = some (k, q) →
      j = k ∧ c.plans.get k = some q := fun j hj => by
    split at hj
    · next hp =>
      cases hj
      exact ⟨rfl, hp⟩
    · cases hj
  unfold workingPlan at h
  cases hn : n.pendingPlan with
  | some j =>
    simp only [hn] at h
    obtain ⟨rfl, hq⟩ := hplan j h
    exact ⟨.inl rfl, hq⟩
  | none =>
    cases hf : f with
    | none => simp only [hn, hf] at h; cases h
    | some j =>
      simp only [hn, hf] at h
      obtain ⟨rfl, hq⟩ := hplan j h
      exact ⟨.inr ⟨rfl, rfl⟩, hq⟩

section
variable {s : State} {c : Configuration} {n : Snapshot} {k : Num4} {q : Plan}

/-- The base cycle and the triple that the computation of a lawful unit decides. -/
theorem compute_lawful (hs : s.Core) (hc : s.config = some c) (hn : s.cau.snapshot = some n)
    (hk : n.pendingPlan = some k ∨ n.pendingPlan = none ∧ s.mc.plan = some k) (hq : c.plans.get k = some q) :
    (q.cMin ≤ (compute c k q n).cycle ∧ (compute c k q n).cycle ≤ q.cMax ∧ (compute c k q n).cycle % 20 = 0)
      ∧ (compute c k q n).triple.hops ≤ c.hopLimit
      ∧ ((compute c k q n).triple.hops = 0 → (compute c k q n).triple.origin = c.station) := by
  have hchecked := (config_checked hs.setup hc).plans k q hq
  obtain ⟨-, hcycle, hentries, -⟩ := hs.snapshot n hn
  have hmod : n.cycle % 20 = 0 := hcycle ▸ cycle_multiple hs.cycle
  obtain ⟨hvalue, htriple⟩ := agreedDemand_law (own := c.station) (hopLimit := c.hopLimit)
    (quantise_mod hchecked (smoothDemand (workingSmoothed q n) (localDemand q (junctionRatio q n.closed n.cPrev)))) hentries
  obtain ⟨hlow, hhigh⟩ := compute_cycle_range (c := c) (k := k) (q := q) (n := n) hchecked fun hnone => by
    have hplan : s.planInForce = some q := by
      rcases hk with hk | ⟨-, hk⟩
      · rw [hnone] at hk
        cases hk
      · simp only [State.planInForce, hc, hk, hq]
    obtain ⟨hlo, hhi, -⟩ := cycle_inLimits hs.cycle hplan
    rw [hcycle]
    exact ⟨hlo, hhi⟩
  refine ⟨⟨hlow, hhigh, stepCycle_mod hchecked ?_ hvalue⟩, htriple⟩
  unfold workingCycle
  split
  · exact (clampNat_cycle hchecked hmod).2.2
  · exact hmod

/-! ### The completion -/

/-- The results of a lawful unit's computation, within 20 ds of its wrap. -/
theorem completed_lawful (hs : s.Lawful) (hc : s.config = some c) (hn : s.cau.snapshot = some n)
    (hk : n.pendingPlan = some k ∨ n.pendingPlan = none ∧ s.mc.plan = some k) (hq : c.plans.get k = some q)
    (hpos : s.ct.position ≤ 20) : (completed c n q (compute c k q n) s).Lawful := by
  obtain ⟨hcore, -⟩ := lawful_iff.mp hs
  have hconfig := config_checked hcore.setup hc
  have hchecked := hconfig.plans k q hq
  obtain ⟨hcycle, htriple⟩ := compute_lawful hcore hc hn hk hq
  obtain ⟨hfrom, hto⟩ := cycle_range hchecked hcycle.1 hcycle.2.1
  obtain ⟨hshort, hlong⟩ := offsetStage_range c.position q (compute c k q n).cycle n
  have hlimit : shorteningLimit q (compute c k q n).cycle ≤ (compute c k q n).cycle / 8 := shorteningLimit_le _ _
  have hin := (hcore.snapshot n hn).1
  obtain ⟨hbelow, -, hgreatest, htime, hextension, hearly⟩ := hcore.clock
  obtain ⟨r, hr⟩ : ∃ r, r = compute c k q n := ⟨_, rfl⟩
  have hoffset : r.offset = offsetStage c.position q r.cycle n := by rw [hr]; rfl
  have hplan : r.plan = k := by rw [hr]; rfl
  rw [← hr] at hcycle htriple hfrom hto hshort hlong hlimit ⊢
  rw [← hoffset] at hshort hlong
  have hforce : (completed c n q r s).planInForce = some q := by
    simp only [State.planInForce, show (completed c n q r s).config = some c from hc,
      show (completed c n q r s).mc.plan = some k from congrArg some hplan, hq]
  have hlength : (completed c n q r s).ct.cRun
      = if s.ct.earlyGreen then s.ct.cRun else ((r.cycle : Int) + r.offset.adjustment + s.ct.x).toNat := rfl
  refine lawful_of_charge ⟨?_, fun _ => hcore.runs hin, fun _ => hcore.elapsed fun hpick => ?_, ?_, ⟨nofun, ?_, ?_⟩,
    (cycleObeys_some hforce).mpr hcycle, (tripleObeys_some (s := completed c n q r s) hc).mpr htriple, hcore.entries,
    fun m hm => ?_, fun d m hm => ?_⟩ rfl
  · refine (setupObeys_some (s := completed c n q r s) hc).mpr ⟨hconfig, ⟨k, q, congrArg some hplan, hq⟩, fun j hj => ?_⟩
    refine ((setupObeys_some hc).mp hcore.setup).2.2 j ?_
    by_cases htaken : s.mc.pendingTaken = true
    · exact (if_pos htaken).symm.trans hj
    · have hnone : (completed c n q r s).mc.pendingPlan = none := if_neg htaken
      rw [hnone] at hj
      cases hj
  · rw [State.inCharge, hpick] at hin
    cases hin
  · refine ⟨?_, fun he => ?_, ?_, htime, hextension, hearly⟩
    · show s.ct.position < (completed c n q r s).ct.cRun
      rw [hlength]
      split
      · exact hbelow
      · omega
    · have hplain : s.ct.earlyGreen = false := he
      rw [hlength, hplain, if_neg nofun]
      show ((_ : Nat) : Int) = (r.cycle : Int) + r.offset.adjustment + s.ct.x
      omega
    · rw [hlength]
      split
      · exact hgreatest
      · omega
  · show -((r.cycle / 8 : Nat) : Int) ≤ r.offset.adjustment
    omega
  · exact hlong
  · cases hm
  · exact ⟨rfl, (hcore.gating d m hm).2⟩

theorem inCharge_of_mode {t : State} (h : t.mc = s.mc) (hin : s.inCharge = true) : t.inCharge = true := by
  rw [State.inCharge, h]
  exact hin

theorem planAtCompletion_minor (hin : s.inCharge = true) : Minor s (planAtCompletion c q s) := by
  obtain ⟨u, hu⟩ : ∃ u, u = enterFullWhenDue c q .outbound (enterFullWhenDue c q .inbound (expireAged q s)) := ⟨_, rfl⟩
  have hfull : Minor s u := by
    rw [hu]
    exact (expireAged_minor s q).trans ((enterFullWhenDue_minor _ c q _).trans (enterFullWhenDue_minor _ c q _))
  have huin : u.inCharge = true := inCharge_of_mode (by rw [hu]; simp) hin
  have hplace : Minor u (replaceGate c q .inbound u) := .of_busy (replaceGate_view u c q _) (.inl huin)
  have hplaced : Minor (replaceGate c q .inbound u) (replaceGate c q .outbound (replaceGate c q .inbound u)) :=
    .of_busy (replaceGate_view _ c q _) (.inl ((frame_inCharge (view_frame (replaceGate_view u c q _))).trans huin))
  have heq : planAtCompletion c q s = replaceGate c q .outbound (replaceGate c q .inbound u) := by rw [hu]; rfl
  rw [heq]
  exact hfull.trans (hplace.trans hplaced)

theorem doCompletion_planned (hc : s.config = some c) (hplan : workingPlan c s.mc.plan n = some (k, q)) {w : State}
    (hw : w = planBrought c n q (completed c n q (compute c k q n) s)) :
    doCompletion n s = if w.ct.earlyGreen then w else takeReachedDeciding c q w := by
  simp only [doCompletion, hc, hplan, hw]
  rfl

/-- The completion of a computation in flight, within 20 ds of its wrap. -/
theorem doCompletion_minor (hn : s.cau.snapshot = some n) (hpos : s.ct.position ≤ 20) : Minor s (doCompletion n s) := by
  by_cases h : ∃ c k q, s.config = some c ∧ workingPlan c s.mc.plan n = some (k, q)
  · obtain ⟨c, k, q, hc, hplan⟩ := h
    obtain ⟨hk, hq⟩ := workingPlan_some hplan
    obtain ⟨v, hv⟩ : ∃ v, v = completed c n q (compute c k q n) s := ⟨_, rfl⟩
    obtain ⟨w, hw⟩ : ∃ w, w = planBrought c n q v := ⟨_, rfl⟩
    have hcompleted : Minor s v := by
      rw [hv]
      exact ⟨fun hs => completed_lawful hs hc hn hk hq hpos,
        fun hs => queueObeys_sublist hs rfl (List.Sublist.refl _) fun _ _ => rfl, rfl, .inl ⟨rfl, rfl, rfl⟩⟩
    have hvin : v.inCharge = true := by rw [hv]; rfl
    have hbrought : Minor v w := by
      rw [hw]
      exact .ite (planAtCompletion_minor hvin) (.refl v)
    have hwin : w.inCharge = true := by
      refine inCharge_of_mode ?_ hvin
      rw [hw, planBrought]
      split
      · simp
      · rfl
    rw [doCompletion_planned hc hplan (hv ▸ hw)]
    exact hcompleted.trans (hbrought.trans (.ite (.refl w) (takeReachedDeciding_minor c q (.inl hwin))))
  · unfold doCompletion
    split
    · next c hc =>
      split
      · next k q hplan => exact absurd ⟨c, k, q, hc, hplan⟩ h
      · exact .refl s
    · exact .refl s

theorem takeStepDues_minor (hrun : s.ct.running = true) : Minor s (takeStepDues s) := by
  unfold takeStepDues
  split
  · exact .ite (.refl s) (takeReachedDeciding_minor _ _ (.inr (.inl hrun)))
  · exact .refl s

theorem computationCompletes_minor (s : State) : Minor s (computationCompletes s) := by
  unfold computationCompletes
  split
  · next n hn =>
    split
    · next hcan =>
      obtain ⟨hrun, -, hpos⟩ := (completionCanFall_iff.mp hcan).2
      have hdues := takeStepDues_minor hrun
      refine hdues.trans (doCompletion_minor ?_ (hdues.position ▸ hpos))
      rw [takeStepDues_cau]
      exact hn
    · exact .refl s
  · exact .refl s

end

/-! ### One decisecond -/

theorem lineTick_occupied (set : DetectorSetting) (l : DetectorLine) : (lineTick set l).occupied = l.occupied := by
  unfold lineTick
  split
  · split <;> rfl
  · rfl

theorem linesTick_occupied (c : Option Configuration) (lines : Eight DetectorLine) (k : Num8) :
    ((linesTick c lines).get k).occupied = (lines.get k).occupied := by
  cases c with
  | none => rfl
  | some c => rw [linesTick, Eight.get_mapNum, lineTick_occupied]

theorem tick_lawful {s : State} (hs : s.Lawful) : (tick s).Lawful := by
  obtain ⟨hcore, haside⟩ := lawful_iff.mp hs
  obtain ⟨hbelow, hlength, hgreatest, htime, hextension, hearly⟩ := hcore.clock
  have hmc : (tick s).mc = { s.mc with pickupElapsed :=
      if s.mc.mode = .pickup then s.mc.pickupElapsed + 1 else s.mc.pickupElapsed } := pickupTick_eq s.mc
  have hin : (tick s).inCharge = s.inCharge := by
    rw [State.inCharge, hmc]
    rfl
  have hforce : (tick s).planInForce = s.planInForce := by
    rw [State.planInForce, hmc]
    rfl
  refine lawful_iff.mpr ⟨⟨?_, fun h => hcore.runs (hin ▸ h), fun h => ?_,
    ⟨hbelow, hlength, hgreatest, htime, hextension, hearly⟩, hcore.adjustment, ?_, hcore.triple, fun e he => ?_,
    fun n hn => ?_, fun d n hn => ?_⟩, fun h => ?_⟩
  · have hsetup := hcore.setup
    rw [State.SetupObeys] at hsetup ⊢
    rw [hmc]
    exact hsetup
  · rw [hmc] at h ⊢
    have hmode : s.mc.mode ≠ .pickup := h
    show (if s.mc.mode = .pickup then s.mc.pickupElapsed + 1 else s.mc.pickupElapsed) = 0
    rw [if_neg hmode]
    exact hcore.elapsed hmode
  · have hcycle := hcore.cycle
    rw [State.CycleObeys] at hcycle ⊢
    rw [hforce]
    exact hcycle
  · obtain ⟨f, hf, rfl⟩ := List.mem_map.mp he
    exact hcore.entries f hf
  · rw [hin]
    exact hcore.snapshot n hn
  · obtain ⟨hcharge, c, hc, e, he, hcalls⟩ := hcore.gating d n hn
    exact ⟨hin.trans hcharge, c, hc, _, List.mem_map_of_mem he, hcalls⟩
  · obtain ⟨hclock, hcomp, href, hgreen, hlines, ⟨hqueue, hext, hused, hgrant⟩, hgate, htimer, hstorage, hbeacon⟩ :=
      haside (hin.symm.trans h)
    refine ⟨hclock, hcomp, href, hgreen, hlines, ⟨?_, hext, hused, hgrant⟩, hgate, ?_, hstorage, hbeacon⟩
    · show s.pa.queue.map requestTick = []
      rw [hqueue]
      rfl
    · show countDown s.lc.beaconTimer = none
      rw [htimer]
      rfl

theorem tick_queue {s : State} (hs : s.QueueObeys) : (tick s).QueueObeys := by
  have hlines : (s.pa.queue.map requestTick).map Request.line = s.pa.queue.map Request.line := by
    rw [List.map_map]
    rfl
  cases hc : s.config with
  | none =>
    simp only [State.QueueObeys, hc] at hs
    refine queueObeys_nil ?_
    show s.pa.queue.map requestTick = []
    rw [hs]
    rfl
  | some c =>
    obtain ⟨hone, hoccupied⟩ := queueLaw_of hs hc
    refine queueObeys_of (s := tick s) hc ⟨?_, fun r hr => ?_⟩
    · show ((s.pa.queue.map requestTick).map Request.line).Nodup
      rw [hlines]
      exact hone
    · obtain ⟨f, hf, rfl⟩ := List.mem_map.mp hr
      refine ⟨?_, (hoccupied f hf).2⟩
      show ((linesTick s.config s.di.lines).get f.line).occupied = true
      rw [linesTick_occupied]
      exact (hoccupied f hf).1

theorem tick_proper (s : State) : Proper s (tick s) := ⟨tick_lawful, tick_queue, .inl (.inl ⟨rfl, rfl, rfl⟩)⟩

theorem idle_proper (s : State) : Proper s (idle s) :=
  .ite (.ite (tick_proper s) (.of_eq ⟨rfl, rfl⟩)) (.refl s)

end Sys2Proof.Machine

/-! ## Every step keeps the laws together, and the law of transit requests (O39, O40) -/

namespace Sys2Proof.Machine

/-! ### The cabinet port -/

section
variable (s : State)

theorem respond_minor (h : InHand) (b : List Byte) : Minor s (respond h b s) := .of_eq ⟨rfl, rfl⟩

theorem setPort_minor (r : PortReceiver) : Minor s (setPort r s) := .of_eq ⟨rfl, rfl⟩

theorem setManual_minor (k : Num8) (v : Option Bool) : Minor s (setManual k v s) := by
  refine .of_view rfl fun _ h => ⟨h.reference, h.greens, fun j => ?_, h.gating, h.slots⟩
  show ((s.olu.set k { s.olu.get k with manual := v }).get j).drive = false
  rw [Eight.get_set]
  split
  · exact h.lines k
  · exact h.lines j

theorem actLog_minor : Minor s (actLog s) := by
  unfold actLog
  split
  · exact .of_eq ⟨rfl, rfl⟩
  · exact .of_eq ⟨rfl, rfl⟩

theorem actClear_minor (w : Word16) : Minor s (actClear w s) := .ite (respond_minor s _ _) (.of_eq ⟨rfl, rfl⟩)

theorem actMask_minor (w : Word16) : Minor s (actMask w s) := .ite (respond_minor s _ _) (.of_eq ⟨rfl, rfl⟩)

theorem actManual_minor (k v : Byte) : Minor s (actManual k v s) := by
  unfold actManual
  split
  · exact (setManual_minor s _ _).trans (respond_minor _ _ _)
  · exact respond_minor s _ _

theorem actRelease_minor (k : Byte) : Minor s (actRelease k s) := by
  unfold actRelease
  split
  · exact (setManual_minor s _ _).trans (respond_minor _ _ _)
  · exact respond_minor s _ _

/-- A computation in flight is abandoned (R101). -/
theorem abandoned_minor : Minor s { s with cau := abandoned s.cau } := by
  refine ⟨fun hs => ?_, fun hq => queueObeys_sublist hq rfl (List.Sublist.refl _) fun _ _ => rfl, rfl,
    .inl ⟨rfl, rfl, rfl⟩⟩
  obtain ⟨hcore, haside⟩ := lawful_iff.mp hs
  obtain ⟨hbelow, hlength, hgreatest, htime, hextension, hearly⟩ := hcore.clock
  refine lawful_iff.mpr ⟨⟨hcore.setup, hcore.runs, hcore.elapsed,
    ⟨hbelow, hlength, hgreatest, htime, hextension, hearly⟩, hcore.adjustment, hcore.cycle, hcore.triple, hcore.entries,
    fun n hn => ?_, hcore.gating⟩, fun hin => ?_⟩
  · cases hn
  · obtain ⟨hclock, -, href, hgreen, hlines, harbiter, hgate, hslots⟩ := haside hin
    exact ⟨hclock, rfl, href, hgreen, hlines, harbiter, hgate, hslots⟩

/-! ### PLAN, HOLD and RESUME -/

variable {s} {c : Configuration} {n : Num4} {p : Plan}

theorem expireAged_noGrant (p : Plan) (s : State) : NoGrant s (expireAged p s) := by
  have hgrants : (expireAged p s).grants = s.grants := by
    refine foldl_keeps State.grants _ (fun s r => ?_) _ s
    split <;> rfl
  have hused : (expireAged p s).pa.grantUsed = s.pa.grantUsed := by
    refine foldl_keeps (fun s : State => s.pa.grantUsed) _ (fun s r => ?_) _ s
    split <;> rfl
  exact ⟨congrArg Prod.fst hgrants, congrArg Prod.snd hgrants, hused⟩

theorem planStanding_noGrant : NoGrant s (planStanding c n p s) := by
  obtain ⟨u, hu⟩ : ∃ u, u = expireAged p (planTaken n p s) := ⟨_, rfl⟩
  have heq : planStanding c n p s = enterFullWhenDue c p .outbound (enterFullWhenDue c p .inbound u) := by rw [hu]; rfl
  have hnone : NoGrant s u := by
    rw [hu]
    exact expireAged_noGrant p (planTaken n p s)
  rw [heq, NoGrant, enterFullWhenDue_counters, enterFullWhenDue_counters, enterFullWhenDue_pa, enterFullWhenDue_pa]
  exact hnone

theorem pendingPlan_minor (b : Bool) (hc : s.config = some c) (hp : c.plans.get n = some p) :
    Minor s { s with mc := { s.mc with pendingPlan := some n, pendingTaken := b } } := by
  refine ⟨fun hs => ?_, fun hq => queueObeys_sublist hq rfl (List.Sublist.refl _) fun _ _ => rfl, rfl,
    .inl ⟨rfl, rfl, rfl⟩⟩
  obtain ⟨hcore, haside⟩ := lawful_iff.mp hs
  obtain ⟨hchecked, hplan, -⟩ := (setupObeys_some hc).mp hcore.setup
  obtain ⟨hbelow, hlength, hgreatest, htime, hextension, hearly⟩ := hcore.clock
  refine lawful_iff.mpr ⟨⟨?_, hcore.runs, hcore.elapsed, ⟨hbelow, hlength, hgreatest, htime, hextension, hearly⟩,
    hcore.adjustment, hcore.cycle, hcore.triple, hcore.entries, hcore.snapshot, hcore.gating⟩, fun hin => ?_⟩
  · refine (setupObeys_some (s := { s with mc := { s.mc with pendingPlan := some n, pendingTaken := b } }) hc).mpr
      ⟨hchecked, hplan, fun m hm => ?_⟩
    cases hm
    rw [hp]
    rfl
  · obtain ⟨hclock, hcomp, href, hgreen, hlines, harbiter, hgate, hslots⟩ := haside hin
    exact ⟨hclock, hcomp, href, hgreen, hlines, harbiter, hgate, hslots⟩

theorem choosePlan_proper (hc : s.config = some c) (hp : c.plans.get n = some p) :
    Proper s (choosePlan c n p s) := by
  unfold choosePlan
  split
  · exact .of_minor (pendingPlan_minor _ hc hp)
  · next hin =>
    refine .after (planStanding_minor (Bool.eq_false_iff.mpr hin) hc hp) planStanding_noGrant ?_
    exact .ite (pickupExpires_proper _) (.refl _)

theorem namedPlan_some {b : Byte} (h : namedPlan c b = some (n, p)) : c.plans.get n = some p := by
  unfold namedPlan at h
  split at h
  · split at h
    · next hp =>
      cases h
      exact hp
    · cases h
  · cases h

theorem actPlan_proper (b : Byte) (s : State) : Proper s (actPlan b s) := by
  unfold actPlan
  split
  · exact .of_minor (respond_minor s _ _)
  · next c hc =>
    split
    · next n p hnamed => exact (choosePlan_proper hc (namedPlan_some hnamed)).andThen (respond_minor _ _ _)
    · exact .of_minor (respond_minor s _ _)

theorem actResume_proper (s : State) : Proper s (actResume s) := by
  unfold actResume
  split
  · next c hc =>
    split
    · next hpass =>
      have hin : s.inCharge = false := by
        rw [State.inCharge, hpass]
        rfl
      exact (leavePass_proper hc hin).andThen (respond_minor _ _ _)
    · exact .of_minor (respond_minor s _ _)
  · exact .of_minor (respond_minor s _ _)

theorem actHold_proper (s : State) : Proper s (actHold s) := (holdUnit_proper s).andThen (respond_minor _ _ _)

theorem actKind_proper (k : HostKind) (args : List Byte) (s : State) : Proper s (actKind k args s) := by
  cases k with
  | status | table | counters | flags => exact .of_minor (respond_minor s _ _)
  | log => exact .of_minor (actLog_minor s)
  | clear => exact .of_minor (actClear_minor s _)
  | mask => exact .of_minor (actMask_minor s _)
  | plan => exact actPlan_proper _ s
  | manual => exact .of_minor (actManual_minor s _ _)
  | release => exact .of_minor (actRelease_minor s _)
  | hold => exact actHold_proper s
  | resume => exact actResume_proper s
  | restart => exact .of_minor ((abandoned_minor s).trans (respond_minor _ _ _))

/-! ### Messages, byte by byte -/

theorem Proper.after_port {s t : State} {r : PortReceiver} (h : Proper (setPort r s) t) : Proper s t :=
  .after (setPort_minor s r) (.of_view rfl) h

theorem takeMessage_proper {f : State → State} (hf : ∀ s, Proper s (f s)) (s : State) : Proper s (takeMessage f s) := by
  unfold takeMessage
  split
  · exact .after_port (hf _)
  · exact .refl s

theorem endMalformed_proper (o : Bool) (e : Byte) (s : State) : Proper s (endMalformed o e s) :=
  .ite (.of_minor (setPort_minor s _))
    (.after_port (takeMessage_proper (fun s => .of_minor (respond_minor s _ _)) _))

theorem endMessage_proper (o : Bool) (n : Nat) (got : List Byte) (b : Byte) (s : State) :
    Proper s (endMessage o n got b s) := by
  refine .ite (.of_minor (setPort_minor s _)) (.ite (endMalformed_proper _ _ s) ?_)
  split
  · exact .ite (.after_port (takeMessage_proper (actKind_proper _ _) _)) (endMalformed_proper _ _ s)
  · exact endMalformed_proper _ _ s

theorem openMessage_minor (s : State) : Minor s (openMessage s) := by
  unfold openMessage
  split
  · exact setPort_minor s _
  · exact (setPort_minor s _).trans ((count_minor _ .portOverrun ⟨nofun, nofun⟩).trans (setFlag_minor _ _))

theorem portByte_proper (b : Byte) (e : Bool) (s : State) : Proper s (portByte b e s) := by
  unfold portByte
  split
  · exact .of_minor (.ite (openMessage_minor s) (.refl s))
  · exact .ite (.of_minor (setPort_minor s _)) (endMalformed_proper _ _ s)
  · exact .ite (endMalformed_proper _ _ s) (.of_minor (.ite (setPort_minor s _) (setPort_minor s _)))
  · exact .ite (endMalformed_proper _ _ s) (endMessage_proper _ _ _ b s)

theorem portTimeout_proper (s : State) : Proper s (portTimeout s) := by
  unfold portTimeout
  split
  · exact .refl s
  · exact endMalformed_proper _ _ s
  · exact endMalformed_proper _ _ s
  · exact endMalformed_proper _ _ s

theorem responseDone_proper (s : State) : Proper s (responseDone s) := by
  unfold responseDone
  split
  · exact actRestart_proper s
  · exact .of_eq ⟨rfl, rfl⟩
  · exact .refl s

end

/-! ### Every command -/

theorem worked_proper (i : Instr) (s : State) : Proper s (worked i s) := by
  cases i with
  | powerUp => exact powerUp_proper s
  | configLoadComplete o => exact completeLoad_proper o s
  | lineBusy => exact .of_minor (startBit_minor s)
  | lineIdle => exact .of_minor (idleGap_minor s)
  | deferralEnd => exact .of_minor (deferralRunsOut_minor s)
  | frameMark => exact .of_minor (frameMarkPasses_minor s)
  | frameReceived b => exact .of_minor (lastCheckByte_minor s b)
  | collision => exact .of_minor (collisionFound_minor s)
  | attemptSuccess => exact .of_minor (attemptDone_minor s)
  | beaconTimerExpiry => exact .of_minor (beaconTimerOut_minor s)
  | linkSilent => exact .of_minor (silenceTimerOut_minor s)
  | entryQuiet n => exact .of_minor (entryTurnsQuiet_minor s n)
  | expiry n => exact .of_minor (entryExpires_minor s n)
  | clockStep => exact clockSteps_proper s
  | wrap => exact clockWraps_proper s
  | completion => exact .of_minor (computationCompletes_minor s)
  | markDue m => exact .of_minor (markComesDue_minor s m)
  | gatePointReached d => exact .of_minor (gatePointComes_minor s d)
  | windowOpening => exact .of_minor (windowOpens_minor s)
  | extensionLimit => exact .of_minor (extensionRunsOut_minor s)
  | requestExpiry k => exact .of_minor (requestRunsOut_minor s k)
  | detectorInputChange k v => exact .of_minor (detectorChanges_minor k v s)
  | filteredRisingEdge k => exact .of_minor (lineRises_minor k s)
  | filteredFallingEdge k => exact .of_minor (lineFalls_minor k s)
  | stuckOn k => exact .of_minor (lineSticksOn_minor s k)
  | fullEntry d => exact .of_minor (directionFills_minor s d)
  | fullRelease d => exact .of_minor (directionClears_minor s d)
  | cabinetInputChange n v => exact .of_minor (changeInput_minor s _ n)
  | syncRisingEdge => exact syncRises_proper s
  | syncFallingEdge => exact .of_minor (.ite (changeInput_minor s _ .sync) (.refl s))
  | preemptRisingEdge => exact preemptRises_proper s
  | preemptFallingEdge => exact preemptFalls_proper s
  | pickupTimeout => exact pickupRunsOut_proper s
  | passThroughChange k v => exact .of_minor (setPassThrough_minor s k v)
  | malformedMessage b => exact takeMessage_proper (fun s => .of_minor (respond_minor s _ _)) s
  | messageTimeout => exact portTimeout_proper s
  | portOverrun => exact .of_minor (.ite (openMessage_minor s) (.refl s))
  | responseSent => exact responseDone_proper s
  | status => exact takeMessage_proper (actKind_proper .status []) s
  | table => exact takeMessage_proper (actKind_proper .table []) s
  | counters => exact takeMessage_proper (actKind_proper .counters []) s
  | flags => exact takeMessage_proper (actKind_proper .flags []) s
  | log => exact takeMessage_proper (actKind_proper .log []) s
  | clear w => exact takeMessage_proper (fun s => .of_minor (actClear_minor s w)) s
  | mask w => exact takeMessage_proper (fun s => .of_minor (actMask_minor s w)) s
  | plan n => exact takeMessage_proper (actPlan_proper n) s
  | manual k v => exact takeMessage_proper (fun s => .of_minor (actManual_minor s k v)) s
  | release k => exact takeMessage_proper (fun s => .of_minor (actRelease_minor s k)) s
  | hold => exact takeMessage_proper actHold_proper s
  | resume => exact takeMessage_proper actResume_proper s
  | restart => exact takeMessage_proper (actKind_proper .restart []) s
  | linkByteReceived b e => exact .of_minor (.ite (receiveByte_minor s b e) (.refl s))
  | portByteReceived b e => exact portByte_proper b e s
  | resetAsserted | supplyOutOfRange => exact .of_eq ⟨rfl, rfl⟩

theorem ignored_proper (i : Instr) (s : State) : Proper s (ignored i s) := by
  cases i with
  | powerUp => exact powerUp_proper s
  | detectorInputChange k v => exact .of_minor (setRaw_minor s k v)
  | cabinetInputChange n v => exact .of_minor (changeInput_minor s _ n)
  | passThroughChange k v => exact .of_minor (setPassThrough_minor s k v)
  | _ => exact .of_eq ⟨rfl, rfl⟩

theorem step_proper {s t : State} (h : step s = .next t) : Proper s t :=
  step_relates (r := Proper) (fun s l _ ht => .after_eq (t := { s with pending := l }) ⟨rfl, rfl⟩ ht) (fun c s _ => worked_proper c s)
    (fun c s _ => ignored_proper c s) idle_proper h

/-! ### The statements -/

/-- Settles O39: each operation of a step keeps the laws together. -/
theorem everyStepIsLawful : Obligations.EveryStepIsLawful := fun _ _ hs h => (step_proper h).lawful hs

/-- The lines with a request are transit lines, and no line has two: there are at most four (R145). -/
theorem queue_atMostFour {s : State} {c : Configuration} (hc : c.Checked) (h : QueueLaw c s) :
    s.pa.queue.length ≤ 4 := by
  have hsubset : s.pa.queue.map Request.line ⊆ Num8.all.filter fun k => (roleTransit (c.role k)).isSome := fun k hk => by
    obtain ⟨r, hr, rfl⟩ := List.mem_map.mp hk
    refine List.mem_filter.mpr ⟨Num8.mem_all _, ?_⟩
    rw [(h.occupied r hr).2]
    rfl
  calc s.pa.queue.length = (s.pa.queue.map Request.line).length := (List.length_map _).symm
    _ ≤ (Num8.all.filter fun k => (roleTransit (c.role k)).isSome).length :=
      (List.subperm_of_subset h.onePerLine hsubset).length_le
    _ ≤ 4 := hc.fourTransit

/-- What a step does with grants, in the counters and in grant used. -/
theorem Proper.grant_once {s t : State} (h : Proper s t) :
    (s.counters.priorityExtended < t.counters.priorityExtended ∨ s.counters.priorityEarly < t.counters.priorityEarly →
        t.pa.grantUsed = true ∧ (s.pa.grantUsed = false ∨ t.ct.position = 0))
      ∧ (s.pa.grantUsed = true → t.pa.grantUsed = false → t.ct.position = 0) := by
  rcases h.grants with (⟨hext, hearly, hused⟩ | ⟨hno, hyes⟩) | ⟨hpos, hgrant⟩
  · refine ⟨fun hmore => ?_, fun hs ht => ?_⟩
    · rw [hext, hearly] at hmore
      omega
    · rw [hused, hs] at ht
      cases ht
  · refine ⟨fun _ => ⟨hyes, .inl hno⟩, fun hs _ => ?_⟩
    rw [hs] at hno
    cases hno
  · exact ⟨fun hmore => ⟨hgrant hmore, .inr hpos⟩, fun _ _ => hpos⟩

/-- Settles O40: each operation of a step keeps the law of the queue, and makes at most the first grant of a cycle. -/
theorem queueLawIsKept : Obligations.QueueLawIsKept :=
  ⟨⟨fun _ _ hs h => (step_proper h).queue hs, fun _ _ hc h => queue_atMostFour hc h⟩,
    fun _ _ h => (step_proper h).grant_once⟩

end Sys2Proof.Machine
